-- ==== Sys2Proof/Word.lean ====
section
/-!
DEFINITION. Sys2Proof/Word.lean: the register word (R3), the byte, and the sparse table type that holds numbered things.
-/
namespace Sys2Proof

/-- A register is 32 bits wide, bit 0 least significant (R3). -/
abbrev Word := BitVec 32

/-- One byte of a record, page or descriptor. -/
abbrev Byte := BitVec 8

/-- A sparse numbered collection: pairs of an index and a value, indices strictly rising, and no pair that holds the
value an unlisted index reads as. Equal collections are equal lists. -/
abbrev Tab (α : Type) := List (Nat × α)

end Sys2Proof
end

