-- ==== Sys2Proof/Syntax.lean ====
section
/-!
DEFINITION. Sys2Proof/Syntax.lean: the commands of the block, one constructor per row of the opcode table, with what the
outside world brings to each: the value of a write, the descriptor of a ring command, the measured or received data of an
event. Unit numbers are bounded by their type; lengths of lists are bounded in WellFormed.
-/
namespace Sys2Proof

/-- The common bytes of a command descriptor (R220): the command ring it is fetched from, its tag, byte 1, byte 2, whether
any other byte that its opcode does not define is not 0, and whether the read of the descriptor from host memory failed
(R244, R247). -/
structure Desc where
  ring : Fin 16
  tag : Word
  flags : Byte := 0
  sid : Byte := 0
  extra : Bool := false
  lost : Bool := false
  deriving DecidableEq, Repr

/-- A burst of 64 codes with its 16-bit tag, as a converter core delivers it (R41). -/
structure Burst where
  tag : BitVec 16
  codes : List Int
  deriving DecidableEq, Repr

/-- A sub-band sample of a remote input as a Quirov link delivers it (R97, R252): source, port-plane index, word and side
flags, with the SBSHIFT it was formed with and N_RX of its port. -/
structure RemoteSmp where
  sid : Fin 4
  port : Fin 96
  k : Fin 1024
  m : Nat
  i : Int
  q : Int
  flags : Fin 16
  shift : Fin 6
  nRx : Nat
  deriving DecidableEq, Repr

/-- What another device says of a path its crossfade has ended (R97): its SID, the path, and the streams of this device that no path of
it takes any more. -/
structure Released where
  sid : Fin 4
  path : Fin 4096
  streams : List (Fin 96 × Fin 1024)
  deriving DecidableEq, Repr

/-- What a control or bulk flit that arrives says (R252, R254): its sequence, the sequence it acknowledges, and whether the flit after
that one failed its CRC. -/
structure CtlFlit where
  seq : Word
  ack : Word
  again : Bool
  deriving DecidableEq, Repr

/-- A measured update of one background residual of a unit (R43): unit, factor 0-12, change. -/
structure BgcUpdate where
  unit : Fin 112
  factor : Fin 13
  delta : Int
  deriving DecidableEq, Repr

/-- What the master's beat token says beside its device time (R265, R269, R274, R276; DESIGN CHOICE, log 163): VALID, the role of the
stack, the promotion beat, and whether every device is to send its configuration to its counterpart. -/
structure Token where
  valid : Bool
  role : Fin 5
  promo : Option Nat
  resync : Bool
  deriving DecidableEq, Repr

/-- What the two extra conversions of a housekeeping unit read (R283): input 255, the reference, and the grounded input. -/
structure RefReadings where
  ref : BitVec 16
  ground : BitVec 16
  deriving DecidableEq, Repr

/-- What the steps of a comparator check find (R299): the raw results with the input tied to 0 V and to 2.048 V (0 INSIDE, 1 ABOVE,
2 BELOW), the 8 samples of each half before and after the swap, and the conversions of the two threshold DACs. -/
structure CheckReadings where
  low : Fin 3
  high : Fin 3
  halves : List (List Bool × List Bool)
  lo : BitVec 16
  hi : BitVec 16
  deriving DecidableEq, Repr

/-- What a beat boundary brings beside the slips: the measured residual updates (R43), and the link streams given up (R97). -/
structure BeatReport where
  resid : List BgcUpdate
  released : List Released
  deriving DecidableEq, Repr

/-- Crossing tokens that are missing at a sub-band sample on the receive side (R18): of an input of a path into its fabric quarter,
of a port into its canceller slice, and of a port into its watch slice. -/
structure MissingIn where
  fabric : List (Fin 4096 × Fin 4)
  cxl : List (Fin 96)
  watch : List (Fin 96)
  deriving DecidableEq, Repr

/-- What a flit of link l returns (R253, R254): n credits, and what it says where it is a control or bulk flit. -/
structure CreditReturn where
  n : Nat
  flit : Option CtlFlit
  deriving DecidableEq, Repr

/-- A message to the fault collector (R368), with its sending block and the parameter words that follow it. -/
structure FaultMsg where
  block : Nat
  seq : Fin 1024
  source : Fin 384
  kind : Byte
  cls : Fin 4
  address : Word
  p1 : Word
  p2 : Word
  p3 : Word
  deriving DecidableEq, Repr

/-- The apply mode bits of a COMMIT with their operand (R220), and the level of PROV_N, which the checks of a protected Volley read
(R197, R406). -/
structure CommitOp where
  mode : Fin 4
  nextBeat : Bool
  beat : BitVec 64
  frac : Word
  sec : BitVec 48
  provN : Bool := true
  deriving DecidableEq, Repr

/-- What a power-supply device answers to a poll (R335, R336). -/
structure PmAnswer where
  device : Fin 28
  ok : Bool
  status : BitVec 16
  words : List Nat
  deriving DecidableEq, Repr

/-- What a power-on finds beside the pins SID and PAIR_SIDE (R206, R208, R405, R406): the level of PROV_N, the supply of each bank
of the control I/O, in mV, and the operating-time cells and calibration banks that differ from what was last written. -/
structure PowerFound where
  provN : Bool
  volts : List Nat
  cells : List (Fin 64 × List Byte)
  banks : List (Fin 2 × List Byte)
  deriving DecidableEq, Repr

/-- A cancel link in an epoch (R272): its ISO_LCFG, taps in units of 2^−30, rhobar in units of 2^−96, SBSHIFT of its victim
port and temperature band of its victim tile. -/
structure EpochLink where
  link : Fin 16384
  cfg : Word
  taps : List (Int × Int)
  rhobar : Nat
  shift : Fin 8
  band : Fin 8
  deriving DecidableEq, Repr

/-- A band path in an epoch (R272): state, G_app in 0.05 dB, and its shutdown history as ages in 1/65,536 s of operating time,
the hold-off still to run, lock-out and latched Offside mute. -/
structure EpochPath where
  path : Fin 4096
  state : Fin 8
  gain : Int
  ages : List Nat
  hold : Option Nat
  lockout : Bool
  offside : Bool
  deriving DecidableEq, Repr

/-- A loop slot in an epoch (R272): integrator and output. -/
structure EpochSlot where
  slot : Fin 512
  integ : Int
  out : Int
  deriving DecidableEq, Repr

/-- An epoch (R272): device time at capture, in units of 2^−32 s, its validity, and what the device held. -/
structure Epoch where
  time : Nat
  valid : Bool
  links : List EpochLink
  paths : List EpochPath
  slots : List EpochSlot
  deriving DecidableEq, Repr

/-- The commands of the MQ96, in the order of the opcode table. -/
inductive Instr where
  | registerWrite (off : Nat) (bytes : Fin 9) (val : BitVec 64)
  | counterClear (off : Nat) (val : Word)
  | beatBoundary (slips : List (Fin 36)) (report : BeatReport)
  | alignmentPulse
  | slipRepin (island : Fin 36)
  | unitRepin (island : Fin 36)
  | mergerSlot (u : Fin 112) (a b : List Burst)
  | stormRecalDone (u : Fin 112) (meas : Option (List Word))
  | rxGapEnd (u : Fin 112)
  | arcInterval (p : Fin 96)
  | compSwitch (p : Fin 96)
  | ovrDetect (u : Fin 112) (group : Nat)
  | bgcConverged (u : Fin 112)
  | tbandSet (t : Fin 16)
  | dacRampDone (p : Fin 96)
  | bubbleMuteRelease (p : Fin 96)
  | orxSettleEnd (t : Fin 16)
  | convCal (d : Desc) (mask : BitVec 16) (save : Bool)
  | calDone (t : Fin 16) (meas : List (List Word))
  | calSaveDone (ok : Bool)
  | subbandSample (missIn : MissingIn) (missOut : List (Fin 96 × Fin 1024)) (remote : List RemoteSmp)
  | protoSwitchEnd (p : Fin 96)
  | volleyApply (v : Fin 8)
  | xfadeStart (x : Fin 64)
  | xfadeDone (x : Fin 64)
  | xfadeAbort (x : Fin 64)
  | remoteInputResume (l : Fin 4)
  | routeEcc (q : Fin 4)
  | routeEccFatal (q : Fin 4)
  | routeReload (q : Fin 4)
  | isoBlockEnd
  | backoffStep (b : Fin 4096)
  | backoffRecovered (b : Fin 4096)
  | backoffReleaseStep (b : Fin 4096)
  | pathShutdown (b : Fin 4096)
  | pathRestart (b : Fin 4096)
  | isoClearLockout (b : Fin 4096)
  | isoClearOffside (b : Fin 4096)
  | squelch (b : Fin 4096)
  | squelchEnd (b : Fin 4096)
  | coldStartStep (b : Fin 4096)
  | trainLimited (b : Fin 4096)
  | seedWrite (l : Fin 16384)
  | cxlEcc (c : Fin 8)
  | cxlSliceLost (c : Fin 8)
  | sliceReload (c : Fin 8)
  | isoLselSnapshot (val : Word)
  | fineTransform (n : Fin 96)
  | integrationEnd (n : Fin 96)
  | productHandover (n : Fin 96)
  | watchEcc (w : Fin 8)
  | watchSliceLost (w : Fin 8)
  | watchSliceRestart (w : Fin 8)
  | snapTrigger (d : Desc) (slot : Byte) (atIndex : Bool) (idx : BitVec 64)
  | snapDone (x : Fin 16)
  | snapMove (d : Desc) (slot : Byte)
  | snapMoved (x : Fin 16)
  | snapAbort (x : Fin 16)
  | captureEcc (x : Fin 16)
  | offsideDwellEnd (t : Fin 16) (n : Fin 8) (level : List (Fin 1024 × Nat))
  | standbyToSynth (u : Option (Fin 16))
  | synthToReceive (u : Option (Fin 16))
  | paBiasEnHigh (t : Fin 16)
  | paEnHigh (p : Fin 96)
  | paBiasEnLow (p : Fin 96)
  | relayToReceive (u : Option (Fin 16))
  | receiveToSynth (u : Option (Fin 16))
  | synthToStandby (u : Option (Fin 16))
  | sleepEntry
  | synthCal (d : Desc) (mask : Byte)
  | synthCalDone (q : Fin 4)
  | synthUnlock (q : Fin 4)
  | forcedCapClear (t : Fin 16) (val : Word)
  | paFault (p : Fin 96)
  | paFltHigh (p : Fin 96)
  | paFltClear (p : Fin 96) (val : Word)
  | qreqInRise (q : Fin 4)
  | qgrant (q : Fin 4)
  | qreqInFall (q : Fin 4)
  | qgntInRise (q : Fin 4)
  | qgntInFall (q : Fin 4)
  | qgntTimeout (q : Fin 4)
  | gateBlockEnd
  | nonceGet (d : Desc) (addr : BitVec 64)
  | nonceExpiry
  | lockChange (d : Desc) (len : Word) (record : Option (List Byte))
  | lockJournalSealed (v : Fin 4)
  | lockApplied (v : Fin 4)
  | persistentWrite (off : Nat) (val : Word)
  | pageCommit (page : Fin 256)
  | pgselSnapshot (val : Word)
  | optimeCellWrite
  | cmdTailDoorbell (r : Fin 16) (val : Word)
  | cplHeadDoorbell (c : Fin 16) (val : Word)
  | evtHeadDoorbell (e : Fin 8) (val : Word)
  | streamTailDoorbell (r : Fin 64) (val : Word) (posted : Option (List (Nat × Nat)))
  | heartbeat (val : Word)
  | ringEnable (off : Nat) (val : Word)
  | ringDisable (off : Nat) (val : Word)
  | begin_ (d : Desc)
  | write32 (d : Desc) (off val : Word)
  | writeBlock (d : Desc) (off count : Word) (data : Option (List Word))
  | commit (d : Desc) (op : CommitOp)
  | abort (d : Desc) (slot : Fin 4) (opened : Bool)
  | nop (d : Desc)
  | invalidOpcode (d : Desc) (opcode : Byte)
  | volleyValidation (v : Fin 4)
  | stackPrepare (slot : Fin 4) (beat : Nat) (mode : Fin 3) (given : Nat) (offs : List (Word × Word))
      (sends : List (Fin 4 × Fin 96 × Fin 1024))
  | stackReady (v : Fin 4) (sid : Fin 4) (status : BitVec 16) (index : Nat)
  | stackGoDecision (v : Fin 4)
  | stackGo (slot : Fin 4)
  | stackAbort (slot : Fin 4)
  | stackVolleyDiscard (slot : Fin 4)
  | stackAck (v : Fin 4) (sid : Fin 4)
  | stackCompletion (v : Fin 4)
  | hostLost
  | hostLostClear (val : Word)
  | recordWaitTimeout (idx : Nat)
  | exportLink (e : Fin 8) (up : Bool)
  | exportTransmit (e : Fin 8)
  | pfcPause (e : Fin 8) (pause : Bool)
  | interruptTimer (kind : Fin 4) (i : Fin 64)
  | pcieLinkUp (gen : Fin 7) (width : Fin 17)
  | pcieLinkDown
  | linkTrain (l : Fin 4)
  | linkAligning (l : Fin 4) (peerSid : Fin 4) (peerSide : Bool) (peerLink : Fin 4) (delay : Nat)
  | linkTrainTimeout (l : Fin 4)
  | linkRetry (l : Fin 4)
  | linkUp (l : Fin 4) (peerRole : Fin 5) (peerLocks : List Word)
  | linkDown (l : Fin 4)
  | linkCrc (l : Fin 4) (stream : Option (Fin 4 × Fin 96 × Fin 1024 × Nat))
  | linkCreditStall (l : Fin 4)
  | linkRetrain (d : Desc) (mask : Byte)
  | gridMark (beat : Nat) (time : Nat)
  | stackRealign (d : Desc)
  | beatToken (time : Nat) (token : Token)
  | stackMasterLost
  | dugoutMsg
  | stackMemberLost (sid : Fin 4)
  | timFracRead
  | timeSetArm (val : Word)
  | timeSet
  | ppsEdge
  | ppsLost
  | ppsOutPulse
  | ptpSync (port : Fin 2) (domain : Byte) (offset : Int)
  | mirrorReceive (seq : Word) (whole : Bool) (members : List (Word × Word))
  | mirrorApply
  | epochTake
  | epochReceive (number : Word) (epoch : Option Epoch)
  | relinquish
  | link3LossTimer
  | promotionBeat
  | promotionCapLift
  | pairSwap (d : Desc)
  | swapRequest
  | pairPromote (d : Desc)
  | pairResync (d : Desc)
  | resyncApply (seq : Word) (regs : List (Word × Word))
  | hkConversion (unit : Fin 2) (raw : BitVec 16) (dither : Fin 4)
  | hkRefCheck (unit : Fin 2) (read : RefReadings)
  | hkCorrectionDone (ok : BitVec 2)
  | chFallback (ch : Fin 32)
  | choutRead (ch : Fin 32)
  | cmpStateChange (c : Fin 64) (state : Fin 4) (age : Nat)
  | cmpCheck (val : Word)
  | cmpCheckDone (results : CheckReadings)
  | cmpAutoCheck
  | slotExecute (n : Fin 512)
  | feedbackLost (n : Fin 512)
  | railFbLost (r : Fin 5)
  | cteEcc (n : Fin 512)
  | cteEccFatal (n : Fin 512)
  | coefLoad (n : Fin 512) (val : Word)
  | slotEnable (n : Fin 512) (val : Word)
  | slotDisable (n : Fin 512) (val : Word)
  | slotAuto (n : Fin 512) (val : Word)
  | slotManual (n : Fin 512) (val : Word)
  | testStart (val : Word)
  | testDone
  | ishareSample (raw : BitVec 16) (dither : Fin 4)
  | pwmPeriodStart (ch : Fin 48)
  | tripRelease (ch : Fin 48) (val : Word)
  | blankWindowEnd (k : Fin 8)
  | psyncEdge (gap : Nat) (duty : Nat)
  | syncLost
  | railFreqStep
  | slotSpLost
  | pmbusPoll (answers : List PmAnswer)
  | pmbAlert (seg : Fin 4) (answer : Option (BitVec 7))
  | pmbSegStuck (seg : Fin 4) (freed : Bool)
  | pmbAlertStuck (seg : Fin 4)
  | segReconnect (seg : Fin 4) (val : Word)
  | rackEnable (val : Word)
  | rackDisable (val : Word)
  | holdupSlow
  | rackReturnAc
  | stringEod (k : Fin 4)
  | shedEvaluate
  | thermalScan (codes : List Nat)
  | throttle
  | railRampDownDone
  | domainRampDone (d : Fin 80)
  | domainSwitchOff (d : Fin 80)
  | domainFail (d : Fin 80)
  | domfailClear (i : Fin 3) (val : Word)
  | faultReport (m : FaultMsg)
  | shadowClose
  | fltPendClear (i : Fin 12) (val : Word)
  | cascadeFault (i : Fin 8) (low : Bool)
  | reconcile (kind : Fin 8) (index : Nat) (state : Nat)
  | dugoutEnter (d : Desc)
  | sbFlush (d : Desc)
  | sbFlushTimer
  | sbFlushDone (failed : List Nat)
  | sbCleared
  | sbwinAutoincRead
  | sbCopy (d : Desc) (first count : BitVec 16) (ring : Byte) (dest : Byte)
  | fltInject (d : Desc) (source : BitVec 16) (kind cls : Byte)
  | powerFail
  | powerOn (sid : Fin 4) (side : Bool) (found : PowerFound)
  | islandReady (found : List (Fin 256 × List Byte × Word))
  | railRampStep
  | railGood
  | railTimeout
  | fwImageRead (ok : Bool) (header : List Byte)
  | fwVerifyDone (ok : Bool)
  | fwLoad (val : Word)
  | pinReset (sid : Fin 4) (side : Bool)
  | deviceReset (val : Word)
  | radioReset (val : Word)
  | resetAction
  | linkReset (hot : Bool)
  | perstRise
  | vauxLoss
  | seedWriteDone (slot : Fin 4096) (ok : Bool)
  | pwrfailNRise
  | powerFailWindowEnd
  | readyForLinkTraining
  | busMasterEnable (on : Bool)
  | creditsReturned (l : Fin 4) (pool : Fin 4) (given : CreditReturn)
  deriving DecidableEq, Repr

end Sys2Proof
end

