-- ==== Sys2Proof/Decode.lean ====
section
/-!
DEFINITION. Sys2Proof/Decode.lean: the command a 64-byte descriptor of a command ring spells (R220), and the command a word
spells by the opcode table, which gives no command a bit pattern.
-/
namespace Sys2Proof

/-- The command that a word of `nbits` bits spells by the bits of the opcode table: the table's rows have none (log 11). -/
def decodeTableWord (_nbits _w : Nat) : Option Instr := none

/-- Byte i of a descriptor. -/
def descByte (b : List Byte) (i : Nat) : Byte := b[i]?.getD 0#8

/-- The little-endian number in n bytes of a descriptor from byte i on. -/
def descNat (b : List Byte) (i : Nat) : Nat → Nat
  | 0 => 0
  | n + 1 => (descByte b i).toNat + 256 * descNat b (i + 1) n

/-- The bytes from 8 on that an opcode defines (R220, R276, R389). -/
def opcodeBytes (op : Nat) : List (Nat × Nat) := match op with
  | 0x02 => [(8, 8)]
  | 0x03 => [(8, 16)]
  | 0x04 => [(8, 4), (16, 8)]
  | 0x05 => [(8, 1), (16, 10)]
  | 0x06 => [(8, 1)]
  | 0x11 => [(8, 3)]
  | 0x12 => [(8, 1)]
  | 0x13 => [(8, 2), (16, 8)]
  | 0x14 => [(8, 1)]
  | 0x15 => [(16, 8)]
  | 0x20 => [(8, 6)]
  | 0x22 => [(8, 4)]
  | 0x2C => [(8, 1)]
  | _ => []

/-- Every byte that the opcode does not define is 0: byte 3, and those from 8 on outside its operands. -/
def undefinedZero (op : Nat) (b : List Byte) : Bool :=
  descByte b 3 = 0#8 &&
  (List.range 56).all (fun j =>
    (opcodeBytes op).any (fun p => p.1 ≤ j + 8 && j + 8 < p.1 + p.2) || descByte b (j + 8) = 0#8)

/-- The common bytes of a descriptor of ring r. The host address of a WRITE_BLOCK is aligned to 4 bytes; one that is not makes the
member invalid, as an undefined byte does (log 159). -/
def decodeDesc (r : Fin 16) (b : List Byte) : Desc :=
  let op := (descByte b 0).toNat
  { ring := r, tag := BitVec.ofNat 32 (descNat b 4 4), flags := descByte b 1, sid := descByte b 2
    extra := !undefinedZero op b || (op = 0x03 && descNat b 16 8 % 4 ≠ 0) }

/-- What the host memory at the address of a WRITE_BLOCK or LOCK_CHANGE holds (none: the read fails), and the level of PROV_N. -/
structure Fetched where
  words : Option (List Word) := none
  record : Option (List Byte) := none
  provN : Bool := true
  deriving DecidableEq, Repr

/-- The operands of a COMMIT (R220). -/
def decodeCommit (b : List Byte) (provN : Bool) : CommitOp :=
  let x := (descByte b 8).toNat
  { mode := ⟨x % 4, Nat.mod_lt _ (by decide)⟩, nextBeat := x / 4 % 2 = 1, beat := BitVec.ofNat 64 (descNat b 16 8)
    frac := BitVec.ofNat 32 (descNat b 16 4), sec := BitVec.ofNat 48 (descNat b 20 6), provN := provN }

/-- The command that a 64-byte descriptor of command ring r spells: one for every opcode byte (R220). -/
def decodeDescriptor (r : Fin 16) (b : List Byte) (m : Fetched) : Instr :=
  let d := decodeDesc r b
  let op := descByte b 0
  let w := fun i => BitVec.ofNat 32 (descNat b i 4)
  let h := fun i => BitVec.ofNat 16 (descNat b i 2)
  let q := descByte b 8
  match op.toNat with
  | 0x01 => .begin_ d
  | 0x02 => .write32 d (w 8) (w 12)
  | 0x03 => .writeBlock d (w 8) (w 12) m.words
  | 0x04 => .lockChange d (w 8) m.record
  | 0x05 => .commit d (decodeCommit b m.provN)
  | 0x06 => .abort d ⟨q.toNat % 4, Nat.mod_lt _ (by decide)⟩ (q.toNat / 4 % 2 = 1)
  | 0x10 => .nop d
  | 0x11 => .convCal d (h 8) ((descByte b 10).toNat % 2 = 1)
  | 0x12 => .synthCal d q
  | 0x13 => .snapTrigger d q ((descByte b 9).toNat % 2 = 1) (BitVec.ofNat 64 (descNat b 16 8))
  | 0x14 => .snapMove d q
  | 0x15 => .nonceGet d (BitVec.ofNat 64 (descNat b 16 8))
  | 0x20 => .sbCopy d (h 8) (h 10) (descByte b 12) (descByte b 13)
  | 0x21 => .sbFlush d
  | 0x22 => .fltInject d (h 8) (descByte b 10) (descByte b 11)
  | 0x23 => .dugoutEnter d
  | 0x28 => .stackRealign d
  | 0x29 => .pairSwap d
  | 0x2A => .pairPromote d
  | 0x2B => .pairResync d
  | 0x2C => .linkRetrain d q
  | _ => .invalidOpcode d op

end Sys2Proof
end

