-- ==== Sys2Proof/Machine/Tab.lean ====
section
/-!
DEFINITION. Sys2Proof/Machine/Tab.lean: reading and writing sparse tables, and the bit-field helpers on words.
-/
namespace Sys2Proof.Machine

/-- Read index `k`; an unlisted index reads as `d`. -/
def tabGetD {α : Type} (d : α) : Tab α → Nat → α
  | [], _ => d
  | (k', v) :: t, k => if k = k' then v else tabGetD d t k

/-- Put `v` at index `k`, keeping the indices rising. -/
def tabInsert {α : Type} (k : Nat) (v : α) : Tab α → Tab α
  | [] => [(k, v)]
  | (k', v') :: t =>
    if k < k' then (k, v) :: (k', v') :: t
    else if k = k' then (k, v) :: t
    else (k', v') :: tabInsert k v t

/-- Take index `k` out. -/
def tabErase {α : Type} (k : Nat) (t : Tab α) : Tab α :=
  t.filter (fun e => e.1 ≠ k)

/-- Write `v` at index `k`, where unlisted indices read as `d`. -/
def tabSetD {α : Type} [DecidableEq α] (d : α) (t : Tab α) (k : Nat) (v : α) : Tab α :=
  if v = d then tabErase k t else tabInsert k v t

/-- Read a table of units: an unlisted unit is in its reset state. -/
def tabGet {α : Type} [Inhabited α] (t : Tab α) (k : Nat) : α := tabGetD default t k

/-- Write one unit of a table of units. -/
def tabSet {α : Type} [Inhabited α] [DecidableEq α] (t : Tab α) (k : Nat) (v : α) : Tab α :=
  tabSetD default t k v

/-- Change one unit of a table of units. -/
def tabMod {α : Type} [Inhabited α] [DecidableEq α] (t : Tab α) (k : Nat) (f : α → α) : Tab α :=
  tabSet t k (f (tabGet t k))

/-- The canonical form: indices strictly rising, no entry at the unlisted value. -/
def tabWf {α : Type} [DecidableEq α] (d : α) : Tab α → Bool
  | [] => true
  | [(_, v)] => v ≠ d
  | (k, v) :: (k', v') :: t => v ≠ d && (k < k' && tabWf d ((k', v') :: t))

/-- Bits [lo + width − 1 : lo] of a word. -/
def getBits (w : Word) (lo width : Nat) : Nat := w.toNat / 2 ^ lo % 2 ^ width

/-- The word with bits [lo + width − 1 : lo] replaced by the low bits of `v`. -/
def setBits (w : Word) (lo width v : Nat) : Word :=
  BitVec.ofNat 32
    (w.toNat % 2 ^ lo + (v % 2 ^ width) * 2 ^ lo + w.toNat / 2 ^ (lo + width) * 2 ^ (lo + width))

/-- Two's-complement value of an `n`-bit code. -/
def signedOf (n v : Nat) : Int :=
  if v % 2 ^ n < 2 ^ (n - 1) then ((v % 2 ^ n : Nat) : Int) else ((v % 2 ^ n : Nat) : Int) - ((2 ^ n : Nat) : Int)

/-- The `n`-bit two's-complement code of a value. -/
def codeOf (n : Nat) (i : Int) : Nat := (i % ((2 ^ n : Nat) : Int)).toNat

/-- Limit to a range. -/
def clampI (lo hi x : Int) : Int := max lo (min hi x)

/-- A saturating counter of `width` bits, one count up. -/
def satInc (width v : Nat) : Nat := min (v + 1) (2 ^ width - 1)

/-- A saturating counter of `width` bits, `n` counts up. -/
def satAdd (width v n : Nat) : Nat := min (v + n) (2 ^ width - 1)

/-- Bytes of a little-endian number (R3). -/
def leBytes : Nat → Nat → List Nat
  | 0, _ => []
  | n + 1, v => v % 256 :: leBytes n (v / 256)

/-- The number little-endian bytes spell (R3). -/
def ofLe : List Nat → Nat
  | [] => 0
  | b :: bs => b + 256 * ofLe bs

/-- Division rounded to nearest, halves away from zero. -/
def roundDiv (a b : Int) : Int :=
  if 0 ≤ a then (2 * a + b) / (2 * b) else -((2 * (-a) + b) / (2 * b))

/-- Division towards minus infinity of a non-negative or negative number by a positive one. -/
def floorDiv (a b : Int) : Int := Int.fdiv a b

/-- Number of set bits of the low `n` bits. -/
def popBits : Nat → Nat → Nat
  | 0, _ => 0
  | n + 1, v => v % 2 + popBits n (v / 2)

/-- Bit `i` of a number. -/
def bitOf (v i : Nat) : Bool := v / 2 ^ i % 2 = 1

/-- A flag as a bit. -/
def bit (b : Bool) : Nat := if b then 1 else 0

/-- The number whose bit `i` (i < n) is `f i`. -/
def bitsOf (n : Nat) (f : Nat → Bool) : Nat :=
  (List.range n).foldl (fun a i => a + bit (f i) * 2 ^ i) 0

/-- Fold a state change over a list of numbers. -/
def forAll {σ α : Type} (l : List α) (f : α → σ → σ) (s : σ) : σ := l.foldl (fun t a => f a t) s

/-- Apply a change only where a condition holds. -/
def onlyIf {σ : Type} (c : Bool) (f : σ → σ) (s : σ) : σ := if c then f s else s

/-- A list padded or cut to a length. -/
def fitLen (n : Nat) (d : Nat) (l : List Nat) : List Nat := (l ++ List.replicate n d).take n

/-- The greatest `r` with r ^ 2 ≤ n, found bit by bit from `2 ^ k` down. -/
def isqrtFrom : Nat → Nat → Nat → Nat
  | 0, n, r => if (r + 1) * (r + 1) ≤ n then r + 1 else r
  | k + 1, n, r =>
    let r' := r + 2 ^ (k + 1)
    isqrtFrom k n (if r' * r' ≤ n then r' else r)

/-- Integer square root of a number below 2^128. -/
def isqrt (n : Nat) : Nat := isqrtFrom 63 n 0

end Sys2Proof.Machine
end

