-- ==== Sys2Proof/Machine/Num.lean ====
section
/-!
DEFINITION. Sys2Proof/Machine/Num.lean: decibels, raised-cosine weights and rounding in exact integer arithmetic. A level in
dB is compared through powers of ten, so no logarithm is rounded twice; weights and antilogarithms are fixed-point numbers
(log 5).
-/
namespace Sys2Proof.Machine

/-- 10^(n/k) ≤ num/den, exactly. With k = 200 the unit of n is 0.05 dB of power; with k = 100 it is 0.1 dB. -/
def leDb (k : Nat) (n : Int) (num den : Nat) : Bool :=
  if 0 ≤ n then 10 ^ n.toNat * den ^ k ≤ num ^ k else den ^ k ≤ num ^ k * 10 ^ (-n).toNat

/-- The largest n = lo + r below lo + 2^bits with 10^(n/k) ≤ num/den, found bit by bit. -/
def dbSearch (k : Nat) (num den : Nat) (lo : Int) : Nat → Nat → Nat
  | 0, r => r
  | b + 1, r => dbSearch k num den lo b (if leDb k (lo + ((r + 2 ^ b : Nat) : Int)) num den then r + 2 ^ b else r)

/-- 10 log10(num/den) dB in units of 10/k dB, rounded down and limited to [lo, hi]; a ratio of 0 gives lo, and one with a
zero denominator hi. -/
def dbFloor (k : Nat) (num den : Nat) (lo hi : Int) : Int :=
  if num = 0 then lo else if den = 0 then hi else min hi (lo + (dbSearch k num den lo 16 0 : Int))

/-- 10 log10(num/den) dB in units of 10/k dB, rounded up. -/
def dbCeil (k : Nat) (num den : Nat) (lo hi : Int) : Int := -dbFloor k den num (-hi) (-lo)

/-- Bit search for the largest x, from the value given up, with x^200 · d ≤ c. -/
def rootSearch (c d : Nat) : Nat → Nat → Nat
  | 0, x => x
  | b + 1, x => rootSearch c d b (if (x + 2 ^ b) ^ 200 * d ≤ c then x + 2 ^ b else x)

/-- 10^(n/200) in units of 2^−64, rounded down (log 5): n is a power level in 0.05 dB. -/
def antiDb (n : Int) : Nat :=
  if 0 ≤ n then
    let w := n.toNat / 200
    10 ^ w * rootSearch (2 ^ 12800 * 10 ^ (n.toNat % 200)) 1 69 0
  else
    let m := (-n).toNat
    rootSearch (2 ^ 12800) (10 ^ (m % 200)) 65 0 / 10 ^ (m / 200)

/-- π in units of 2^−64. -/
def piFix : Int := 57952155664616982739

/-- Terms of the Taylor series of cosine: x in units of 2^−64. -/
def cosTerms (x2 : Int) : Nat → Nat → Int → Int → Int
  | 0, _, _, acc => acc
  | n + 1, i, term, acc =>
    let t := -(term * x2 / 2 ^ 64) / ((2 * i + 1) * (2 * i + 2))
    cosTerms x2 n (i + 1) t (acc + t)

/-- cos(π · num / den) in units of 2^−64 for 0 ≤ num ≤ den (log 5). -/
def cosHalf (num den : Nat) : Int :=
  if num = 0 then 2 ^ 64 else if den ≤ num then -2 ^ 64
  else
    let x := piFix * num / den
    cosTerms (x * x / 2 ^ 64) 24 0 (2 ^ 64) (2 ^ 64)

/-- cos(2π · num / den) in units of 2^−64. -/
def cosTurn (num den : Nat) : Int :=
  let r := num % den
  if 2 * r ≤ den then cosHalf (2 * r) den else cosHalf (2 * (den - r)) den

/-- sin(2π · num / den) in units of 2^−64. -/
def sinTurn (num den : Nat) : Int := cosTurn (4 * num + 3 * den) (4 * den)

/-- The weight 0.5 · (1 + cos(π k / n)) in units of 2^−64: 1 at k = 0 and 0 from k = n on (R76, R100). -/
def halfCos (k n : Nat) : Nat :=
  if k = 0 then 2 ^ 64 else if n ≤ k then 0 else ((2 ^ 64 + cosHalf k n) / 2).toNat

end Sys2Proof.Machine
end

