-- ==== Sys2Proof/Machine/Events.lean ====
section
/-!
DEFINITION. Sys2Proof/Machine/Events.lean: the event catalogue, each code from its group and its position in the group's
event tables (R370), with the class its owning chapter gives it (R367). Where a table gives an event two classes, the
raising operation names the other one.
-/
namespace Sys2Proof.Machine

/-- An event of the catalogue: its 16-bit code and its class code (0 none, 1 CORRECTED, 2 CONTAINED, 3 FATAL). -/
structure EvKind where
  code : Nat
  cls : Nat
  deriving DecidableEq, Repr

/-- OVERRANGE (R55, R370). -/
def ev_OVERRANGE : EvKind := { code := 0x0100, cls := 0 }
/-- ARC_AT_MAX (R55, R370). -/
def ev_ARC_AT_MAX : EvKind := { code := 0x0101, cls := 0 }
/-- BUBBLE (R55, R370). -/
def ev_BUBBLE : EvKind := { code := 0x0102, cls := 1 }
/-- STALE_BURST (R55, R370). -/
def ev_STALE_BURST : EvKind := { code := 0x0103, cls := 1 }
/-- BUBBLE_STORM (R55, R370). -/
def ev_BUBBLE_STORM : EvKind := { code := 0x0104, cls := 2 }
/-- PORT_OUT_OF_SERVICE (R55, R370). -/
def ev_PORT_OUT_OF_SERVICE : EvKind := { code := 0x0105, cls := 2 }
/-- PORT_CAL_FAIL (R55, R370). -/
def ev_PORT_CAL_FAIL : EvKind := { code := 0x0106, cls := 2 }
/-- BGC_LIMIT (R55, R370). -/
def ev_BGC_LIMIT : EvKind := { code := 0x0107, cls := 1 }
/-- CAL_DONE (R55, R370). -/
def ev_CAL_DONE : EvKind := { code := 0x0108, cls := 0 }
/-- ORX_BUBBLE (R55, R370). -/
def ev_ORX_BUBBLE : EvKind := { code := 0x0109, cls := 1 }
/-- ORX_BUBBLE_STORM (R55, R370). -/
def ev_ORX_BUBBLE_STORM : EvKind := { code := 0x010A, cls := 2 }
/-- ORX_OUT_OF_SERVICE (R55, R370). -/
def ev_ORX_OUT_OF_SERVICE : EvKind := { code := 0x010B, cls := 2 }
/-- ORX_OVERRANGE (R55, R370). -/
def ev_ORX_OVERRANGE : EvKind := { code := 0x010C, cls := 0 }
/-- TBAND_SET (R55, R370). -/
def ev_TBAND_SET : EvKind := { code := 0x010D, cls := 0 }
/-- SB_SAT (R82, R370). -/
def ev_SB_SAT : EvKind := { code := 0x010E, cls := 0 }
/-- TX_CLIP (R82, R370). -/
def ev_TX_CLIP : EvKind := { code := 0x010F, cls := 0 }
/-- LAT_CHANGE (R82, R370). -/
def ev_LAT_CHANGE : EvKind := { code := 0x0110, cls := 0 }
/-- PATH_STATE (R104, R370). -/
def ev_PATH_STATE : EvKind := { code := 0x0200, cls := 0 }
/-- PATH_HELD (R104, R370). -/
def ev_PATH_HELD : EvKind := { code := 0x0201, cls := 0 }
/-- PATH_CLIP (R104, R370). -/
def ev_PATH_CLIP : EvKind := { code := 0x0202, cls := 0 }
/-- PATH_LATENCY (R104, R370). -/
def ev_PATH_LATENCY : EvKind := { code := 0x0203, cls := 0 }
/-- XFADE_DONE (R104, R370). -/
def ev_XFADE_DONE : EvKind := { code := 0x0204, cls := 0 }
/-- XFADE_ABORT (R104, R370). -/
def ev_XFADE_ABORT : EvKind := { code := 0x0205, cls := 0 }
/-- REMOTE_INPUT_LOST (R104, R370). -/
def ev_REMOTE_INPUT_LOST : EvKind := { code := 0x0206, cls := 2 }
/-- ROUTE_ECC (R104, R370). -/
def ev_ROUTE_ECC : EvKind := { code := 0x0207, cls := 1 }
/-- ROUTE_ECC_FATAL (R104, R370). -/
def ev_ROUTE_ECC_FATAL : EvKind := { code := 0x0208, cls := 2 }
/-- CXL_ECC (R135, R370). -/
def ev_CXL_ECC : EvKind := { code := 0x0209, cls := 1 }
/-- CXL_SLICE_LOST (R135, R370). -/
def ev_CXL_SLICE_LOST : EvKind := { code := 0x020A, cls := 2 }
/-- SEED_REJECT (R135, R370). -/
def ev_SEED_REJECT : EvKind := { code := 0x020B, cls := 0 }
/-- OSC_DETECT (R135, R370). -/
def ev_OSC_DETECT : EvKind := { code := 0x020C, cls := 1 }
/-- BACKOFF_RECOVERED (R135, R370). -/
def ev_BACKOFF_RECOVERED : EvKind := { code := 0x020D, cls := 0 }
/-- PATH_SHUTDOWN (R135, R370). -/
def ev_PATH_SHUTDOWN : EvKind := { code := 0x020E, cls := 2 }
/-- PATH_RESTART (R135, R370). -/
def ev_PATH_RESTART : EvKind := { code := 0x020F, cls := 0 }
/-- PATH_LOCKOUT (R135, R370). -/
def ev_PATH_LOCKOUT : EvKind := { code := 0x0210, cls := 2 }
/-- TRAIN_DONE (R135, R370). -/
def ev_TRAIN_DONE : EvKind := { code := 0x0211, cls := 0 }
/-- TRAIN_LIMITED (R135, R370). -/
def ev_TRAIN_LIMITED : EvKind := { code := 0x0212, cls := 0 }
/-- NOISE_RISE (R135, R370). -/
def ev_NOISE_RISE : EvKind := { code := 0x0213, cls := 0 }
/-- SQUELCH (R135, R370). -/
def ev_SQUELCH : EvKind := { code := 0x0214, cls := 0 }
/-- OFFSIDE_MUTE (R135, R370). -/
def ev_OFFSIDE_MUTE : EvKind := { code := 0x0215, cls := 2 }
/-- OFFSIDE_PERSIST (R135, R370). -/
def ev_OFFSIDE_PERSIST : EvKind := { code := 0x0216, cls := 3 }
/-- SK_ALARM (R167, R370). -/
def ev_SK_ALARM : EvKind := { code := 0x0300, cls := 0 }
/-- PRODUCT_DROP (R167, R370). -/
def ev_PRODUCT_DROP : EvKind := { code := 0x0301, cls := 0 }
/-- WATCH_SLICE_OFF (R167, R370). -/
def ev_WATCH_SLICE_OFF : EvKind := { code := 0x0302, cls := 0 }
/-- WATCH_ECC (R167, R370). -/
def ev_WATCH_ECC : EvKind := { code := 0x0303, cls := 1 }
/-- WATCH_SLICE_LOST (R167, R370). -/
def ev_WATCH_SLICE_LOST : EvKind := { code := 0x0304, cls := 2 }
/-- SNAP_DONE (R167, R370). -/
def ev_SNAP_DONE : EvKind := { code := 0x0305, cls := 0 }
/-- SNAP_MOVED (R167, R370). -/
def ev_SNAP_MOVED : EvKind := { code := 0x0306, cls := 0 }
/-- SNAP_MISSED (R167, R370). -/
def ev_SNAP_MISSED : EvKind := { code := 0x0307, cls := 0 }
/-- SNAP_ABORT (R167, R370). -/
def ev_SNAP_ABORT : EvKind := { code := 0x0308, cls := 2 }
/-- CAPTURE_ECC (R167, R370). -/
def ev_CAPTURE_ECC : EvKind := { code := 0x0309, cls := 1 }
/-- OFFSIDE_VIOLATION (R167, R370). -/
def ev_OFFSIDE_VIOLATION : EvKind := { code := 0x030A, cls := 0 }
/-- OFFSIDE_BLIND (R167, R370). -/
def ev_OFFSIDE_BLIND : EvKind := { code := 0x030B, cls := 2 }
/-- STATE_CHANGE (R186, R370). -/
def ev_STATE_CHANGE : EvKind := { code := 0x0400, cls := 0 }
/-- SYNTH_CAL_DONE (R186, R370). -/
def ev_SYNTH_CAL_DONE : EvKind := { code := 0x0401, cls := 0 }
/-- SYNTH_CAL_DUE (R186, R370). -/
def ev_SYNTH_CAL_DUE : EvKind := { code := 0x0402, cls := 0 }
/-- SYNTH_DRIFT (R186, R370). -/
def ev_SYNTH_DRIFT : EvKind := { code := 0x0403, cls := 1 }
/-- SYNTH_UNLOCK (R186, R370). -/
def ev_SYNTH_UNLOCK : EvKind := { code := 0x0404, cls := 2 }
/-- PA_FAULT (R186, R370). -/
def ev_PA_FAULT : EvKind := { code := 0x0405, cls := 2 }
/-- QREQ_IGNORED (R186, R370). -/
def ev_QREQ_IGNORED : EvKind := { code := 0x0406, cls := 0 }
/-- QGRANT (R186, R370). -/
def ev_QGRANT : EvKind := { code := 0x0407, cls := 0 }
/-- QGNT_TIMEOUT (R186, R370). -/
def ev_QGNT_TIMEOUT : EvKind := { code := 0x0408, cls := 0 }
/-- RING_ERROR (R247, R370). -/
def ev_RING_ERROR : EvKind := { code := 0x0500, cls := 2 }
/-- HOST_LOST (R247, R370). -/
def ev_HOST_LOST : EvKind := { code := 0x0501, cls := 2 }
/-- HOST_RESUMED (R247, R370). -/
def ev_HOST_RESUMED : EvKind := { code := 0x0502, cls := 0 }
/-- VOLLEY_SPLIT (R247, R370). -/
def ev_VOLLEY_SPLIT : EvKind := { code := 0x0503, cls := 2 }
/-- STACK_VOLLEY_DISCARD (R247, R370). -/
def ev_STACK_VOLLEY_DISCARD : EvKind := { code := 0x0504, cls := 2 }
/-- STREAM_DROP (R247, R370). -/
def ev_STREAM_DROP : EvKind := { code := 0x0505, cls := 0 }
/-- EXPORT_LINK (R247, R370). -/
def ev_EXPORT_LINK : EvKind := { code := 0x0506, cls := 0 }
/-- EXPORT_DROP (R247, R370). -/
def ev_EXPORT_DROP : EvKind := { code := 0x0507, cls := 0 }
/-- LINK_UP (R279, R370). -/
def ev_LINK_UP : EvKind := { code := 0x0600, cls := 0 }
/-- LINK_DOWN (R279, R370). -/
def ev_LINK_DOWN : EvKind := { code := 0x0601, cls := 0 }
/-- LINK_CRC (R279, R370). -/
def ev_LINK_CRC : EvKind := { code := 0x0602, cls := 1 }
/-- LINK_CREDIT_STALL (R279, R370). -/
def ev_LINK_CREDIT_STALL : EvKind := { code := 0x0603, cls := 2 }
/-- LINK_PEER_MISMATCH (R279, R370). -/
def ev_LINK_PEER_MISMATCH : EvKind := { code := 0x0604, cls := 2 }
/-- STACK_MASTER_LOST (R279, R370). -/
def ev_STACK_MASTER_LOST : EvKind := { code := 0x0605, cls := 3 }
/-- STACK_MEMBER_LOST (R279, R370). -/
def ev_STACK_MEMBER_LOST : EvKind := { code := 0x0606, cls := 2 }
/-- STACK_ALIGNED (R279, R370). -/
def ev_STACK_ALIGNED : EvKind := { code := 0x0607, cls := 0 }
/-- TIME_SET (R279, R370). -/
def ev_TIME_SET : EvKind := { code := 0x0608, cls := 0 }
/-- PPS_LOST (R279, R370). -/
def ev_PPS_LOST : EvKind := { code := 0x0609, cls := 0 }
/-- ROLE_CHANGE (R279, R370). -/
def ev_ROLE_CHANGE : EvKind := { code := 0x060A, cls := 0 }
/-- SWAP_COLLIDED (R279, R370). -/
def ev_SWAP_COLLIDED : EvKind := { code := 0x060B, cls := 0 }
/-- PAIR_LINK_LOST (R279, R370). -/
def ev_PAIR_LINK_LOST : EvKind := { code := 0x060C, cls := 2 }
/-- LOCK_MISMATCH (R279, R370). -/
def ev_LOCK_MISMATCH : EvKind := { code := 0x060D, cls := 0 }
/-- MIRROR_REFUSED (R279, R370). -/
def ev_MIRROR_REFUSED : EvKind := { code := 0x060E, cls := 2 }
/-- EPOCH_DISCARD (R279, R370). -/
def ev_EPOCH_DISCARD : EvKind := { code := 0x060F, cls := 0 }
/-- PAGE_FAIL (R210, R370). -/
def ev_PAGE_FAIL : EvKind := { code := 0x0700, cls := 1 }
/-- WEAR_WARN (R210, R370). -/
def ev_WEAR_WARN : EvKind := { code := 0x0701, cls := 0 }
/-- WEAR_LIMIT (R210, R370). -/
def ev_WEAR_LIMIT : EvKind := { code := 0x0702, cls := 1 }
/-- KEY_REPAIRED (R210, R370). -/
def ev_KEY_REPAIRED : EvKind := { code := 0x0703, cls := 1 }
/-- KEY_FAILED (R210, R370). -/
def ev_KEY_FAILED : EvKind := { code := 0x0704, cls := 2 }
/-- LOCK_APPLIED (R210, R370). -/
def ev_LOCK_APPLIED : EvKind := { code := 0x0705, cls := 0 }
/-- LOCK_REFUSED (R210, R370). -/
def ev_LOCK_REFUSED : EvKind := { code := 0x0706, cls := 0 }
/-- CAL_FACTORY (R210, R370). -/
def ev_CAL_FACTORY : EvKind := { code := 0x0707, cls := 1 }
/-- CAL_BANK_FAIL (R210, R370). -/
def ev_CAL_BANK_FAIL : EvKind := { code := 0x0708, cls := 1 }
/-- GATE_CLAMP (R210, R370). -/
def ev_GATE_CLAMP : EvKind := { code := 0x0709, cls := 0 }
/-- CMP_ABOVE (R305, R370). -/
def ev_CMP_ABOVE : EvKind := { code := 0x0800, cls := 0 }
/-- CMP_BELOW (R305, R370). -/
def ev_CMP_BELOW : EvKind := { code := 0x0801, cls := 0 }
/-- CMP_INSIDE (R305, R370). -/
def ev_CMP_INSIDE : EvKind := { code := 0x0802, cls := 0 }
/-- CMP_CHECK_FAIL (R305, R370). -/
def ev_CMP_CHECK_FAIL : EvKind := { code := 0x0803, cls := 2 }
/-- HK_UNIT_FAIL (R305, R370). -/
def ev_HK_UNIT_FAIL : EvKind := { code := 0x0804, cls := 2 }
/-- CH_SETTLED (R305, R370). -/
def ev_CH_SETTLED : EvKind := { code := 0x0805, cls := 0 }
/-- CH_FALLBACK (R305, R370). -/
def ev_CH_FALLBACK : EvKind := { code := 0x0806, cls := 1 }
/-- CH_STOPPED (R305, R370). -/
def ev_CH_STOPPED : EvKind := { code := 0x0807, cls := 2 }
/-- CMP_WAKE (R305, R370). -/
def ev_CMP_WAKE : EvKind := { code := 0x0808, cls := 0 }
/-- RAIL_FB_LOST (R333, R370). -/
def ev_RAIL_FB_LOST : EvKind := { code := 0x0900, cls := 2 }
/-- RAIL_FOLLOW (R333, R370). -/
def ev_RAIL_FOLLOW : EvKind := { code := 0x0901, cls := 2 }
/-- RAIL_OVERSHOOT (R333, R370). -/
def ev_RAIL_OVERSHOOT : EvKind := { code := 0x0902, cls := 0 }
/-- RAIL_GUARD_UNAVAIL (R333, R370). -/
def ev_RAIL_GUARD_UNAVAIL : EvKind := { code := 0x0903, cls := 2 }
/-- SLOT_MISSED (R333, R370). -/
def ev_SLOT_MISSED : EvKind := { code := 0x0904, cls := 1 }
/-- SLOT_FB_LOST (R333, R370). -/
def ev_SLOT_FB_LOST : EvKind := { code := 0x0905, cls := 0 }
/-- SLOT_FOLLOW (R333, R370). -/
def ev_SLOT_FOLLOW : EvKind := { code := 0x0906, cls := 0 }
/-- SLOT_SP_LOST (R333, R370). -/
def ev_SLOT_SP_LOST : EvKind := { code := 0x0907, cls := 0 }
/-- TEST_DONE (R333, R370). -/
def ev_TEST_DONE : EvKind := { code := 0x0908, cls := 0 }
/-- SYNC_LOCKED (R333, R370). -/
def ev_SYNC_LOCKED : EvKind := { code := 0x0909, cls := 0 }
/-- SYNC_LOST (R333, R370). -/
def ev_SYNC_LOST : EvKind := { code := 0x090A, cls := 0 }
/-- CTE_ECC (R333, R370). -/
def ev_CTE_ECC : EvKind := { code := 0x090B, cls := 1 }
/-- CTE_ECC_FATAL (R333, R370). -/
def ev_CTE_ECC_FATAL : EvKind := { code := 0x090C, cls := 2 }
/-- PWM_TRIP (R333, R370). -/
def ev_PWM_TRIP : EvKind := { code := 0x090D, cls := 2 }
/-- PMB_SEG_RECOVERED (R350, R370). -/
def ev_PMB_SEG_RECOVERED : EvKind := { code := 0x0A00, cls := 0 }
/-- PMB_SEG_ISOLATED (R350, R370). -/
def ev_PMB_SEG_ISOLATED : EvKind := { code := 0x0A01, cls := 2 }
/-- PMB_ALERT_STUCK (R350, R370). -/
def ev_PMB_ALERT_STUCK : EvKind := { code := 0x0A02, cls := 1 }
/-- RACK_STATE (R350, R370). -/
def ev_RACK_STATE : EvKind := { code := 0x0A03, cls := 0 }
/-- HOLDUP_SLOW (R350, R370). -/
def ev_HOLDUP_SLOW : EvKind := { code := 0x0A04, cls := 2 }
/-- RECT_LOST (R350, R370). -/
def ev_RECT_LOST : EvKind := { code := 0x0A05, cls := 2 }
/-- RECT_FAULT (R350, R370). -/
def ev_RECT_FAULT : EvKind := { code := 0x0A06, cls := 2 }
/-- RECT_IMBALANCE (R350, R370). -/
def ev_RECT_IMBALANCE : EvKind := { code := 0x0A07, cls := 0 }
/-- POL_LOST (R350, R370). -/
def ev_POL_LOST : EvKind := { code := 0x0A08, cls := 2 }
/-- POL_FAULT (R350, R370). -/
def ev_POL_FAULT : EvKind := { code := 0x0A09, cls := 2 }
/-- STRING_EOD (R350, R370). -/
def ev_STRING_EOD : EvKind := { code := 0x0A0A, cls := 2 }
/-- SHED_STEP (R350, R370). -/
def ev_SHED_STEP : EvKind := { code := 0x0A0B, cls := 0 }
/-- SHED_EXHAUSTED (R350, R370). -/
def ev_SHED_EXHAUSTED : EvKind := { code := 0x0A0C, cls := 2 }
/-- BUS_OV (R350, R370). -/
def ev_BUS_OV : EvKind := { code := 0x0A0D, cls := 2 }
/-- HOLD_NOT_READY (R350, R370). -/
def ev_HOLD_NOT_READY : EvKind := { code := 0x0A0E, cls := 2 }
/-- SENSOR_BROKEN (R366, R370). -/
def ev_SENSOR_BROKEN : EvKind := { code := 0x0B00, cls := 1 }
/-- SENSOR_RESTORED (R366, R370). -/
def ev_SENSOR_RESTORED : EvKind := { code := 0x0B01, cls := 0 }
/-- THERM_RATE (R366, R370). -/
def ev_THERM_RATE : EvKind := { code := 0x0B02, cls := 2 }
/-- THROTTLE (R366, R370). -/
def ev_THROTTLE : EvKind := { code := 0x0B03, cls := 0 }
/-- THERM_COLD (R366, R370). -/
def ev_THERM_COLD : EvKind := { code := 0x0B04, cls := 0 }
/-- THERM_SINGLE (R366, R370). -/
def ev_THERM_SINGLE : EvKind := { code := 0x0B05, cls := 2 }
/-- THERM_BLIND (R366, R370). -/
def ev_THERM_BLIND : EvKind := { code := 0x0B06, cls := 2 }
/-- THERM_SHUTDOWN (R366, R370). -/
def ev_THERM_SHUTDOWN : EvKind := { code := 0x0B07, cls := 3 }
/-- DOMAIN_FAIL (R366, R370). -/
def ev_DOMAIN_FAIL : EvKind := { code := 0x0B08, cls := 2 }
/-- MSG_LOST (R391, R370). -/
def ev_MSG_LOST : EvKind := { code := 0x0B09, cls := 1 }
/-- SB_NEAR_FULL (R391, R370). -/
def ev_SB_NEAR_FULL : EvKind := { code := 0x0B0A, cls := 0 }
/-- SB_FULL (R391, R370). -/
def ev_SB_FULL : EvKind := { code := 0x0B0B, cls := 2 }
/-- SB_WORN (R391, R370). -/
def ev_SB_WORN : EvKind := { code := 0x0B0C, cls := 1 }
/-- SB_CLEARED (R391, R370). -/
def ev_SB_CLEARED : EvKind := { code := 0x0B0D, cls := 0 }
/-- SB_OVERFLOW (R391, R370). -/
def ev_SB_OVERFLOW : EvKind := { code := 0x0B0E, cls := 1 }
/-- SB_FLUSH_FAIL (R391, R370). -/
def ev_SB_FLUSH_FAIL : EvKind := { code := 0x0B0F, cls := 2 }
/-- POWER_FAIL (R391, R370). -/
def ev_POWER_FAIL : EvKind := { code := 0x0B10, cls := 0 }
/-- POWER_UP (R391, R370). -/
def ev_POWER_UP : EvKind := { code := 0x0B11, cls := 0 }
/-- DUGOUT_ENTERED (R391, R370). -/
def ev_DUGOUT_ENTERED : EvKind := { code := 0x0B12, cls := 0 }
/-- HOST_DUGOUT (R391, R370). -/
def ev_HOST_DUGOUT : EvKind := { code := 0x0B13, cls := 3 }
/-- CASCADE_FAULT (R391, R370). -/
def ev_CASCADE_FAULT : EvKind := { code := 0x0B14, cls := 0 }
/-- RECONCILE (R391, R370). -/
def ev_RECONCILE : EvKind := { code := 0x0B15, cls := 2 }
/-- CROSSING_SLIP (R391, R370). -/
def ev_CROSSING_SLIP : EvKind := { code := 0x0B16, cls := 2 }

/-- The group byte of an event source (R370). -/
def groupOf (src : Nat) : Nat :=
  if src < 112 then 1 else if src < 144 then 2 else if src < 176 then 3 else if src < 192 then 4
  else if src < 224 then 5 else if src < 240 then 6 else if src < 256 then 7 else if src < 336 then 8
  else if src < 360 then 9 else if src < 376 then 10 else 11

/-- Two values packed in one parameter, the first in bits [31:16] (R368). -/
def pack2 (a b : Nat) : Nat := a % 65536 * 65536 + b % 65536

/-- Three values packed in one parameter (R368). -/
def pack3 (a b c : Nat) : Nat := a % 256 * 65536 + b % 256 * 256 + c % 256

end Sys2Proof.Machine
end

