-- ==== Sys2Proof/Config.lean ====
section
/-!
DEFINITION. Sys2Proof/Config.lean: what the hardware fixes (units of time, sizes) and the values the spec leaves open,
each an opaque constant that nothing can evaluate.
-/
namespace Sys2Proof.Config

/-- One tick of model time is 1/1,024 ns, so every period of the spec is a whole number of ticks (log 1). -/
def ticksPerNs : Nat := 1024
/-- Ticks of 1 µs. -/
def us : Nat := 1024000
/-- Ticks of 1 ms. -/
def ms : Nat := 1024000000
/-- Ticks of 1 s. -/
def sec : Nat := 1024000000000
/-- One converter sample at 40.96 GS/s (R22). -/
def convSample : Nat := 25
/-- One sub-band sample, 25 ns (R22). -/
def subSample : Nat := 25600
/-- One beat, 25.6 µs (R22). -/
def beat : Nat := 26214400
/-- One PWM step, 78.125 ps (R323). -/
def pwmStep : Nat := 80

/-- Free value number `n`, for a value the spec leaves open (log 2). -/
opaque freeValue : Nat → Word
/-- Free integer number `n`, for a value the spec leaves open (log 2). -/
opaque freeInt : Nat → Int

/-- The factory calibration factor in word i of a tile (R52, R206); the manual gives no values (log 3). -/
opaque factoryCalfac : Nat → Nat → Word
/-- What the interleave correction adds to code j of a burst, from the factors and residuals of the unit and the core's
codes; the manual does not say how the factors act on a code (log 4). -/
opaque mismatch : List Word → List Int → Nat → List Int → Nat → Int

/-- Coefficient i of a prototype of the file MQ96-PROTO-B1, in units of 2^−64, whose sum over a bank is 1: the weight of word i of
an analysis window, or of DAC sample i of a synthesis span. The manual does not give the file (R429; log 6). Arguments: synthesis
bank, SHARP, i. -/
opaque prototype : Bool → Bool → Nat → Int
/-- The relative error of the gain factor of a path, below 2^−20 as R93 bounds it, in units of 2^−43 from −(2^23 − 1) up
(log 7). Arguments: SBSHIFT, gain in 0.05 dB. -/
opaque gainError : Nat → Int → Fin 16777215

/-- A PRBS bit of 1 of the loop test (R320) adds the amplitude; otherwise it takes it away. The manual does not say which
(log 14). -/
opaque prbsPositive : Bool
/-- Factory trim of sensor s, 1/64 °C (R352); the manual gives no values (log 15). -/
opaque sensorTrim : Nat → Int

/-- Fields of the IP header of frame n of an export port that R239 does not give: the identification and the flags of IPv4, time to
live (hop limit), the low two bits of the traffic class, and the flow label of IPv6 (log 157). -/
opaque ipIdent : Nat → BitVec 16
@[inherit_doc ipIdent] opaque ipFlags : BitVec 16
@[inherit_doc ipIdent] opaque ipTtl : BitVec 8
@[inherit_doc ipIdent] opaque ipEcn : BitVec 2
@[inherit_doc ipIdent] opaque ipFlow : BitVec 20

/-- What the configuration space of the PCI Express function reports (R211). -/
structure PciFunction where
  vendor : Nat
  device : Nat
  revision : Nat
  classCode : Nat
  maxPayload : Nat      -- bytes
  maxReadRequest : Nat  -- bytes
  maxGen : Nat
  maxWidth : Nat
  aer : Bool
  srIov : Bool
  intx : Bool
  msi : Bool
  msixVectors : Nat
  deriving DecidableEq, Repr

/-- A base address register (R212). -/
structure Bar where
  index : Nat
  bits : Nat
  prefetchable : Bool
  size : Nat            -- bytes
  deriving DecidableEq, Repr

/-- The function of R211: 16 lanes at 64 GT/s, generation 6. -/
def pciFunction : PciFunction :=
  { vendor := 0x1F7B, device := 0x0096, revision := 0xB1, classCode := 0x118000, maxPayload := 512, maxReadRequest := 4096
    maxGen := 6, maxWidth := 16, aer := true, srIov := false, intx := false, msi := false, msixVectors := 64 }

/-- The setup registers, 4 MiB, and the doorbells, 64 KiB (R212); BAR4 is not implemented. -/
def bars : List Bar :=
  [{ index := 0, bits := 64, prefetchable := false, size := 0x400000 },
   { index := 2, bits := 64, prefetchable := false, size := 0x10000 }]

/-- The rail profile of the factory area (R393): the word it gives the register at a BAR0 offset; the manual gives no values
(log 106). -/
opaque railProfile : Nat → Word

end Sys2Proof.Config
end

