-- ==== Sys2Proof/Machine/RegCore.lean ====
section
/-!
DEFINITION. Sys2Proof/Machine/RegCore.lean: what a register family, a field and a register block are (R3-R8, R417).
-/
namespace Sys2Proof.Machine

/-- The blocks of BAR0 (R417). -/
inductive Blk where
  | glb | pwr | clk | tile | fab | iso | spw | hif | qlk | exp | mea | cte | pwm | rps | flt | pst | tim
  deriving DecidableEq, Repr

/-- A family of registers of one name: instance (i, j) stands at base + s1·i + s2·j. `reset` lists the reset value of
instance i (the last value serves all later instances); `resetB` is the reset value on an MQ96-1B where it differs.
The masks say which bits carry each access code of R4; all other bits are RO or reserved. `mask` holds the bits that belong
to a field; the others are reserved. A family with `held` has no reset value: a register of it that nothing is listed for holds
what the factory gave it (R52). -/
structure RegFam where
  blk : Blk
  base : Nat
  n1 : Nat := 1
  s1 : Nat := 4
  n2 : Nat := 1
  s2 : Nat := 4
  reset : List Nat := [0]
  resetB : Option Nat := none
  rw : Nat := 0
  rws : Nat := 0
  rwp : Nat := 0
  rwl : Nat := 0
  w1c : Nat := 0
  wo : Nat := 0
  mask : Nat := 0xFFFFFFFF
  held : Bool := false
  deriving DecidableEq, Repr

/-- A named field of a register family. -/
structure Fld where
  fam : RegFam
  lo : Nat
  width : Nat
  deriving DecidableEq, Repr

/-- The register values in effect, block by block: BAR0 offset to value; an unlisted register holds its reset value. -/
structure Regs where
  glb : Tab Word := []
  pwr : Tab Word := []
  clk : Tab Word := []
  tile : Tab Word := []
  fab : Tab Word := []
  iso : Tab Word := []
  spw : Tab Word := []
  hif : Tab Word := []
  qlk : Tab Word := []
  exp : Tab Word := []
  mea : Tab Word := []
  cte : Tab Word := []
  pwm : Tab Word := []
  rps : Tab Word := []
  flt : Tab Word := []
  pst : Tab Word := []
  tim : Tab Word := []
  deriving DecidableEq, Repr, Inhabited

/-- The two variants (R1). -/
inductive Variant where
  | mq96_1A | mq96_1B
  deriving DecidableEq, Repr, Inhabited

/-- The registers of one block. -/
def regsOf (r : Regs) : Blk → Tab Word
  | .glb => r.glb | .pwr => r.pwr | .clk => r.clk | .tile => r.tile | .fab => r.fab | .iso => r.iso
  | .spw => r.spw | .hif => r.hif | .qlk => r.qlk | .exp => r.exp | .mea => r.mea | .cte => r.cte
  | .pwm => r.pwm | .rps => r.rps | .flt => r.flt | .pst => r.pst | .tim => r.tim

/-- Replace the registers of one block. -/
def regsPut (r : Regs) (b : Blk) (t : Tab Word) : Regs :=
  match b with
  | .glb => { r with glb := t } | .pwr => { r with pwr := t } | .clk => { r with clk := t }
  | .tile => { r with tile := t } | .fab => { r with fab := t } | .iso => { r with iso := t }
  | .spw => { r with spw := t } | .hif => { r with hif := t } | .qlk => { r with qlk := t }
  | .exp => { r with exp := t } | .mea => { r with mea := t } | .cte => { r with cte := t }
  | .pwm => { r with pwm := t } | .rps => { r with rps := t } | .flt => { r with flt := t }
  | .pst => { r with pst := t } | .tim => { r with tim := t }

/-- BAR0 offset of instance (i, j) of a family. -/
def regOff (f : RegFam) (i j : Nat) : Nat := f.base + f.s1 * i + f.s2 * j

/-- Reset value of instance i of a family on a variant. -/
def regReset (v : Variant) (f : RegFam) (i : Nat) : Word :=
  match v, f.resetB with
  | .mq96_1B, some x => BitVec.ofNat 32 x
  | _, _ => BitVec.ofNat 32 (f.reset.getD i (f.reset.getLastD 0))

/-- The block an offset of BAR0 lies in (R417); none: reserved. -/
def blkOf (off : Nat) : Option Blk :=
  if off < 0x010000 then some .glb
  else if off < 0x020000 then some .pwr
  else if off < 0x040000 then some .clk
  else if off < 0x140000 then some .tile
  else if off < 0x160000 then some .fab
  else if off < 0x180000 then some .iso
  else if off < 0x1A0000 then some .spw
  else if off < 0x1C0000 then some .hif
  else if off < 0x1E0000 then some .qlk
  else if off < 0x200000 then some .exp
  else if off < 0x220000 then some .mea
  else if off < 0x240000 then some .cte
  else if off < 0x260000 then some .pwm
  else if off < 0x280000 then some .rps
  else if off < 0x2A0000 then some .flt
  else if off < 0x2C0000 then some .pst
  else if off < 0x2E0000 then some .tim
  else none

/-- Where an offset falls in a family: its instance (i, j), or none. -/
def famIndex (f : RegFam) (off : Nat) : Option (Nat × Nat) :=
  if off < f.base then none
  else
    let d := off - f.base
    let i := if f.n1 ≤ 1 then 0 else d / f.s1
    let r := d - i * f.s1
    let j := if f.n2 ≤ 1 then 0 else r / f.s2
    if i < f.n1 ∧ j < f.n2 ∧ f.s1 * i + f.s2 * j = d then some (i, j) else none

/-- The first family of a list that an offset falls in, with the instance. -/
def findFam : List RegFam → Nat → Option (RegFam × Nat × Nat)
  | [], _ => none
  | f :: fs, off =>
    match famIndex f off with
    | some (i, j) => some (f, i, j)
    | none => findFam fs off

/-- Value of a register of which the table lists nothing. -/
def regWord (v : Variant) (r : Regs) (f : RegFam) (i j : Nat) : Word :=
  tabGetD (regReset v f i) (regsOf r f.blk) (regOff f i j)

/-- Write a register. -/
def regWrite (v : Variant) (r : Regs) (f : RegFam) (i j : Nat) (w : Word) : Regs :=
  regsPut r f.blk (tabSetD (regReset v f i) (regsOf r f.blk) (regOff f i j) w)

end Sys2Proof.Machine
end

