-- ==== Sys2Proof/Machine/Regs.lean ====
section
/-!
DEFINITION. Sys2Proof/Machine/Regs.lean: the setup registers of BAR0, one family per register of the Register index
(R417-R423), with its offset, its strides, its reset values, the bits each access code (R4) covers, and one named
field per row of the owning chapter's field table.
-/
namespace Sys2Proof.Machine

/-- GLB_IDENT (R2, R418). -/
def GLB_IDENT : RegFam := { blk := .glb, base := 0x0, n1 := 1, s1 := 0x4, n2 := 1, s2 := 0x4, reset := [0x961B10], resetB := some 0x00962B10, mask := 0xFFFFFFF0 }
def GLB_IDENT_PART : Fld := { fam := GLB_IDENT, lo := 16, width := 16 }
def GLB_IDENT_VARIANT : Fld := { fam := GLB_IDENT, lo := 12, width := 4 }
def GLB_IDENT_REV : Fld := { fam := GLB_IDENT, lo := 4, width := 8 }
/-- GLB_CAPS (R20, R418). -/
def GLB_CAPS : RegFam := { blk := .glb, base := 0x4, n1 := 1, s1 := 0x4, n2 := 1, s2 := 0x4, reset := [0x48911060] }
def GLB_CAPS_PORTS : Fld := { fam := GLB_CAPS, lo := 0, width := 8 }
def GLB_CAPS_TILES : Fld := { fam := GLB_CAPS, lo := 8, width := 5 }
def GLB_CAPS_CXL_SLICES : Fld := { fam := GLB_CAPS, lo := 13, width := 4 }
def GLB_CAPS_WATCH_SLICES : Fld := { fam := GLB_CAPS, lo := 17, width := 4 }
def GLB_CAPS_FAB_QUARTERS : Fld := { fam := GLB_CAPS, lo := 21, width := 3 }
def GLB_CAPS_EXPORT_PORTS : Fld := { fam := GLB_CAPS, lo := 24, width := 4 }
def GLB_CAPS_QUIROV_LINKS : Fld := { fam := GLB_CAPS, lo := 28, width := 4 }
/-- GLB_XSTAT (R21, R418). -/
def GLB_XSTAT : RegFam := { blk := .glb, base := 0x8, n1 := 1, s1 := 0x4, n2 := 1, s2 := 0x4, reset := [0xFF00], w1c := 0x6, mask := 0xFFFFFF07 }
def GLB_XSTAT_PINNED : Fld := { fam := GLB_XSTAT, lo := 0, width := 1 }
def GLB_XSTAT_BUBBLE : Fld := { fam := GLB_XSTAT, lo := 1, width := 1 }
def GLB_XSTAT_SLIP : Fld := { fam := GLB_XSTAT, lo := 2, width := 1 }
def GLB_XSTAT_ISLAND : Fld := { fam := GLB_XSTAT, lo := 8, width := 8 }
def GLB_XSTAT_ALIGN_COUNT : Fld := { fam := GLB_XSTAT, lo := 16, width := 16 }
/-- GLB_BOOTSTAT (R401, R418). -/
def GLB_BOOTSTAT : RegFam := { blk := .glb, base := 0x10, n1 := 1, s1 := 0x4, n2 := 1, s2 := 0x4, reset := [0x0], mask := 0x7FF }
def GLB_BOOTSTAT_STAGE : Fld := { fam := GLB_BOOTSTAT, lo := 0, width := 3 }
def GLB_BOOTSTAT_SRC : Fld := { fam := GLB_BOOTSTAT, lo := 3, width := 1 }
def GLB_BOOTSTAT_ERR : Fld := { fam := GLB_BOOTSTAT, lo := 4, width := 3 }
def GLB_BOOTSTAT_RAIL : Fld := { fam := GLB_BOOTSTAT, lo := 7, width := 3 }
def GLB_BOOTSTAT_STARTCAL_DONE : Fld := { fam := GLB_BOOTSTAT, lo := 10, width := 1 }
/-- GLB_BOOTCTL (R401, R418). -/
def GLB_BOOTCTL : RegFam := { blk := .glb, base := 0x14, n1 := 1, s1 := 0x4, n2 := 1, s2 := 0x4, reset := [0x0], rwp := 0x6, wo := 0x1, mask := 0x7 }
def GLB_BOOTCTL_LOAD : Fld := { fam := GLB_BOOTCTL, lo := 0, width := 1 }
def GLB_BOOTCTL_STARTCAL : Fld := { fam := GLB_BOOTCTL, lo := 1, width := 2 }
/-- GLB_FWADDR_LO (R418). -/
def GLB_FWADDR_LO : RegFam := { blk := .glb, base := 0x18, n1 := 1, s1 := 0x4, n2 := 1, s2 := 0x4, reset := [0x0], rw := 0xFFFFFFFF }
def GLB_FWADDR_LO_ADDR : Fld := { fam := GLB_FWADDR_LO, lo := 0, width := 32 }
/-- GLB_FWADDR_HI (R418). -/
def GLB_FWADDR_HI : RegFam := { blk := .glb, base := 0x1C, n1 := 1, s1 := 0x4, n2 := 1, s2 := 0x4, reset := [0x0], rw := 0xFFFFFFFF }
def GLB_FWADDR_HI_ADDR : Fld := { fam := GLB_FWADDR_HI, lo := 0, width := 32 }
/-- GLB_FWLEN (R401, R418). -/
def GLB_FWLEN : RegFam := { blk := .glb, base := 0x20, n1 := 1, s1 := 0x4, n2 := 1, s2 := 0x4, reset := [0x0], rw := 0x7FFFFF, mask := 0x7FFFFF }
def GLB_FWLEN_LEN : Fld := { fam := GLB_FWLEN, lo := 0, width := 23 }
/-- GLB_RESET (R401, R418). -/
def GLB_RESET : RegFam := { blk := .glb, base := 0x24, n1 := 1, s1 := 0x4, n2 := 1, s2 := 0x4, reset := [0x0], wo := 0xFF03, mask := 0xFF03 }
def GLB_RESET_KIND : Fld := { fam := GLB_RESET, lo := 0, width := 2 }
def GLB_RESET_KEY : Fld := { fam := GLB_RESET, lo := 8, width := 8 }
/-- GLB_RSTCAUSE (R401, R418). -/
def GLB_RSTCAUSE : RegFam := { blk := .glb, base := 0x28, n1 := 1, s1 := 0x4, n2 := 1, s2 := 0x4, reset := [0x0], mask := 0xFFFF0007 }
def GLB_RSTCAUSE_LAST : Fld := { fam := GLB_RSTCAUSE, lo := 0, width := 3 }
def GLB_RSTCAUSE_LINK : Fld := { fam := GLB_RSTCAUSE, lo := 16, width := 16 }
/-- GLB_INNINGS (R401, R418). -/
def GLB_INNINGS : RegFam := { blk := .glb, base := 0x2C, n1 := 1, s1 := 0x4, n2 := 1, s2 := 0x4, reset := [0x0] }
def GLB_INNINGS_COUNT : Fld := { fam := GLB_INNINGS, lo := 0, width := 32 }
/-- PWR_THCFG (R365, R418). -/
def PWR_THCFG : RegFam := { blk := .pwr, base := 0x10000, n1 := 1, s1 := 0x4, n2 := 1, s2 := 0x4, reset := [0xEC64], resetB := some 0xD864, rwp := 0xFFFF, mask := 0xFFFF }
def PWR_THCFG_THR_ON : Fld := { fam := PWR_THCFG, lo := 0, width := 8 }
def PWR_THCFG_COLD_LIM : Fld := { fam := PWR_THCFG, lo := 8, width := 8 }
/-- PWR_THSTAT (R365, R418). -/
def PWR_THSTAT : RegFam := { blk := .pwr, base := 0x10004, n1 := 1, s1 := 0x4, n2 := 1, s2 := 0x4, reset := [0x0], mask := 0x3FFFF }
def PWR_THSTAT_HOT : Fld := { fam := PWR_THSTAT, lo := 0, width := 12 }
def PWR_THSTAT_N : Fld := { fam := PWR_THSTAT, lo := 12, width := 4 }
def PWR_THSTAT_RATE : Fld := { fam := PWR_THSTAT, lo := 16, width := 1 }
def PWR_THSTAT_ARMED : Fld := { fam := PWR_THSTAT, lo := 17, width := 1 }
/-- PWR_THCAP (R365, R418). -/
def PWR_THCAP : RegFam := { blk := .pwr, base := 0x10008, n1 := 1, s1 := 0x4, n2 := 1, s2 := 0x4, reset := [0xFFFF] }
def PWR_THCAP_CAP : Fld := { fam := PWR_THCAP, lo := 0, width := 16 }
def PWR_THCAP_BASE : Fld := { fam := PWR_THCAP, lo := 16, width := 16 }
/-- PWR_BROKEN0 (R365, R418). -/
def PWR_BROKEN0 : RegFam := { blk := .pwr, base := 0x1000C, n1 := 1, s1 := 0x4, n2 := 1, s2 := 0x4, reset := [0x0] }
def PWR_BROKEN0_SENSORS : Fld := { fam := PWR_BROKEN0, lo := 0, width := 32 }
/-- PWR_BROKEN1 (R365, R418). -/
def PWR_BROKEN1 : RegFam := { blk := .pwr, base := 0x10010, n1 := 1, s1 := 0x4, n2 := 1, s2 := 0x4, reset := [0x0], mask := 0xFFFFFF }
def PWR_BROKEN1_SENSORS : Fld := { fam := PWR_BROKEN1, lo := 0, width := 24 }
/-- PWR_TEMP (R365, R418). -/
def PWR_TEMP : RegFam := { blk := .pwr, base := 0x10100, n1 := 56, s1 := 0x4, n2 := 1, s2 := 0x4, reset := [0x0], mask := 0xFFFF7FFF }
def PWR_TEMP_TEMP : Fld := { fam := PWR_TEMP, lo := 0, width := 12 }
def PWR_TEMP_SUSPECT : Fld := { fam := PWR_TEMP, lo := 12, width := 1 }
def PWR_TEMP_BROKEN : Fld := { fam := PWR_TEMP, lo := 13, width := 1 }
def PWR_TEMP_RATE : Fld := { fam := PWR_TEMP, lo := 14, width := 1 }
def PWR_TEMP_CODE : Fld := { fam := PWR_TEMP, lo := 16, width := 16 }
/-- PWR_TILE (R365, R418). -/
def PWR_TILE : RegFam := { blk := .pwr, base := 0x10200, n1 := 16, s1 := 0x4, n2 := 1, s2 := 0x4, reset := [0x0], mask := 0x1FFFF }
def PWR_TILE_TEMP : Fld := { fam := PWR_TILE, lo := 0, width := 12 }
def PWR_TILE_TBAND : Fld := { fam := PWR_TILE, lo := 12, width := 3 }
def PWR_TILE_BLIND : Fld := { fam := PWR_TILE, lo := 15, width := 1 }
def PWR_TILE_COLD : Fld := { fam := PWR_TILE, lo := 16, width := 1 }
/-- PWR_DOMEN (R365, R418). -/
def PWR_DOMEN : RegFam := { blk := .pwr, base := 0x10400, n1 := 3, s1 := 0x4, n2 := 1, s2 := 0x4, reset := [0xFFFFFFFF, 0xFFFFFFFF, 0xFFFF], rws := 0xFFFFFFFF }
def PWR_DOMEN_EN : Fld := { fam := PWR_DOMEN, lo := 0, width := 32 }
/-- PWR_DOMSTAT (R365, R418). -/
def PWR_DOMSTAT : RegFam := { blk := .pwr, base := 0x10410, n1 := 3, s1 := 0x4, n2 := 1, s2 := 0x4, reset := [0x0, 0x0, 0xC700] }
def PWR_DOMSTAT_ON : Fld := { fam := PWR_DOMSTAT, lo := 0, width := 32 }
/-- PWR_DOMFAIL (R365, R418). -/
def PWR_DOMFAIL : RegFam := { blk := .pwr, base := 0x10420, n1 := 3, s1 := 0x4, n2 := 1, s2 := 0x4, reset := [0x0], w1c := 0xFFFFFFFF }
def PWR_DOMFAIL_FAIL : Fld := { fam := PWR_DOMFAIL, lo := 0, width := 32 }
/-- CLK_RCFG (R185, R418). -/
def CLK_RCFG : RegFam := { blk := .clk, base := 0x20000, n1 := 1, s1 := 0x4, n2 := 1, s2 := 0x4, reset := [0x1], rws := 0xF, mask := 0xF }
def CLK_RCFG_TARGET : Fld := { fam := CLK_RCFG, lo := 0, width := 3 }
def CLK_RCFG_DRIFT_POL : Fld := { fam := CLK_RCFG, lo := 3, width := 1 }
/-- CLK_RSTAT (R185, R418). -/
def CLK_RSTAT : RegFam := { blk := .clk, base := 0x20004, n1 := 1, s1 := 0x4, n2 := 1, s2 := 0x4, reset := [0x1], mask := 0xF }
def CLK_RSTAT_STATE : Fld := { fam := CLK_RSTAT, lo := 0, width := 3 }
def CLK_RSTAT_MOVING : Fld := { fam := CLK_RSTAT, lo := 3, width := 1 }
/-- CLK_TCAP (R185, R418). -/
def CLK_TCAP : RegFam := { blk := .clk, base := 0x20040, n1 := 16, s1 := 0x4, n2 := 1, s2 := 0x4, reset := [0x4], rws := 0x7, mask := 0x7 }
def CLK_TCAP_CAP : Fld := { fam := CLK_TCAP, lo := 0, width := 3 }
/-- CLK_TSTAT (R185, R418). -/
def CLK_TSTAT : RegFam := { blk := .clk, base := 0x20080, n1 := 16, s1 := 0x4, n2 := 1, s2 := 0x4, reset := [0x1], w1c := 0x8, mask := 0xF }
def CLK_TSTAT_STATE : Fld := { fam := CLK_TSTAT, lo := 0, width := 3 }
def CLK_TSTAT_FORCED : Fld := { fam := CLK_TSTAT, lo := 3, width := 1 }
/-- CLK_SYNSTAT (R185, R418). -/
def CLK_SYNSTAT : RegFam := { blk := .clk, base := 0x20100, n1 := 4, s1 := 0x4, n2 := 1, s2 := 0x4, reset := [0x0], mask := 0xFFFFF }
def CLK_SYNSTAT_CAL_TEMP : Fld := { fam := CLK_SYNSTAT, lo := 0, width := 8 }
def CLK_SYNSTAT_TEMP : Fld := { fam := CLK_SYNSTAT, lo := 8, width := 8 }
def CLK_SYNSTAT_LOCK : Fld := { fam := CLK_SYNSTAT, lo := 16, width := 1 }
def CLK_SYNSTAT_CAL_DUE : Fld := { fam := CLK_SYNSTAT, lo := 17, width := 1 }
def CLK_SYNSTAT_DRIFT : Fld := { fam := CLK_SYNSTAT, lo := 18, width := 1 }
def CLK_SYNSTAT_CAL_RUN : Fld := { fam := CLK_SYNSTAT, lo := 19, width := 1 }
/-- CLK_QCTL (R184, R418). -/
def CLK_QCTL : RegFam := { blk := .clk, base := 0x21000, n1 := 8, s1 := 0x100, n2 := 1, s2 := 0x4, reset := [0x190], rws := 0xFFF, mask := 0xFFF }
def CLK_QCTL_EN : Fld := { fam := CLK_QCTL, lo := 0, width := 1 }
def CLK_QCTL_MODE : Fld := { fam := CLK_QCTL, lo := 1, width := 1 }
def CLK_QCTL_TIMEOUT : Fld := { fam := CLK_QCTL, lo := 2, width := 10 }
/-- CLK_QPORT (R418). -/
def CLK_QPORT : RegFam := { blk := .clk, base := 0x21004, n1 := 8, s1 := 0x100, n2 := 3, s2 := 0x4, reset := [0x0], rws := 0xFFFFFFFF }
def CLK_QPORT_PORTS : Fld := { fam := CLK_QPORT, lo := 0, width := 32 }
/-- CLK_QSTAT (R184, R418). -/
def CLK_QSTAT : RegFam := { blk := .clk, base := 0x21010, n1 := 8, s1 := 0x100, n2 := 1, s2 := 0x4, reset := [0x0], mask := 0xFFFF0007 }
def CLK_QSTAT_REQ : Fld := { fam := CLK_QSTAT, lo := 0, width := 1 }
def CLK_QSTAT_GNT : Fld := { fam := CLK_QSTAT, lo := 1, width := 1 }
def CLK_QSTAT_QUIET : Fld := { fam := CLK_QSTAT, lo := 2, width := 1 }
def CLK_QSTAT_COUNT : Fld := { fam := CLK_QSTAT, lo := 16, width := 16 }
/-- CLK_QSB (R184, R418). -/
def CLK_QSB : RegFam := { blk := .clk, base := 0x21080, n1 := 8, s1 := 0x100, n2 := 32, s2 := 0x4, reset := [0x0], rws := 0xFFFFFFFF }
def CLK_QSB_SB : Fld := { fam := CLK_QSB, lo := 0, width := 32 }
/-- TILE[t]_PORTCFG (R34, R419). -/
def TILE_PORTCFG : RegFam := { blk := .tile, base := 0x40000, n1 := 16, s1 := 0x10000, n2 := 6, s2 := 0x40, reset := [0xF00C1FC], rws := 0xFFFF1FF, mask := 0xFFFF1FF }
def TILE_PORTCFG_ATT : Fld := { fam := TILE_PORTCFG, lo := 0, width := 6 }
def TILE_PORTCFG_ARC_EN : Fld := { fam := TILE_PORTCFG, lo := 6, width := 1 }
def TILE_PORTCFG_RX_EN : Fld := { fam := TILE_PORTCFG, lo := 7, width := 1 }
def TILE_PORTCFG_BGC_EN : Fld := { fam := TILE_PORTCFG, lo := 8, width := 1 }
def TILE_PORTCFG_OVR_THR : Fld := { fam := TILE_PORTCFG, lo := 12, width := 4 }
def TILE_PORTCFG_ATT_MIN : Fld := { fam := TILE_PORTCFG, lo := 16, width := 6 }
def TILE_PORTCFG_ATT_MAX : Fld := { fam := TILE_PORTCFG, lo := 22, width := 6 }
/-- TILE[t]_ARCCFG (R35, R419). -/
def TILE_ARCCFG : RegFam := { blk := .tile, base := 0x40004, n1 := 16, s1 := 0x10000, n2 := 6, s2 := 0x40, reset := [0x18D8302], rws := 0xFFFFFFF, mask := 0xFFFFFFF }
def TILE_ARCCFG_UP_THR : Fld := { fam := TILE_ARCCFG, lo := 0, width := 6 }
def TILE_ARCCFG_TARGET : Fld := { fam := TILE_ARCCFG, lo := 6, width := 6 }
def TILE_ARCCFG_DN_THR : Fld := { fam := TILE_ARCCFG, lo := 12, width := 6 }
def TILE_ARCCFG_DN_HOLD : Fld := { fam := TILE_ARCCFG, lo := 18, width := 10 }
/-- TILE[t]_DACCFG (R47, R419). -/
def TILE_DACCFG : RegFam := { blk := .tile, base := 0x40008, n1 := 16, s1 := 0x10000, n2 := 6, s2 := 0x40, reset := [0x0], rws := 0x1, mask := 0x1 }
def TILE_DACCFG_TX_EN : Fld := { fam := TILE_DACCFG, lo := 0, width := 1 }
/-- TILE[t]_PORTSTAT (R54, R419). -/
def TILE_PORTSTAT : RegFam := { blk := .tile, base := 0x40010, n1 := 16, s1 := 0x10000, n2 := 6, s2 := 0x40, reset := [0x3C], w1c := 0x3C0, mask := 0x7FFFF }
def TILE_PORTSTAT_ATT_NOW : Fld := { fam := TILE_PORTSTAT, lo := 0, width := 6 }
def TILE_PORTSTAT_OVR : Fld := { fam := TILE_PORTSTAT, lo := 6, width := 1 }
def TILE_PORTSTAT_BUBBLE : Fld := { fam := TILE_PORTSTAT, lo := 7, width := 1 }
def TILE_PORTSTAT_STALE : Fld := { fam := TILE_PORTSTAT, lo := 8, width := 1 }
def TILE_PORTSTAT_BUBBLE_MUTE : Fld := { fam := TILE_PORTSTAT, lo := 9, width := 1 }
def TILE_PORTSTAT_OUT_OF_SERVICE : Fld := { fam := TILE_PORTSTAT, lo := 10, width := 1 }
def TILE_PORTSTAT_CAL_FAIL : Fld := { fam := TILE_PORTSTAT, lo := 11, width := 1 }
def TILE_PORTSTAT_RAMP : Fld := { fam := TILE_PORTSTAT, lo := 12, width := 2 }
def TILE_PORTSTAT_HARD : Fld := { fam := TILE_PORTSTAT, lo := 14, width := 1 }
def TILE_PORTSTAT_TBAND : Fld := { fam := TILE_PORTSTAT, lo := 15, width := 3 }
def TILE_PORTSTAT_BGC_CONV : Fld := { fam := TILE_PORTSTAT, lo := 18, width := 1 }
/-- TILE[t]_RANGEIDX (R54, R419). -/
def TILE_RANGEIDX : RegFam := { blk := .tile, base := 0x40014, n1 := 16, s1 := 0x10000, n2 := 6, s2 := 0x40, reset := [0x0] }
def TILE_RANGEIDX_C : Fld := { fam := TILE_RANGEIDX, lo := 0, width := 32 }
/-- TILE[t]_OVRCNT (R54, R419). -/
def TILE_OVRCNT : RegFam := { blk := .tile, base := 0x40018, n1 := 16, s1 := 0x10000, n2 := 6, s2 := 0x40, reset := [0x0] }
def TILE_OVRCNT_GROUPS : Fld := { fam := TILE_OVRCNT, lo := 0, width := 32 }
/-- TILE[t]_BUBCNT (R54, R419). -/
def TILE_BUBCNT : RegFam := { blk := .tile, base := 0x4001C, n1 := 16, s1 := 0x10000, n2 := 6, s2 := 0x40, reset := [0x0] }
def TILE_BUBCNT_BUBBLES : Fld := { fam := TILE_BUBCNT, lo := 0, width := 16 }
def TILE_BUBCNT_STALE : Fld := { fam := TILE_BUBCNT, lo := 16, width := 8 }
def TILE_BUBCNT_STORMS : Fld := { fam := TILE_BUBCNT, lo := 24, width := 8 }
/-- TILE[t]_BANKCFG (R62, R419). -/
def TILE_BANKCFG : RegFam := { blk := .tile, base := 0x40020, n1 := 16, s1 := 0x10000, n2 := 6, s2 := 0x40, reset := [0x40], rws := 0x73, mask := 0x73 }
def TILE_BANKCFG_RX_PROTO : Fld := { fam := TILE_BANKCFG, lo := 0, width := 1 }
def TILE_BANKCFG_TX_PROTO : Fld := { fam := TILE_BANKCFG, lo := 1, width := 1 }
def TILE_BANKCFG_SBSHIFT : Fld := { fam := TILE_BANKCFG, lo := 4, width := 3 }
/-- TILE[t]_BANKSTAT (R74, R419). -/
def TILE_BANKSTAT : RegFam := { blk := .tile, base := 0x40024, n1 := 16, s1 := 0x10000, n2 := 6, s2 := 0x40, reset := [0xE10], mask := 0x1FFFFFF }
def TILE_BANKSTAT_N_RX : Fld := { fam := TILE_BANKSTAT, lo := 0, width := 8 }
def TILE_BANKSTAT_N_TX : Fld := { fam := TILE_BANKSTAT, lo := 8, width := 8 }
def TILE_BANKSTAT_ACTIVE : Fld := { fam := TILE_BANKSTAT, lo := 16, width := 9 }
/-- TILE[t]_SATCNT (R81, R419). -/
def TILE_SATCNT : RegFam := { blk := .tile, base := 0x40028, n1 := 16, s1 := 0x10000, n2 := 6, s2 := 0x40, reset := [0x0], rw := 0xFFFFFFFF }
def TILE_SATCNT_SAMPLES : Fld := { fam := TILE_SATCNT, lo := 0, width := 32 }
/-- TILE[t]_TXCLIP (R81, R419). -/
def TILE_TXCLIP : RegFam := { blk := .tile, base := 0x4002C, n1 := 16, s1 := 0x10000, n2 := 6, s2 := 0x40, reset := [0x0], rw := 0xFFFFFFFF }
def TILE_TXCLIP_SAMPLES : Fld := { fam := TILE_TXCLIP, lo := 0, width := 32 }
/-- TILE[t]_PACFG (R177, R419). -/
def TILE_PACFG : RegFam := { blk := .tile, base := 0x40030, n1 := 16, s1 := 0x10000, n2 := 6, s2 := 0x40, reset := [0x831], rws := 0xFFF, mask := 0xFFF }
def TILE_PACFG_TBIAS_M1 : Fld := { fam := TILE_PACFG, lo := 0, width := 10 }
def TILE_PACFG_PA_PRESENT : Fld := { fam := TILE_PACFG, lo := 10, width := 1 }
def TILE_PACFG_FLT_EN : Fld := { fam := TILE_PACFG, lo := 11, width := 1 }
/-- TILE[t]_PASTAT (R180, R419). -/
def TILE_PASTAT : RegFam := { blk := .tile, base := 0x40034, n1 := 16, s1 := 0x10000, n2 := 6, s2 := 0x40, reset := [0x10], w1c := 0x8, mask := 0xFF1F }
def TILE_PASTAT_SEQ : Fld := { fam := TILE_PASTAT, lo := 0, width := 3 }
def TILE_PASTAT_FLT : Fld := { fam := TILE_PASTAT, lo := 3, width := 1 }
def TILE_PASTAT_FLT_PIN : Fld := { fam := TILE_PASTAT, lo := 4, width := 1 }
def TILE_PASTAT_FLT_COUNT : Fld := { fam := TILE_PASTAT, lo := 8, width := 8 }
/-- TILE[t]_ORXCFG (R48, R419). -/
def TILE_ORXCFG : RegFam := { blk := .tile, base := 0x40200, n1 := 16, s1 := 0x10000, n2 := 1, s2 := 0x4, reset := [0x0], rws := 0x1F, mask := 0x1F }
def TILE_ORXCFG_ORX_EN : Fld := { fam := TILE_ORXCFG, lo := 0, width := 1 }
def TILE_ORXCFG_SEL : Fld := { fam := TILE_ORXCFG, lo := 1, width := 3 }
def TILE_ORXCFG_MANUAL : Fld := { fam := TILE_ORXCFG, lo := 4, width := 1 }
/-- TILE[t]_ORXATT (R48, R419). -/
def TILE_ORXATT : RegFam := { blk := .tile, base := 0x40204, n1 := 16, s1 := 0x10000, n2 := 6, s2 := 0x4, reset := [0x3C], rws := 0x3F, mask := 0x3F }
def TILE_ORXATT_ATT : Fld := { fam := TILE_ORXATT, lo := 0, width := 6 }
/-- TILE[t]_ORXSTAT (R48, R419). -/
def TILE_ORXSTAT : RegFam := { blk := .tile, base := 0x40220, n1 := 16, s1 := 0x10000, n2 := 1, s2 := 0x4, reset := [0x0], w1c := 0x30, mask := 0xFF }
def TILE_ORXSTAT_INPUT : Fld := { fam := TILE_ORXSTAT, lo := 0, width := 3 }
def TILE_ORXSTAT_SETTLING : Fld := { fam := TILE_ORXSTAT, lo := 3, width := 1 }
def TILE_ORXSTAT_OVR : Fld := { fam := TILE_ORXSTAT, lo := 4, width := 1 }
def TILE_ORXSTAT_BUBBLE : Fld := { fam := TILE_ORXSTAT, lo := 5, width := 1 }
def TILE_ORXSTAT_OUT_OF_SERVICE : Fld := { fam := TILE_ORXSTAT, lo := 6, width := 1 }
def TILE_ORXSTAT_CAL_FAIL : Fld := { fam := TILE_ORXSTAT, lo := 7, width := 1 }
/-- TILE[t]_CALSTAT (R53, R419). -/
def TILE_CALSTAT : RegFam := { blk := .tile, base := 0x40300, n1 := 16, s1 := 0x10000, n2 := 1, s2 := 0x4, reset := [0x0], mask := 0x7FF03FF }
def TILE_CALSTAT_STATE : Fld := { fam := TILE_CALSTAT, lo := 0, width := 2 }
def TILE_CALSTAT_FAIL : Fld := { fam := TILE_CALSTAT, lo := 2, width := 1 }
def TILE_CALSTAT_FAIL_MASK : Fld := { fam := TILE_CALSTAT, lo := 3, width := 7 }
def TILE_CALSTAT_TEMP : Fld := { fam := TILE_CALSTAT, lo := 16, width := 8 }
def TILE_CALSTAT_TBAND : Fld := { fam := TILE_CALSTAT, lo := 24, width := 3 }
/-- TILE[t]_CALFAC (R419). -/
def TILE_CALFAC : RegFam := { blk := .tile, base := 0x48000, n1 := 16, s1 := 0x10000, n2 := 256, s2 := 0x4, reset := [0x0], rws := 0xFFFFFFFF, held := true }
def TILE_CALFAC_W : Fld := { fam := TILE_CALFAC, lo := 0, width := 32 }
/-- FAB_STAT (R103, R420). -/
def FAB_STAT : RegFam := { blk := .fab, base := 0x140000, n1 := 1, s1 := 0x4, n2 := 1, s2 := 0x4, reset := [0x0], mask := 0xFFFFFF }
def FAB_STAT_PATHS : Fld := { fam := FAB_STAT, lo := 0, width := 13 }
def FAB_STAT_XFADES : Fld := { fam := FAB_STAT, lo := 13, width := 7 }
def FAB_STAT_QUARTER_ON : Fld := { fam := FAB_STAT, lo := 20, width := 4 }
/-- FAB_CLIPCNT (R103, R420). -/
def FAB_CLIPCNT : RegFam := { blk := .fab, base := 0x140004, n1 := 1, s1 := 0x4, n2 := 1, s2 := 0x4, reset := [0x0], rw := 0xFFFFFFFF }
def FAB_CLIPCNT_SAMPLES : Fld := { fam := FAB_CLIPCNT, lo := 0, width := 32 }
/-- FAB_STREAMS (R103, R420). -/
def FAB_STREAMS : RegFam := { blk := .fab, base := 0x140008, n1 := 1, s1 := 0x4, n2 := 1, s2 := 0x4, reset := [0x0], mask := 0x7FFF }
def FAB_STREAMS_ACTIVE : Fld := { fam := FAB_STREAMS, lo := 0, width := 15 }
/-- FAB_LINKUSE (R103, R420). -/
def FAB_LINKUSE : RegFam := { blk := .fab, base := 0x140010, n1 := 4, s1 := 0x4, n2 := 1, s2 := 0x4, reset := [0x0], mask := 0x7FF07FF }
def FAB_LINKUSE_OUT : Fld := { fam := FAB_LINKUSE, lo := 0, width := 11 }
def FAB_LINKUSE_IN : Fld := { fam := FAB_LINKUSE, lo := 16, width := 11 }
/-- FAB_OSET (R420). -/
def FAB_OSET : RegFam := { blk := .fab, base := 0x140800, n1 := 128, s1 := 0x10, n2 := 3, s2 := 0x4, reset := [0x0], rws := 0xFFFFFFFF }
def FAB_OSET_PORTS : Fld := { fam := FAB_OSET, lo := 0, width := 32 }
/-- FAB_XFPATH (R99, R420). -/
def FAB_XFPATH : RegFam := { blk := .fab, base := 0x141000, n1 := 64, s1 := 0x10, n2 := 1, s2 := 0x4, reset := [0x0], rws := 0xFFF0FFF, mask := 0xFFF0FFF }
def FAB_XFPATH_NEW : Fld := { fam := FAB_XFPATH, lo := 0, width := 12 }
def FAB_XFPATH_OLD : Fld := { fam := FAB_XFPATH, lo := 16, width := 12 }
/-- FAB_XFCTL (R99, R420). -/
def FAB_XFCTL : RegFam := { blk := .fab, base := 0x141004, n1 := 64, s1 := 0x10, n2 := 1, s2 := 0x4, reset := [0x0], rws := 0x103FF, mask := 0x103FF }
def FAB_XFCTL_BEATS_M1 : Fld := { fam := FAB_XFCTL, lo := 0, width := 10 }
def FAB_XFCTL_EN : Fld := { fam := FAB_XFCTL, lo := 16, width := 1 }
/-- FAB_XFSTAT (R99, R420). -/
def FAB_XFSTAT : RegFam := { blk := .fab, base := 0x141008, n1 := 64, s1 := 0x10, n2 := 1, s2 := 0x4, reset := [0x0], mask := 0x7FFFFF }
def FAB_XFSTAT_PHASE : Fld := { fam := FAB_XFSTAT, lo := 0, width := 2 }
def FAB_XFSTAT_POS : Fld := { fam := FAB_XFSTAT, lo := 2, width := 21 }
/-- FAB_PSTAT0 (R102, R420). -/
def FAB_PSTAT0 : RegFam := { blk := .fab, base := 0x148000, n1 := 4096, s1 := 0x8, n2 := 1, s2 := 0x4, reset := [0x0], mask := 0x1FFFFF }
def FAB_PSTAT0_STATE : Fld := { fam := FAB_PSTAT0, lo := 0, width := 3 }
def FAB_PSTAT0_MUTED : Fld := { fam := FAB_PSTAT0, lo := 3, width := 1 }
def FAB_PSTAT0_HELD : Fld := { fam := FAB_PSTAT0, lo := 4, width := 1 }
def FAB_PSTAT0_XF : Fld := { fam := FAB_PSTAT0, lo := 5, width := 1 }
def FAB_PSTAT0_GAIN_APP : Fld := { fam := FAB_PSTAT0, lo := 6, width := 12 }
def FAB_PSTAT0_LIMIT : Fld := { fam := FAB_PSTAT0, lo := 18, width := 3 }
/-- FAB_PSTAT1 (R102, R420). -/
def FAB_PSTAT1 : RegFam := { blk := .fab, base := 0x148004, n1 := 4096, s1 := 0x8, n2 := 1, s2 := 0x4, reset := [0x0], mask := 0xFFFFFF }
def FAB_PSTAT1_N_FRONT : Fld := { fam := FAB_PSTAT1, lo := 0, width := 8 }
def FAB_PSTAT1_N_MIN : Fld := { fam := FAB_PSTAT1, lo := 8, width := 8 }
def FAB_PSTAT1_N_MAX : Fld := { fam := FAB_PSTAT1, lo := 16, width := 8 }
/-- FAB_PCFG0 (R86, R420). -/
def FAB_PCFG0 : RegFam := { blk := .fab, base := 0x150000, n1 := 4096, s1 := 0x10, n2 := 1, s2 := 0x4, reset := [0x0], rws := 0x7FFFFFFF, mask := 0x7FFFFFFF }
def FAB_PCFG0_ENABLE : Fld := { fam := FAB_PCFG0, lo := 0, width := 1 }
def FAB_PCFG0_CLASS : Fld := { fam := FAB_PCFG0, lo := 1, width := 1 }
def FAB_PCFG0_LOOP_EN : Fld := { fam := FAB_PCFG0, lo := 2, width := 1 }
def FAB_PCFG0_LOOP : Fld := { fam := FAB_PCFG0, lo := 3, width := 9 }
def FAB_PCFG0_GAIN : Fld := { fam := FAB_PCFG0, lo := 12, width := 12 }
def FAB_PCFG0_OSET : Fld := { fam := FAB_PCFG0, lo := 24, width := 7 }
/-- FAB_PCFG1 (R86, R420). -/
def FAB_PCFG1 : RegFam := { blk := .fab, base := 0x150004, n1 := 4096, s1 := 0x10, n2 := 1, s2 := 0x4, reset := [0x0], rws := 0xFFFFFFF, mask := 0xFFFFFFF }
def FAB_PCFG1_K_IN : Fld := { fam := FAB_PCFG1, lo := 0, width := 10 }
def FAB_PCFG1_K_OUT : Fld := { fam := FAB_PCFG1, lo := 10, width := 10 }
def FAB_PCFG1_WM1 : Fld := { fam := FAB_PCFG1, lo := 20, width := 8 }
/-- FAB_PCFG2 (R86, R420). -/
def FAB_PCFG2 : RegFam := { blk := .fab, base := 0x150008, n1 := 4096, s1 := 0x10, n2 := 1, s2 := 0x4, reset := [0x0], rws := 0x3FF03FF, mask := 0x3FF03FF }
def FAB_PCFG2_IN0_PORT : Fld := { fam := FAB_PCFG2, lo := 0, width := 7 }
def FAB_PCFG2_IN0_SID : Fld := { fam := FAB_PCFG2, lo := 7, width := 2 }
def FAB_PCFG2_IN0_VALID : Fld := { fam := FAB_PCFG2, lo := 9, width := 1 }
def FAB_PCFG2_IN1 : Fld := { fam := FAB_PCFG2, lo := 16, width := 10 }
/-- FAB_PCFG3 (R86, R420). -/
def FAB_PCFG3 : RegFam := { blk := .fab, base := 0x15000C, n1 := 4096, s1 := 0x10, n2 := 1, s2 := 0x4, reset := [0x0], rws := 0x3FF03FF, mask := 0x3FF03FF }
def FAB_PCFG3_IN2 : Fld := { fam := FAB_PCFG3, lo := 0, width := 10 }
def FAB_PCFG3_IN3 : Fld := { fam := FAB_PCFG3, lo := 16, width := 10 }
/-- ISO_OSCCFG (R131, R420). -/
def ISO_OSCCFG : RegFam := { blk := .iso, base := 0x160000, n1 := 1, s1 := 0x4, n2 := 1, s2 := 0x4, reset := [0x13C78], rws := 0x1FFFF, mask := 0x1FFFF }
def ISO_OSCCFG_DET_HR : Fld := { fam := ISO_OSCCFG, lo := 0, width := 8 }
def ISO_OSCCFG_COMB_THR : Fld := { fam := ISO_OSCCFG, lo := 8, width := 8 }
def ISO_OSCCFG_COMB_EN : Fld := { fam := ISO_OSCCFG, lo := 16, width := 1 }
/-- ISO_CLEAR (R131, R420). -/
def ISO_CLEAR : RegFam := { blk := .iso, base := 0x160004, n1 := 1, s1 := 0x4, n2 := 1, s2 := 0x4, reset := [0x0], rws := 0x3FFF, mask := 0x3FFF }
def ISO_CLEAR_PATH : Fld := { fam := ISO_CLEAR, lo := 0, width := 12 }
def ISO_CLEAR_KIND : Fld := { fam := ISO_CLEAR, lo := 12, width := 2 }
/-- ISO_STAT (R131, R420). -/
def ISO_STAT : RegFam := { blk := .iso, base := 0x160008, n1 := 1, s1 := 0x4, n2 := 1, s2 := 0x4, reset := [0x0], mask := 0x3FFFFFF }
def ISO_STAT_BACKOFF : Fld := { fam := ISO_STAT, lo := 0, width := 13 }
def ISO_STAT_SHUTDOWN : Fld := { fam := ISO_STAT, lo := 13, width := 13 }
/-- ISO_SEEDSTAT (R131, R420). -/
def ISO_SEEDSTAT : RegFam := { blk := .iso, base := 0x16000C, n1 := 1, s1 := 0x4, n2 := 1, s2 := 0x4, reset := [0x0], w1c := 0x8000000, mask := 0xFFFFFFF }
def ISO_SEEDSTAT_MARKED : Fld := { fam := ISO_SEEDSTAT, lo := 0, width := 13 }
def ISO_SEEDSTAT_RECORDS : Fld := { fam := ISO_SEEDSTAT, lo := 13, width := 13 }
def ISO_SEEDSTAT_WRITING : Fld := { fam := ISO_SEEDSTAT, lo := 26, width := 1 }
def ISO_SEEDSTAT_STORE_FAIL : Fld := { fam := ISO_SEEDSTAT, lo := 27, width := 1 }
/-- ISO_SLICECFG (R131, R420). -/
def ISO_SLICECFG : RegFam := { blk := .iso, base := 0x160010, n1 := 8, s1 := 0x4, n2 := 1, s2 := 0x4, reset := [0x0], rws := 0x1, mask := 0x1 }
def ISO_SLICECFG_FREEZE : Fld := { fam := ISO_SLICECFG, lo := 0, width := 1 }
/-- ISO_SLICESTAT (R131, R420). -/
def ISO_SLICESTAT : RegFam := { blk := .iso, base := 0x160030, n1 := 8, s1 := 0x4, n2 := 1, s2 := 0x4, reset := [0x0], mask := 0xFFFF3FFF }
def ISO_SLICESTAT_LINKS : Fld := { fam := ISO_SLICESTAT, lo := 0, width := 12 }
def ISO_SLICESTAT_ON : Fld := { fam := ISO_SLICESTAT, lo := 12, width := 1 }
def ISO_SLICESTAT_LOST : Fld := { fam := ISO_SLICESTAT, lo := 13, width := 1 }
def ISO_SLICESTAT_ECC_CORR : Fld := { fam := ISO_SLICESTAT, lo := 16, width := 16 }
/-- ISO_LSEL (R131, R420). -/
def ISO_LSEL : RegFam := { blk := .iso, base := 0x160060, n1 := 1, s1 := 0x4, n2 := 1, s2 := 0x4, reset := [0x0], rw := 0x3FFF, mask := 0x3FFF }
def ISO_LSEL_LINK : Fld := { fam := ISO_LSEL, lo := 0, width := 14 }
/-- ISO_LSTAT (R131, R420). -/
def ISO_LSTAT : RegFam := { blk := .iso, base := 0x160064, n1 := 1, s1 := 0x4, n2 := 1, s2 := 0x4, reset := [0x0], mask := 0xFFFFFFF }
def ISO_LSTAT_STATE : Fld := { fam := ISO_LSTAT, lo := 0, width := 3 }
def ISO_LSTAT_REF_QUIET : Fld := { fam := ISO_LSTAT, lo := 3, width := 1 }
def ISO_LSTAT_ISO_RES : Fld := { fam := ISO_LSTAT, lo := 4, width := 12 }
def ISO_LSTAT_ISO_PRE : Fld := { fam := ISO_LSTAT, lo := 16, width := 12 }
/-- ISO_LTAP (R131, R420). -/
def ISO_LTAP : RegFam := { blk := .iso, base := 0x160080, n1 := 32, s1 := 0x4, n2 := 1, s2 := 0x4, reset := [0x0] }
def ISO_LTAP_I : Fld := { fam := ISO_LTAP, lo := 0, width := 16 }
def ISO_LTAP_Q : Fld := { fam := ISO_LTAP, lo := 16, width := 16 }
/-- ISO_PGOV (R132, R420). -/
def ISO_PGOV : RegFam := { blk := .iso, base := 0x161000, n1 := 4096, s1 := 0x4, n2 := 1, s2 := 0x4, reset := [0x12C], rws := 0x7FFFFF, mask := 0x7FFFFF }
def ISO_PGOV_MARGIN : Fld := { fam := ISO_PGOV, lo := 0, width := 10 }
def ISO_PGOV_ISO_DECL : Fld := { fam := ISO_PGOV, lo := 10, width := 12 }
def ISO_PGOV_MUTE : Fld := { fam := ISO_PGOV, lo := 22, width := 1 }
/-- ISO_PSTAT (R134, R420). -/
def ISO_PSTAT : RegFam := { blk := .iso, base := 0x165000, n1 := 4096, s1 := 0x4, n2 := 1, s2 := 0x4, reset := [0x7FFF], mask := 0xFFF7FFF }
def ISO_PSTAT_ISO : Fld := { fam := ISO_PSTAT, lo := 0, width := 12 }
def ISO_PSTAT_GOV_SRC : Fld := { fam := ISO_PSTAT, lo := 12, width := 3 }
def ISO_PSTAT_MUTE : Fld := { fam := ISO_PSTAT, lo := 16, width := 4 }
def ISO_PSTAT_LOCKOUT : Fld := { fam := ISO_PSTAT, lo := 20, width := 1 }
def ISO_PSTAT_HOLDOFF : Fld := { fam := ISO_PSTAT, lo := 21, width := 1 }
def ISO_PSTAT_SHUTDOWNS : Fld := { fam := ISO_PSTAT, lo := 22, width := 2 }
def ISO_PSTAT_GAIN_LIMITED : Fld := { fam := ISO_PSTAT, lo := 24, width := 1 }
def ISO_PSTAT_SEEDED : Fld := { fam := ISO_PSTAT, lo := 25, width := 1 }
def ISO_PSTAT_COMB_UNAVAIL : Fld := { fam := ISO_PSTAT, lo := 26, width := 1 }
def ISO_PSTAT_DECL_USED : Fld := { fam := ISO_PSTAT, lo := 27, width := 1 }
/-- ISO_PUL (R133, R420). -/
def ISO_PUL : RegFam := { blk := .iso, base := 0x169000, n1 := 4096, s1 := 0x4, n2 := 1, s2 := 0x4, reset := [0x100000], rws := 0x1FFFFF, mask := 0x1FFFFF }
def ISO_PUL_NFLOOR : Fld := { fam := ISO_PUL, lo := 0, width := 10 }
def ISO_PUL_SQ_THR : Fld := { fam := ISO_PUL, lo := 10, width := 10 }
def ISO_PUL_SQ_EN : Fld := { fam := ISO_PUL, lo := 20, width := 1 }
/-- ISO_LCFG (R105, R420). -/
def ISO_LCFG : RegFam := { blk := .iso, base := 0x170000, n1 := 16384, s1 := 0x4, n2 := 1, s2 := 0x4, reset := [0x0], rws := 0xFFFFFFFF }
def ISO_LCFG_VICTIM : Fld := { fam := ISO_LCFG, lo := 0, width := 4 }
def ISO_LCFG_SRC_PORT : Fld := { fam := ISO_LCFG, lo := 4, width := 7 }
def ISO_LCFG_K : Fld := { fam := ISO_LCFG, lo := 11, width := 10 }
def ISO_LCFG_DELTA : Fld := { fam := ISO_LCFG, lo := 21, width := 2 }
def ISO_LCFG_DLY : Fld := { fam := ISO_LCFG, lo := 23, width := 4 }
def ISO_LCFG_MU : Fld := { fam := ISO_LCFG, lo := 27, width := 4 }
def ISO_LCFG_SEED : Fld := { fam := ISO_LCFG, lo := 31, width := 1 }
/-- SPW_GCFG (R164, R420). -/
def SPW_GCFG : RegFam := { blk := .spw, base := 0x180000, n1 := 1, s1 := 0x4, n2 := 1, s2 := 0x4, reset := [0x132320], rws := 0x3FFFFF, mask := 0x3FFFFF }
def SPW_GCFG_BUDGET : Fld := { fam := SPW_GCFG, lo := 0, width := 12 }
def SPW_GCFG_SK_NSIG : Fld := { fam := SPW_GCFG, lo := 12, width := 8 }
def SPW_GCFG_COARSE : Fld := { fam := SPW_GCFG, lo := 20, width := 2 }
/-- SPW_STAT (R164, R420). -/
def SPW_STAT : RegFam := { blk := .spw, base := 0x180004, n1 := 1, s1 := 0x4, n2 := 1, s2 := 0x4, reset := [0x0], mask := 0x1FFFFF }
def SPW_STAT_RATE : Fld := { fam := SPW_STAT, lo := 0, width := 12 }
def SPW_STAT_SLICE_ON : Fld := { fam := SPW_STAT, lo := 12, width := 8 }
def SPW_STAT_COARSE_ACTIVE : Fld := { fam := SPW_STAT, lo := 20, width := 1 }
/-- SPW_DROPCNT (R164, R420). -/
def SPW_DROPCNT : RegFam := { blk := .spw, base := 0x180008, n1 := 1, s1 := 0x4, n2 := 1, s2 := 0x4, reset := [0x0], rw := 0xFFFFFFFF }
def SPW_DROPCNT_RECORDS : Fld := { fam := SPW_DROPCNT, lo := 0, width := 32 }
/-- SPW_CAPSTAT (R164, R420). -/
def SPW_CAPSTAT : RegFam := { blk := .spw, base := 0x18000C, n1 := 1, s1 := 0x4, n2 := 1, s2 := 0x4, reset := [0x0], mask := 0x3FF }
def SPW_CAPSTAT_WRATE : Fld := { fam := SPW_CAPSTAT, lo := 0, width := 9 }
def SPW_CAPSTAT_MEM_ON : Fld := { fam := SPW_CAPSTAT, lo := 9, width := 1 }
/-- SPW_PCFG (R165, R420). -/
def SPW_PCFG : RegFam := { blk := .spw, base := 0x180100, n1 := 96, s1 := 0x4, n2 := 1, s2 := 0x4, reset := [0x280018E], rws := 0x7FFFFFF, mask := 0x7FFFFFF }
def SPW_PCFG_EN : Fld := { fam := SPW_PCFG, lo := 0, width := 1 }
def SPW_PCFG_MM1 : Fld := { fam := SPW_PCFG, lo := 1, width := 20 }
def SPW_PCFG_EXCISE : Fld := { fam := SPW_PCFG, lo := 21, width := 1 }
def SPW_PCFG_EXC_THR : Fld := { fam := SPW_PCFG, lo := 22, width := 5 }
/-- SPW_PRANGE (R165, R420). -/
def SPW_PRANGE : RegFam := { blk := .spw, base := 0x180300, n1 := 96, s1 := 0x4, n2 := 1, s2 := 0x4, reset := [0xFFC00], rws := 0xFFFFFFFF }
def SPW_PRANGE_K_LO : Fld := { fam := SPW_PRANGE, lo := 0, width := 10 }
def SPW_PRANGE_K_HI : Fld := { fam := SPW_PRANGE, lo := 10, width := 10 }
def SPW_PRANGE_ALARM_BINS : Fld := { fam := SPW_PRANGE, lo := 20, width := 12 }
/-- SPW_PDEST (R165, R420). -/
def SPW_PDEST : RegFam := { blk := .spw, base := 0x180500, n1 := 96, s1 := 0x4, n2 := 1, s2 := 0x4, reset := [0x0], rws := 0x7FF, mask := 0x7FF }
def SPW_PDEST_RING : Fld := { fam := SPW_PDEST, lo := 0, width := 6 }
def SPW_PDEST_RING_EN : Fld := { fam := SPW_PDEST, lo := 6, width := 1 }
def SPW_PDEST_EXP_EN : Fld := { fam := SPW_PDEST, lo := 7, width := 1 }
def SPW_PDEST_EXP_PORT : Fld := { fam := SPW_PDEST, lo := 8, width := 3 }
/-- SPW_PSTAT (R165, R420). -/
def SPW_PSTAT : RegFam := { blk := .spw, base := 0x180700, n1 := 96, s1 := 0x4, n2 := 1, s2 := 0x4, reset := [0x0], mask := 0x1FFFF }
def SPW_PSTAT_HIGH : Fld := { fam := SPW_PSTAT, lo := 0, width := 16 }
def SPW_PSTAT_PARTIAL : Fld := { fam := SPW_PSTAT, lo := 16, width := 1 }
/-- SPW_OFFCFG (R166, R420). -/
def SPW_OFFCFG : RegFam := { blk := .spw, base := 0x180900, n1 := 16, s1 := 0x4, n2 := 1, s2 := 0x4, reset := [0x27], rws := 0x3F, mask := 0x3F }
def SPW_OFFCFG_DWELL_M1 : Fld := { fam := SPW_OFFCFG, lo := 0, width := 6 }
/-- SPW_OFFSTAT (R166, R420). -/
def SPW_OFFSTAT : RegFam := { blk := .spw, base := 0x180940, n1 := 16, s1 := 0x4, n2 := 1, s2 := 0x4, reset := [0x0], mask := 0xFFFFF }
def SPW_OFFSTAT_INPUT : Fld := { fam := SPW_OFFSTAT, lo := 0, width := 3 }
def SPW_OFFSTAT_VIOL : Fld := { fam := SPW_OFFSTAT, lo := 3, width := 6 }
def SPW_OFFSTAT_BLIND : Fld := { fam := SPW_OFFSTAT, lo := 9, width := 1 }
def SPW_OFFSTAT_LAST_SB : Fld := { fam := SPW_OFFSTAT, lo := 10, width := 10 }
/-- SPW_SNAPCFG0 (R166, R420). -/
def SPW_SNAPCFG0 : RegFam := { blk := .spw, base := 0x181000, n1 := 16, s1 := 0x10, n2 := 1, s2 := 0x4, reset := [0x0], rws := 0x7FFFFFFF, mask := 0x7FFFFFFF }
def SPW_SNAPCFG0_PORT : Fld := { fam := SPW_SNAPCFG0, lo := 0, width := 7 }
def SPW_SNAPCFG0_KIND : Fld := { fam := SPW_SNAPCFG0, lo := 7, width := 1 }
def SPW_SNAPCFG0_K_LO : Fld := { fam := SPW_SNAPCFG0, lo := 8, width := 10 }
def SPW_SNAPCFG0_WM1 : Fld := { fam := SPW_SNAPCFG0, lo := 18, width := 6 }
def SPW_SNAPCFG0_ARM : Fld := { fam := SPW_SNAPCFG0, lo := 24, width := 1 }
def SPW_SNAPCFG0_AUTO_MOVE : Fld := { fam := SPW_SNAPCFG0, lo := 25, width := 1 }
def SPW_SNAPCFG0_AUTO_REARM : Fld := { fam := SPW_SNAPCFG0, lo := 26, width := 1 }
def SPW_SNAPCFG0_TRIG : Fld := { fam := SPW_SNAPCFG0, lo := 27, width := 4 }
/-- SPW_SNAPCFG1 (R166, R420). -/
def SPW_SNAPCFG1 : RegFam := { blk := .spw, base := 0x181004, n1 := 16, s1 := 0x10, n2 := 1, s2 := 0x4, reset := [0x0], rws := 0xFFFFFFF, mask := 0xFFFFFFF }
def SPW_SNAPCFG1_BASE : Fld := { fam := SPW_SNAPCFG1, lo := 0, width := 14 }
def SPW_SNAPCFG1_SIZE_M1 : Fld := { fam := SPW_SNAPCFG1, lo := 14, width := 14 }
/-- SPW_SNAPCFG2 (R166, R420). -/
def SPW_SNAPCFG2 : RegFam := { blk := .spw, base := 0x181008, n1 := 16, s1 := 0x10, n2 := 1, s2 := 0x4, reset := [0x40], rws := 0x7FFFFF, mask := 0x7FFFFF }
def SPW_SNAPCFG2_POST : Fld := { fam := SPW_SNAPCFG2, lo := 0, width := 7 }
def SPW_SNAPCFG2_CMP : Fld := { fam := SPW_SNAPCFG2, lo := 7, width := 6 }
def SPW_SNAPCFG2_RING : Fld := { fam := SPW_SNAPCFG2, lo := 13, width := 6 }
def SPW_SNAPCFG2_EXP_EN : Fld := { fam := SPW_SNAPCFG2, lo := 19, width := 1 }
def SPW_SNAPCFG2_EXP_PORT : Fld := { fam := SPW_SNAPCFG2, lo := 20, width := 3 }
/-- SPW_SNAPSTAT (R166, R420). -/
def SPW_SNAPSTAT : RegFam := { blk := .spw, base := 0x18100C, n1 := 16, s1 := 0x10, n2 := 1, s2 := 0x4, reset := [0x0], mask := 0xFFFF7FFF }
def SPW_SNAPSTAT_STATE : Fld := { fam := SPW_SNAPSTAT, lo := 0, width := 3 }
def SPW_SNAPSTAT_TRUNC : Fld := { fam := SPW_SNAPSTAT, lo := 3, width := 1 }
def SPW_SNAPSTAT_MISSED : Fld := { fam := SPW_SNAPSTAT, lo := 4, width := 8 }
def SPW_SNAPSTAT_SOURCE : Fld := { fam := SPW_SNAPSTAT, lo := 12, width := 3 }
def SPW_SNAPSTAT_SEQ : Fld := { fam := SPW_SNAPSTAT, lo := 16, width := 16 }
/-- HIF_STAT (R243, R421). -/
def HIF_STAT : RegFam := { blk := .hif, base := 0x1A0000, n1 := 1, s1 := 0x4, n2 := 1, s2 := 0x4, reset := [0x0], mask := 0x1FF03 }
def HIF_STAT_LINK_UP : Fld := { fam := HIF_STAT, lo := 0, width := 1 }
def HIF_STAT_MASTER_EN : Fld := { fam := HIF_STAT, lo := 1, width := 1 }
def HIF_STAT_LINK_GEN : Fld := { fam := HIF_STAT, lo := 8, width := 4 }
def HIF_STAT_LINK_WIDTH : Fld := { fam := HIF_STAT, lo := 12, width := 5 }
/-- HIF_DISCARDCNT (R243, R421). -/
def HIF_DISCARDCNT : RegFam := { blk := .hif, base := 0x1A0004, n1 := 1, s1 := 0x4, n2 := 1, s2 := 0x4, reset := [0x0], rw := 0xFFFFFFFF }
def HIF_DISCARDCNT_WRITES : Fld := { fam := HIF_DISCARDCNT, lo := 0, width := 32 }
/-- HIF_DISCARDADDR (R243, R421). -/
def HIF_DISCARDADDR : RegFam := { blk := .hif, base := 0x1A0008, n1 := 1, s1 := 0x4, n2 := 1, s2 := 0x4, reset := [0x0], mask := 0x7FFFFF }
def HIF_DISCARDADDR_OFFSET : Fld := { fam := HIF_DISCARDADDR, lo := 0, width := 22 }
def HIF_DISCARDADDR_BAR2 : Fld := { fam := HIF_DISCARDADDR, lo := 22, width := 1 }
/-- HIF_HBCFG (R243, R421). -/
def HIF_HBCFG : RegFam := { blk := .hif, base := 0x1A000C, n1 := 1, s1 := 0x4, n2 := 1, s2 := 0x4, reset := [0xA], rws := 0x7F, mask := 0x7F }
def HIF_HBCFG_INTERVAL : Fld := { fam := HIF_HBCFG, lo := 0, width := 7 }
/-- HIF_HBSTAT (R243, R421). -/
def HIF_HBSTAT : RegFam := { blk := .hif, base := 0x1A0010, n1 := 1, s1 := 0x4, n2 := 1, s2 := 0x4, reset := [0x28], w1c := 0x2, mask := 0xFFFF01FF }
def HIF_HBSTAT_ARMED : Fld := { fam := HIF_HBSTAT, lo := 0, width := 1 }
def HIF_HBSTAT_LOST : Fld := { fam := HIF_HBSTAT, lo := 1, width := 1 }
def HIF_HBSTAT_EFFECTIVE : Fld := { fam := HIF_HBSTAT, lo := 2, width := 7 }
def HIF_HBSTAT_MISSES : Fld := { fam := HIF_HBSTAT, lo := 16, width := 16 }
/-- HIF_VSTAT (R243, R421). -/
def HIF_VSTAT : RegFam := { blk := .hif, base := 0x1A0020, n1 := 4, s1 := 0x4, n2 := 1, s2 := 0x4, reset := [0x0], mask := 0x3FFFFF }
def HIF_VSTAT_STATE : Fld := { fam := HIF_VSTAT, lo := 0, width := 3 }
def HIF_VSTAT_RING : Fld := { fam := HIF_VSTAT, lo := 3, width := 4 }
def HIF_VSTAT_STACK : Fld := { fam := HIF_VSTAT, lo := 7, width := 1 }
def HIF_VSTAT_PROTECTED : Fld := { fam := HIF_VSTAT, lo := 8, width := 1 }
def HIF_VSTAT_MEMBERS : Fld := { fam := HIF_VSTAT, lo := 9, width := 13 }
/-- HIF_VBEAT (R243, R421). -/
def HIF_VBEAT : RegFam := { blk := .hif, base := 0x1A0030, n1 := 4, s1 := 0x4, n2 := 1, s2 := 0x4, reset := [0x0] }
def HIF_VBEAT_BEAT : Fld := { fam := HIF_VBEAT, lo := 0, width := 32 }
/-- CMD_BASE_LO (R421). -/
def CMD_BASE_LO : RegFam := { blk := .hif, base := 0x1A1000, n1 := 16, s1 := 0x20, n2 := 1, s2 := 0x4, reset := [0x0], rw := 0xFFFFF000, mask := 0xFFFFF000 }
def CMD_BASE_LO_ADDR : Fld := { fam := CMD_BASE_LO, lo := 12, width := 20 }
/-- CMD_BASE_HI (R421). -/
def CMD_BASE_HI : RegFam := { blk := .hif, base := 0x1A1004, n1 := 16, s1 := 0x20, n2 := 1, s2 := 0x4, reset := [0x0], rw := 0xFFFFFFFF }
def CMD_BASE_HI_ADDR : Fld := { fam := CMD_BASE_HI, lo := 0, width := 32 }
/-- CMD_CFG (R421). -/
def CMD_CFG : RegFam := { blk := .hif, base := 0x1A1008, n1 := 16, s1 := 0x20, n2 := 1, s2 := 0x4, reset := [0x8], rw := 0xFFFF03FF, mask := 0xFFFF03FF }
def CMD_CFG_EN : Fld := { fam := CMD_CFG, lo := 0, width := 1 }
def CMD_CFG_LOG2D : Fld := { fam := CMD_CFG, lo := 1, width := 5 }
def CMD_CFG_CPL : Fld := { fam := CMD_CFG, lo := 6, width := 4 }
def CMD_CFG_ITHR : Fld := { fam := CMD_CFG, lo := 16, width := 8 }
def CMD_CFG_ITIME : Fld := { fam := CMD_CFG, lo := 24, width := 8 }
/-- CMD_STAT (R421). -/
def CMD_STAT : RegFam := { blk := .hif, base := 0x1A100C, n1 := 16, s1 := 0x20, n2 := 1, s2 := 0x4, reset := [0x0], mask := 0xFFFFF }
def CMD_STAT_INDEX : Fld := { fam := CMD_STAT, lo := 0, width := 16 }
def CMD_STAT_ERR : Fld := { fam := CMD_STAT, lo := 16, width := 3 }
def CMD_STAT_STOPPED : Fld := { fam := CMD_STAT, lo := 19, width := 1 }
/-- CPL_BASE_LO (R421). -/
def CPL_BASE_LO : RegFam := { blk := .hif, base := 0x1A1200, n1 := 16, s1 := 0x20, n2 := 1, s2 := 0x4, reset := [0x0], rw := 0xFFFFF000, mask := 0xFFFFF000 }
def CPL_BASE_LO_ADDR : Fld := { fam := CPL_BASE_LO, lo := 12, width := 20 }
/-- CPL_BASE_HI (R421). -/
def CPL_BASE_HI : RegFam := { blk := .hif, base := 0x1A1204, n1 := 16, s1 := 0x20, n2 := 1, s2 := 0x4, reset := [0x0], rw := 0xFFFFFFFF }
def CPL_BASE_HI_ADDR : Fld := { fam := CPL_BASE_HI, lo := 0, width := 32 }
/-- CPL_CFG (R421). -/
def CPL_CFG : RegFam := { blk := .hif, base := 0x1A1208, n1 := 16, s1 := 0x20, n2 := 1, s2 := 0x4, reset := [0x8], rw := 0xFFFFFC3F, mask := 0xFFFFFC3F }
def CPL_CFG_EN : Fld := { fam := CPL_CFG, lo := 0, width := 1 }
def CPL_CFG_LOG2D : Fld := { fam := CPL_CFG, lo := 1, width := 5 }
def CPL_CFG_VECTOR : Fld := { fam := CPL_CFG, lo := 10, width := 6 }
def CPL_CFG_ITHR : Fld := { fam := CPL_CFG, lo := 16, width := 8 }
def CPL_CFG_ITIME : Fld := { fam := CPL_CFG, lo := 24, width := 8 }
/-- CPL_STAT (R421). -/
def CPL_STAT : RegFam := { blk := .hif, base := 0x1A120C, n1 := 16, s1 := 0x20, n2 := 1, s2 := 0x4, reset := [0x0], mask := 0xFFFFF }
def CPL_STAT_INDEX : Fld := { fam := CPL_STAT, lo := 0, width := 16 }
def CPL_STAT_ERR : Fld := { fam := CPL_STAT, lo := 16, width := 3 }
def CPL_STAT_STOPPED : Fld := { fam := CPL_STAT, lo := 19, width := 1 }
/-- EVT_BASE_LO (R421). -/
def EVT_BASE_LO : RegFam := { blk := .hif, base := 0x1A1400, n1 := 8, s1 := 0x20, n2 := 1, s2 := 0x4, reset := [0x0], rw := 0xFFFFF000, mask := 0xFFFFF000 }
def EVT_BASE_LO_ADDR : Fld := { fam := EVT_BASE_LO, lo := 12, width := 20 }
/-- EVT_BASE_HI (R421). -/
def EVT_BASE_HI : RegFam := { blk := .hif, base := 0x1A1404, n1 := 8, s1 := 0x20, n2 := 1, s2 := 0x4, reset := [0x0], rw := 0xFFFFFFFF }
def EVT_BASE_HI_ADDR : Fld := { fam := EVT_BASE_HI, lo := 0, width := 32 }
/-- EVT_CFG (R421). -/
def EVT_CFG : RegFam := { blk := .hif, base := 0x1A1408, n1 := 8, s1 := 0x20, n2 := 1, s2 := 0x4, reset := [0x8], rw := 0xFFFFFC3F, mask := 0xFFFFFC3F }
def EVT_CFG_EN : Fld := { fam := EVT_CFG, lo := 0, width := 1 }
def EVT_CFG_LOG2D : Fld := { fam := EVT_CFG, lo := 1, width := 5 }
def EVT_CFG_VECTOR : Fld := { fam := EVT_CFG, lo := 10, width := 6 }
def EVT_CFG_ITHR : Fld := { fam := EVT_CFG, lo := 16, width := 8 }
def EVT_CFG_ITIME : Fld := { fam := EVT_CFG, lo := 24, width := 8 }
/-- EVT_STAT (R421). -/
def EVT_STAT : RegFam := { blk := .hif, base := 0x1A140C, n1 := 8, s1 := 0x20, n2 := 1, s2 := 0x4, reset := [0x0], mask := 0xFFFFF }
def EVT_STAT_INDEX : Fld := { fam := EVT_STAT, lo := 0, width := 16 }
def EVT_STAT_ERR : Fld := { fam := EVT_STAT, lo := 16, width := 3 }
def EVT_STAT_STOPPED : Fld := { fam := EVT_STAT, lo := 19, width := 1 }
/-- STR_BASE_LO (R421). -/
def STR_BASE_LO : RegFam := { blk := .hif, base := 0x1A1800, n1 := 64, s1 := 0x20, n2 := 1, s2 := 0x4, reset := [0x0], rw := 0xFFFFF000, mask := 0xFFFFF000 }
def STR_BASE_LO_ADDR : Fld := { fam := STR_BASE_LO, lo := 12, width := 20 }
/-- STR_BASE_HI (R421). -/
def STR_BASE_HI : RegFam := { blk := .hif, base := 0x1A1804, n1 := 64, s1 := 0x20, n2 := 1, s2 := 0x4, reset := [0x0], rw := 0xFFFFFFFF }
def STR_BASE_HI_ADDR : Fld := { fam := STR_BASE_HI, lo := 0, width := 32 }
/-- STR_CFG (R421). -/
def STR_CFG : RegFam := { blk := .hif, base := 0x1A1808, n1 := 64, s1 := 0x20, n2 := 1, s2 := 0x4, reset := [0x8], rw := 0xFFFFFC3F, mask := 0xFFFFFC3F }
def STR_CFG_EN : Fld := { fam := STR_CFG, lo := 0, width := 1 }
def STR_CFG_LOG2D : Fld := { fam := STR_CFG, lo := 1, width := 5 }
def STR_CFG_VECTOR : Fld := { fam := STR_CFG, lo := 10, width := 6 }
def STR_CFG_ITHR : Fld := { fam := STR_CFG, lo := 16, width := 8 }
def STR_CFG_ITIME : Fld := { fam := STR_CFG, lo := 24, width := 8 }
/-- STR_STAT (R421). -/
def STR_STAT : RegFam := { blk := .hif, base := 0x1A180C, n1 := 64, s1 := 0x20, n2 := 1, s2 := 0x4, reset := [0x0], mask := 0xFFFFF }
def STR_STAT_INDEX : Fld := { fam := STR_STAT, lo := 0, width := 16 }
def STR_STAT_ERR : Fld := { fam := STR_STAT, lo := 16, width := 3 }
def STR_STAT_STOPPED : Fld := { fam := STR_STAT, lo := 19, width := 1 }
/-- STR_DROPCNT (R421). -/
def STR_DROPCNT : RegFam := { blk := .hif, base := 0x1A1810, n1 := 64, s1 := 0x20, n2 := 1, s2 := 0x4, reset := [0x0], rw := 0xFFFFFFFF }
def STR_DROPCNT_RECORDS : Fld := { fam := STR_DROPCNT, lo := 0, width := 32 }
/-- HIF_EVMAP (R421). -/
def HIF_EVMAP : RegFam := { blk := .hif, base := 0x1A2000, n1 := 48, s1 := 0x4, n2 := 1, s2 := 0x4, reset := [0x88888888], rw := 0xFFFFFFFF }
def HIF_EVMAP_MAP : Fld := { fam := HIF_EVMAP, lo := 0, width := 32 }
/-- HIF_EVOVF (R421). -/
def HIF_EVOVF : RegFam := { blk := .hif, base := 0x1A3000, n1 := 384, s1 := 0x4, n2 := 1, s2 := 0x4, reset := [0x0], mask := 0xFFFF }
def HIF_EVOVF_COUNT : Fld := { fam := HIF_EVOVF, lo := 0, width := 16 }
/-- MSIX_TABLE (R421). -/
def MSIX_TABLE : RegFam := { blk := .hif, base := 0x1B0000, n1 := 64, s1 := 0x10, n2 := 3, s2 := 0x4, reset := [0x0], rw := 0xFFFFFFFF }
def MSIX_TABLE_V : Fld := { fam := MSIX_TABLE, lo := 0, width := 32 }
/-- MSIX_CTL (R421). -/
def MSIX_CTL : RegFam := { blk := .hif, base := 0x1B000C, n1 := 64, s1 := 0x10, n2 := 1, s2 := 0x4, reset := [0x1], rw := 0xFFFFFFFF }
def MSIX_CTL_V : Fld := { fam := MSIX_CTL, lo := 0, width := 32 }
/-- MSIX_PBA (R421). -/
def MSIX_PBA : RegFam := { blk := .hif, base := 0x1B8000, n1 := 2, s1 := 0x4, n2 := 1, s2 := 0x4, reset := [0x0] }
def MSIX_PBA_PENDING : Fld := { fam := MSIX_PBA, lo := 0, width := 32 }
/-- QLK_LINKCFG (R277, R421). -/
def QLK_LINKCFG : RegFam := { blk := .qlk, base := 0x1C0000, n1 := 4, s1 := 0x20, n2 := 1, s2 := 0x4, reset := [0x0], rw := 0x1, mask := 0x1 }
def QLK_LINKCFG_EN : Fld := { fam := QLK_LINKCFG, lo := 0, width := 1 }
/-- QLK_LINKSTAT (R277, R421). -/
def QLK_LINKSTAT : RegFam := { blk := .qlk, base := 0x1C0004, n1 := 4, s1 := 0x20, n2 := 1, s2 := 0x4, reset := [0x0], mask := 0x7FF0F }
def QLK_LINKSTAT_STATE : Fld := { fam := QLK_LINKSTAT, lo := 0, width := 3 }
def QLK_LINKSTAT_MISMATCH : Fld := { fam := QLK_LINKSTAT, lo := 3, width := 1 }
def QLK_LINKSTAT_TRANSIT : Fld := { fam := QLK_LINKSTAT, lo := 8, width := 8 }
def QLK_LINKSTAT_PEER_SID : Fld := { fam := QLK_LINKSTAT, lo := 16, width := 2 }
def QLK_LINKSTAT_PEER_SIDE : Fld := { fam := QLK_LINKSTAT, lo := 18, width := 1 }
/-- QLK_LINKDLY (R277, R421). -/
def QLK_LINKDLY : RegFam := { blk := .qlk, base := 0x1C0008, n1 := 4, s1 := 0x20, n2 := 1, s2 := 0x4, reset := [0x0], mask := 0xFFFF }
def QLK_LINKDLY_D : Fld := { fam := QLK_LINKDLY, lo := 0, width := 16 }
/-- QLK_LINKCRC (R277, R421). -/
def QLK_LINKCRC : RegFam := { blk := .qlk, base := 0x1C000C, n1 := 4, s1 := 0x20, n2 := 1, s2 := 0x4, reset := [0x0], rw := 0xFFFFFFFF }
def QLK_LINKCRC_FLITS : Fld := { fam := QLK_LINKCRC, lo := 0, width := 32 }
/-- QLK_STACKSTAT (R277, R421). -/
def QLK_STACKSTAT : RegFam := { blk := .qlk, base := 0x1C0100, n1 := 1, s1 := 0x4, n2 := 1, s2 := 0x4, reset := [0x8], mask := 0xFF }
def QLK_STACKSTAT_STACK_ID : Fld := { fam := QLK_STACKSTAT, lo := 0, width := 2 }
def QLK_STACKSTAT_PAIR_SIDE : Fld := { fam := QLK_STACKSTAT, lo := 2, width := 1 }
def QLK_STACKSTAT_PRESENT : Fld := { fam := QLK_STACKSTAT, lo := 3, width := 4 }
def QLK_STACKSTAT_MASTER_OK : Fld := { fam := QLK_STACKSTAT, lo := 7, width := 1 }
/-- QLK_PAIRCFG (R277, R421). -/
def QLK_PAIRCFG : RegFam := { blk := .qlk, base := 0x1C0108, n1 := 1, s1 := 0x4, n2 := 1, s2 := 0x4, reset := [0x2], rwp := 0x3, mask := 0x3 }
def QLK_PAIRCFG_AUTO_LINKLOSS : Fld := { fam := QLK_PAIRCFG, lo := 0, width := 1 }
def QLK_PAIRCFG_FAILOVER_DUGOUT : Fld := { fam := QLK_PAIRCFG, lo := 1, width := 1 }
/-- QLK_PAIRSTAT (R277, R421). -/
def QLK_PAIRSTAT : RegFam := { blk := .qlk, base := 0x1C010C, n1 := 1, s1 := 0x4, n2 := 1, s2 := 0x4, reset := [0x0], mask := 0x7F }
def QLK_PAIRSTAT_ROLE : Fld := { fam := QLK_PAIRSTAT, lo := 0, width := 3 }
def QLK_PAIRSTAT_PEER_UP : Fld := { fam := QLK_PAIRSTAT, lo := 3, width := 1 }
def QLK_PAIRSTAT_MIRROR_SYNC : Fld := { fam := QLK_PAIRSTAT, lo := 4, width := 1 }
def QLK_PAIRSTAT_LOCKS_EQUAL : Fld := { fam := QLK_PAIRSTAT, lo := 5, width := 1 }
def QLK_PAIRSTAT_EPOCH_VALID : Fld := { fam := QLK_PAIRSTAT, lo := 6, width := 1 }
/-- QLK_EPOCH (R277, R421). -/
def QLK_EPOCH : RegFam := { blk := .qlk, base := 0x1C0110, n1 := 1, s1 := 0x4, n2 := 1, s2 := 0x4, reset := [0x0] }
def QLK_EPOCH_NUMBER : Fld := { fam := QLK_EPOCH, lo := 0, width := 32 }
/-- QLK_MIRRORSEQ (R277, R421). -/
def QLK_MIRRORSEQ : RegFam := { blk := .qlk, base := 0x1C0114, n1 := 1, s1 := 0x4, n2 := 1, s2 := 0x4, reset := [0x0] }
def QLK_MIRRORSEQ_SEQ : Fld := { fam := QLK_MIRRORSEQ, lo := 0, width := 32 }
/-- EXP_CFG (R246, R421). -/
def EXP_CFG : RegFam := { blk := .exp, base := 0x1E0000, n1 := 8, s1 := 0x40, n2 := 1, s2 := 0x4, reset := [0x4650000], rws := 0x7FFFFFF, mask := 0x7FFFFFF }
def EXP_CFG_EN : Fld := { fam := EXP_CFG, lo := 0, width := 1 }
def EXP_CFG_IPV6 : Fld := { fam := EXP_CFG, lo := 1, width := 1 }
def EXP_CFG_VLAN : Fld := { fam := EXP_CFG, lo := 2, width := 1 }
def EXP_CFG_PFC_EN : Fld := { fam := EXP_CFG, lo := 3, width := 1 }
def EXP_CFG_PRIO : Fld := { fam := EXP_CFG, lo := 4, width := 3 }
def EXP_CFG_DSCP : Fld := { fam := EXP_CFG, lo := 7, width := 6 }
def EXP_CFG_MTU : Fld := { fam := EXP_CFG, lo := 13, width := 14 }
/-- EXP_SMAC0 (R246, R421). -/
def EXP_SMAC0 : RegFam := { blk := .exp, base := 0x1E0004, n1 := 8, s1 := 0x40, n2 := 1, s2 := 0x4, reset := [0x0], rws := 0xFFFFFFFF }
def EXP_SMAC0_MAC : Fld := { fam := EXP_SMAC0, lo := 0, width := 32 }
/-- EXP_SMAC1 (R421). -/
def EXP_SMAC1 : RegFam := { blk := .exp, base := 0x1E0008, n1 := 8, s1 := 0x40, n2 := 1, s2 := 0x4, reset := [0x0], rws := 0xFFFFFFF, mask := 0xFFFFFFF }
def EXP_SMAC1_MAC : Fld := { fam := EXP_SMAC1, lo := 0, width := 16 }
def EXP_SMAC1_VID : Fld := { fam := EXP_SMAC1, lo := 16, width := 12 }
/-- EXP_DMAC0 (R246, R421). -/
def EXP_DMAC0 : RegFam := { blk := .exp, base := 0x1E000C, n1 := 8, s1 := 0x40, n2 := 1, s2 := 0x4, reset := [0x0], rws := 0xFFFFFFFF }
def EXP_DMAC0_MAC : Fld := { fam := EXP_DMAC0, lo := 0, width := 32 }
/-- EXP_DMAC1 (R421). -/
def EXP_DMAC1 : RegFam := { blk := .exp, base := 0x1E0010, n1 := 8, s1 := 0x40, n2 := 1, s2 := 0x4, reset := [0x0], rws := 0xFFFF, mask := 0xFFFF }
def EXP_DMAC1_MAC : Fld := { fam := EXP_DMAC1, lo := 0, width := 16 }
/-- EXP_SIP (R246, R421). -/
def EXP_SIP : RegFam := { blk := .exp, base := 0x1E0014, n1 := 8, s1 := 0x40, n2 := 4, s2 := 0x4, reset := [0x0], rws := 0xFFFFFFFF }
def EXP_SIP_ADDR : Fld := { fam := EXP_SIP, lo := 0, width := 32 }
/-- EXP_DIP (R246, R421). -/
def EXP_DIP : RegFam := { blk := .exp, base := 0x1E0024, n1 := 8, s1 := 0x40, n2 := 4, s2 := 0x4, reset := [0x0], rws := 0xFFFFFFFF }
def EXP_DIP_ADDR : Fld := { fam := EXP_DIP, lo := 0, width := 32 }
/-- EXP_UDP (R246, R421). -/
def EXP_UDP : RegFam := { blk := .exp, base := 0x1E0034, n1 := 8, s1 := 0x40, n2 := 1, s2 := 0x4, reset := [0x0], rws := 0xFFFFFFFF }
def EXP_UDP_SRC : Fld := { fam := EXP_UDP, lo := 0, width := 16 }
def EXP_UDP_DST : Fld := { fam := EXP_UDP, lo := 16, width := 16 }
/-- EXP_DROPCNT (R246, R421). -/
def EXP_DROPCNT : RegFam := { blk := .exp, base := 0x1E0038, n1 := 8, s1 := 0x40, n2 := 1, s2 := 0x4, reset := [0x0], rw := 0xFFFFFFFF }
def EXP_DROPCNT_RECORDS : Fld := { fam := EXP_DROPCNT, lo := 0, width := 32 }
/-- EXP_STAT (R246, R421). -/
def EXP_STAT : RegFam := { blk := .exp, base := 0x1E003C, n1 := 8, s1 := 0x40, n2 := 1, s2 := 0x4, reset := [0x0], mask := 0x3FFF }
def EXP_STAT_LINK_UP : Fld := { fam := EXP_STAT, lo := 0, width := 1 }
def EXP_STAT_PAUSED : Fld := { fam := EXP_STAT, lo := 1, width := 1 }
def EXP_STAT_FILL : Fld := { fam := EXP_STAT, lo := 2, width := 12 }
/-- MEA_STAT (R302, R422). -/
def MEA_STAT : RegFam := { blk := .mea, base := 0x200000, n1 := 1, s1 := 0x4, n2 := 1, s2 := 0x4, reset := [0x0], mask := 0x7 }
def MEA_STAT_UNIT_OK : Fld := { fam := MEA_STAT, lo := 0, width := 2 }
def MEA_STAT_TAKEOVER : Fld := { fam := MEA_STAT, lo := 2, width := 1 }
/-- MEA_WAKESTAT (R302, R422). -/
def MEA_WAKESTAT : RegFam := { blk := .mea, base := 0x200008, n1 := 1, s1 := 0x4, n2 := 1, s2 := 0x4, reset := [0x0], w1c := 0x40, mask := 0x7F }
def MEA_WAKESTAT_CMP : Fld := { fam := MEA_WAKESTAT, lo := 0, width := 6 }
def MEA_WAKESTAT_VALID : Fld := { fam := MEA_WAKESTAT, lo := 6, width := 1 }
/-- MEA_UCFG (R302, R422). -/
def MEA_UCFG : RegFam := { blk := .mea, base := 0x200010, n1 := 2, s1 := 0x4, n2 := 1, s2 := 0x4, reset := [0x0], rw := 0x3F, mask := 0x3F }
def MEA_UCFG_EN : Fld := { fam := MEA_UCFG, lo := 0, width := 1 }
def MEA_UCFG_LENM1 : Fld := { fam := MEA_UCFG, lo := 1, width := 5 }
/-- MEA_SEQ (R302, R422). -/
def MEA_SEQ : RegFam := { blk := .mea, base := 0x200100, n1 := 2, s1 := 0x80, n2 := 32, s2 := 0x4, reset := [0x0], rw := 0x1FFF, mask := 0x1FFF }
def MEA_SEQ_INPUT : Fld := { fam := MEA_SEQ, lo := 0, width := 8 }
def MEA_SEQ_CH : Fld := { fam := MEA_SEQ, lo := 8, width := 5 }
/-- MEA_CHCFG (R303, R422). -/
def MEA_CHCFG : RegFam := { blk := .mea, base := 0x201000, n1 := 32, s1 := 0x40, n2 := 1, s2 := 0x4, reset := [0x4], rw := 0x1FFFFFFF, mask := 0x1FFFFFFF }
def MEA_CHCFG_EN : Fld := { fam := MEA_CHCFG, lo := 0, width := 1 }
def MEA_CHCFG_MODE : Fld := { fam := MEA_CHCFG, lo := 1, width := 1 }
def MEA_CHCFG_PRESET : Fld := { fam := MEA_CHCFG, lo := 2, width := 3 }
def MEA_CHCFG_NM1 : Fld := { fam := MEA_CHCFG, lo := 5, width := 12 }
def MEA_CHCFG_DM1 : Fld := { fam := MEA_CHCFG, lo := 17, width := 12 }
/-- MEA_CHFIR (R303, R422). -/
def MEA_CHFIR : RegFam := { blk := .mea, base := 0x201004, n1 := 32, s1 := 0x40, n2 := 1, s2 := 0x4, reset := [0xFF], rw := 0x1FF, mask := 0x3FF }
def MEA_CHFIR_GD_HALF : Fld := { fam := MEA_CHFIR, lo := 0, width := 9 }
def MEA_CHFIR_FIR_OK : Fld := { fam := MEA_CHFIR, lo := 9, width := 1 }
/-- MEA_CHDET (R303, R422). -/
def MEA_CHDET : RegFam := { blk := .mea, base := 0x201008, n1 := 32, s1 := 0x40, n2 := 1, s2 := 0x4, reset := [0x820FF], rw := 0xFFFFF, mask := 0xFFFFF }
def MEA_CHDET_WM1 : Fld := { fam := MEA_CHDET, lo := 0, width := 12 }
def MEA_CHDET_ATT : Fld := { fam := MEA_CHDET, lo := 12, width := 4 }
def MEA_CHDET_DEC : Fld := { fam := MEA_CHDET, lo := 16, width := 4 }
/-- MEA_CHOUT (R303, R422). -/
def MEA_CHOUT : RegFam := { blk := .mea, base := 0x20100C, n1 := 32, s1 := 0x40, n2 := 1, s2 := 0x4, reset := [0x0] }
def MEA_CHOUT_OUT : Fld := { fam := MEA_CHOUT, lo := 0, width := 32 }
/-- MEA_CHPEAK (R303, R422). -/
def MEA_CHPEAK : RegFam := { blk := .mea, base := 0x201010, n1 := 32, s1 := 0x40, n2 := 1, s2 := 0x4, reset := [0x0] }
def MEA_CHPEAK_MAX : Fld := { fam := MEA_CHPEAK, lo := 0, width := 16 }
def MEA_CHPEAK_MIN : Fld := { fam := MEA_CHPEAK, lo := 16, width := 16 }
/-- MEA_CHRMS (R303, R422). -/
def MEA_CHRMS : RegFam := { blk := .mea, base := 0x201014, n1 := 32, s1 := 0x40, n2 := 1, s2 := 0x4, reset := [0x0], mask := 0xFFFFFF }
def MEA_CHRMS_RMS : Fld := { fam := MEA_CHRMS, lo := 0, width := 24 }
/-- MEA_CHENV (R303, R422). -/
def MEA_CHENV : RegFam := { blk := .mea, base := 0x201018, n1 := 32, s1 := 0x40, n2 := 1, s2 := 0x4, reset := [0x0], mask := 0xFFFFFF }
def MEA_CHENV_ENV : Fld := { fam := MEA_CHENV, lo := 0, width := 24 }
/-- MEA_CHTS (R422). -/
def MEA_CHTS : RegFam := { blk := .mea, base := 0x20101C, n1 := 32, s1 := 0x40, n2 := 2, s2 := 0x4, reset := [0x0] }
def MEA_CHTS_V : Fld := { fam := MEA_CHTS, lo := 0, width := 32 }
/-- MEA_CHSTAT (R303, R422). -/
def MEA_CHSTAT : RegFam := { blk := .mea, base := 0x201024, n1 := 32, s1 := 0x40, n2 := 1, s2 := 0x4, reset := [0x0], mask := 0xFFFFFF07 }
def MEA_CHSTAT_RUNNING : Fld := { fam := MEA_CHSTAT, lo := 0, width := 1 }
def MEA_CHSTAT_SETTLED : Fld := { fam := MEA_CHSTAT, lo := 1, width := 1 }
def MEA_CHSTAT_FALLBACK : Fld := { fam := MEA_CHSTAT, lo := 2, width := 1 }
def MEA_CHSTAT_TAG : Fld := { fam := MEA_CHSTAT, lo := 8, width := 8 }
def MEA_CHSTAT_OUTPUTS : Fld := { fam := MEA_CHSTAT, lo := 16, width := 16 }
/-- MEA_CHKCTL (R302, R422). -/
def MEA_CHKCTL : RegFam := { blk := .mea, base := 0x203000, n1 := 1, s1 := 0x4, n2 := 1, s2 := 0x4, reset := [0xC0], rw := 0xFF01FF, mask := 0xFF01FF }
def MEA_CHKCTL_CMP : Fld := { fam := MEA_CHKCTL, lo := 0, width := 6 }
def MEA_CHKCTL_KIND : Fld := { fam := MEA_CHKCTL, lo := 6, width := 2 }
def MEA_CHKCTL_GO : Fld := { fam := MEA_CHKCTL, lo := 8, width := 1 }
def MEA_CHKCTL_AUTO_S : Fld := { fam := MEA_CHKCTL, lo := 16, width := 8 }
/-- MEA_CHKSTAT (R302, R422). -/
def MEA_CHKSTAT : RegFam := { blk := .mea, base := 0x203004, n1 := 1, s1 := 0x4, n2 := 1, s2 := 0x4, reset := [0x0], mask := 0xFFFF01FF }
def MEA_CHKSTAT_CMP : Fld := { fam := MEA_CHKSTAT, lo := 0, width := 6 }
def MEA_CHKSTAT_RESULT : Fld := { fam := MEA_CHKSTAT, lo := 6, width := 3 }
def MEA_CHKSTAT_FAILS : Fld := { fam := MEA_CHKSTAT, lo := 16, width := 16 }
/-- MEA_CMPCFG_P (R304, R422). -/
def MEA_CMPCFG_P : RegFam := { blk := .mea, base := 0x204000, n1 := 32, s1 := 0x20, n2 := 1, s2 := 0x4, reset := [0x44FFC00], rwp := 0xFFFFFFFF }
def MEA_CMPCFG_P_THR_LO : Fld := { fam := MEA_CMPCFG_P, lo := 0, width := 10 }
def MEA_CMPCFG_P_THR_HI : Fld := { fam := MEA_CMPCFG_P, lo := 10, width := 10 }
def MEA_CMPCFG_P_MODE : Fld := { fam := MEA_CMPCFG_P, lo := 20, width := 2 }
def MEA_CMPCFG_P_FILT_N : Fld := { fam := MEA_CMPCFG_P, lo := 22, width := 4 }
def MEA_CMPCFG_P_FILT_K : Fld := { fam := MEA_CMPCFG_P, lo := 26, width := 4 }
def MEA_CMPCFG_P_HYST : Fld := { fam := MEA_CMPCFG_P, lo := 30, width := 2 }
/-- MEA_CMPROUTE (R304, R422). -/
def MEA_CMPROUTE : RegFam := { blk := .mea, base := 0x204004, n1 := 64, s1 := 0x20, n2 := 1, s2 := 0x4, reset := [0xC0], rw := 0xFF, mask := 0xFF }
def MEA_CMPROUTE_EV_EN : Fld := { fam := MEA_CMPROUTE, lo := 0, width := 1 }
def MEA_CMPROUTE_WAKE_EN : Fld := { fam := MEA_CMPROUTE, lo := 1, width := 1 }
def MEA_CMPROUTE_TRIP_EN : Fld := { fam := MEA_CMPROUTE, lo := 2, width := 1 }
def MEA_CMPROUTE_TRIP_GRP : Fld := { fam := MEA_CMPROUTE, lo := 3, width := 3 }
def MEA_CMPROUTE_ON : Fld := { fam := MEA_CMPROUTE, lo := 6, width := 2 }
/-- MEA_CMPSTAT (R304, R422). -/
def MEA_CMPSTAT : RegFam := { blk := .mea, base := 0x204008, n1 := 64, s1 := 0x20, n2 := 1, s2 := 0x4, reset := [0xF], mask := 0xFFFF003F }
def MEA_CMPSTAT_STATE : Fld := { fam := MEA_CMPSTAT, lo := 0, width := 2 }
def MEA_CMPSTAT_RAW : Fld := { fam := MEA_CMPSTAT, lo := 2, width := 2 }
def MEA_CMPSTAT_CHECKING : Fld := { fam := MEA_CMPSTAT, lo := 4, width := 1 }
def MEA_CMPSTAT_CHK_FAIL : Fld := { fam := MEA_CMPSTAT, lo := 5, width := 1 }
def MEA_CMPSTAT_CHANGES : Fld := { fam := MEA_CMPSTAT, lo := 16, width := 16 }
/-- MEA_CMPTS (R422). -/
def MEA_CMPTS : RegFam := { blk := .mea, base := 0x20400C, n1 := 64, s1 := 0x20, n2 := 2, s2 := 0x4, reset := [0x0] }
def MEA_CMPTS_V : Fld := { fam := MEA_CMPTS, lo := 0, width := 32 }
/-- MEA_CMPCFG_W (R304, R422). -/
def MEA_CMPCFG_W : RegFam := { blk := .mea, base := 0x204400, n1 := 32, s1 := 0x20, n2 := 1, s2 := 0x4, reset := [0x44FFC00], rw := 0xFFFFFFFF }
def MEA_CMPCFG_W_THR_LO : Fld := { fam := MEA_CMPCFG_W, lo := 0, width := 10 }
def MEA_CMPCFG_W_THR_HI : Fld := { fam := MEA_CMPCFG_W, lo := 10, width := 10 }
def MEA_CMPCFG_W_MODE : Fld := { fam := MEA_CMPCFG_W, lo := 20, width := 2 }
def MEA_CMPCFG_W_FILT_N : Fld := { fam := MEA_CMPCFG_W, lo := 22, width := 4 }
def MEA_CMPCFG_W_FILT_K : Fld := { fam := MEA_CMPCFG_W, lo := 26, width := 4 }
def MEA_CMPCFG_W_HYST : Fld := { fam := MEA_CMPCFG_W, lo := 30, width := 2 }
/-- MEA_FIRCOEF (R422). -/
def MEA_FIRCOEF : RegFam := { blk := .mea, base := 0x208000, n1 := 32, s1 := 0x400, n2 := 256, s2 := 0x4, reset := [0x0], rw := 0x3FFFF, mask := 0x3FFFF }
def MEA_FIRCOEF_COEF : Fld := { fam := MEA_FIRCOEF, lo := 0, width := 18 }
/-- CTE_STAT (R322, R422). -/
def CTE_STAT : RegFam := { blk := .cte, base := 0x220000, n1 := 1, s1 := 0x4, n2 := 1, s2 := 0x4, reset := [0x0], mask := 0xFFFF }
def CTE_STAT_FAST_ON : Fld := { fam := CTE_STAT, lo := 0, width := 7 }
def CTE_STAT_SLOW_ON : Fld := { fam := CTE_STAT, lo := 7, width := 9 }
/-- CTE_RAILCFG (R332, R422). -/
def CTE_RAILCFG : RegFam := { blk := .cte, base := 0x220100, n1 := 5, s1 := 0x10, n2 := 1, s2 := 0x4, reset := [0x70, 0x48, 0x4C, 0x48, 0x44], rw := 0xFFFFFF, mask := 0xFFFFFF }
def CTE_RAILCFG_EN : Fld := { fam := CTE_RAILCFG, lo := 0, width := 1 }
def CTE_RAILCFG_PH_ON : Fld := { fam := CTE_RAILCFG, lo := 1, width := 5 }
def CTE_RAILCFG_PH_MIN : Fld := { fam := CTE_RAILCFG, lo := 6, width := 5 }
def CTE_RAILCFG_OV_CMP : Fld := { fam := CTE_RAILCFG, lo := 11, width := 6 }
def CTE_RAILCFG_REL_CMP : Fld := { fam := CTE_RAILCFG, lo := 17, width := 6 }
def CTE_RAILCFG_GUARD_EN : Fld := { fam := CTE_RAILCFG, lo := 23, width := 1 }
/-- CTE_RAILSAFE (R332, R422). -/
def CTE_RAILSAFE : RegFam := { blk := .cte, base := 0x220104, n1 := 5, s1 := 0x10, n2 := 1, s2 := 0x4, reset := [0x1000, 0x1222, 0x1555, 0x2666, 0x199A], rw := 0xFFFF, mask := 0xFFFF }
def CTE_RAILSAFE_SAFE_DUTY : Fld := { fam := CTE_RAILSAFE, lo := 0, width := 16 }
/-- CTE_RAILSTAT (R332, R422). -/
def CTE_RAILSTAT : RegFam := { blk := .cte, base := 0x220108, n1 := 5, s1 := 0x10, n2 := 1, s2 := 0x4, reset := [0x0], mask := 0xFFFF00FF }
def CTE_RAILSTAT_PH_NOW : Fld := { fam := CTE_RAILSTAT, lo := 0, width := 5 }
def CTE_RAILSTAT_HOLD : Fld := { fam := CTE_RAILSTAT, lo := 5, width := 1 }
def CTE_RAILSTAT_FB_LOST : Fld := { fam := CTE_RAILSTAT, lo := 6, width := 1 }
def CTE_RAILSTAT_GUARD_UNAVAIL : Fld := { fam := CTE_RAILSTAT, lo := 7, width := 1 }
def CTE_RAILSTAT_OVCOUNT : Fld := { fam := CTE_RAILSTAT, lo := 16, width := 16 }
/-- CTE_PSEED (R322, R422). -/
def CTE_PSEED : RegFam := { blk := .cte, base := 0x220200, n1 := 32, s1 := 0x4, n2 := 1, s2 := 0x4, reset := [0x0], rwp := 0xFFFFF3FF, mask := 0xFFFFF3FF }
def CTE_PSEED_SLOT : Fld := { fam := CTE_PSEED, lo := 0, width := 9 }
def CTE_PSEED_VALID : Fld := { fam := CTE_PSEED, lo := 9, width := 1 }
def CTE_PSEED_VALUE : Fld := { fam := CTE_PSEED, lo := 12, width := 20 }
/-- CTE_TESTCFG (R322, R422). -/
def CTE_TESTCFG : RegFam := { blk := .cte, base := 0x220300, n1 := 1, s1 := 0x4, n2 := 1, s2 := 0x4, reset := [0x0], rw := 0xFFFF07FF, mask := 0xFFFF07FF }
def CTE_TESTCFG_SLOT : Fld := { fam := CTE_TESTCFG, lo := 0, width := 9 }
def CTE_TESTCFG_KIND : Fld := { fam := CTE_TESTCFG, lo := 9, width := 1 }
def CTE_TESTCFG_GO : Fld := { fam := CTE_TESTCFG, lo := 10, width := 1 }
def CTE_TESTCFG_AMP : Fld := { fam := CTE_TESTCFG, lo := 16, width := 16 }
/-- CTE_TESTFREQ (R322, R422). -/
def CTE_TESTFREQ : RegFam := { blk := .cte, base := 0x220304, n1 := 1, s1 := 0x4, n2 := 1, s2 := 0x4, reset := [0x0], rw := 0xFFFFFFFF }
def CTE_TESTFREQ_FREQ : Fld := { fam := CTE_TESTFREQ, lo := 0, width := 32 }
/-- CTE_TESTSTAT (R322, R422). -/
def CTE_TESTSTAT : RegFam := { blk := .cte, base := 0x220308, n1 := 1, s1 := 0x4, n2 := 1, s2 := 0x4, reset := [0x0], mask := 0x1FFF0007 }
def CTE_TESTSTAT_STATE : Fld := { fam := CTE_TESTSTAT, lo := 0, width := 2 }
def CTE_TESTSTAT_CLIPPED : Fld := { fam := CTE_TESTSTAT, lo := 2, width := 1 }
def CTE_TESTSTAT_POINTS : Fld := { fam := CTE_TESTSTAT, lo := 16, width := 13 }
/-- CTE_CAPTS (R422). -/
def CTE_CAPTS : RegFam := { blk := .cte, base := 0x22030C, n1 := 2, s1 := 0x4, n2 := 1, s2 := 0x4, reset := [0x0] }
def CTE_CAPTS_V : Fld := { fam := CTE_CAPTS, lo := 0, width := 32 }
/-- CTE_ISHARE (R322, R422). -/
def CTE_ISHARE : RegFam := { blk := .cte, base := 0x220314, n1 := 1, s1 := 0x4, n2 := 1, s2 := 0x4, reset := [0x0], mask := 0xFFFFFF }
def CTE_ISHARE_CODE : Fld := { fam := CTE_ISHARE, lo := 0, width := 16 }
def CTE_ISHARE_TAG : Fld := { fam := CTE_ISHARE, lo := 16, width := 8 }
/-- CTE_PULSE (R422). -/
def CTE_PULSE : RegFam := { blk := .cte, base := 0x220318, n1 := 2, s1 := 0x4, n2 := 1, s2 := 0x4, reset := [0x0], rw := 0xFFFFFFFF }
def CTE_PULSE_SP : Fld := { fam := CTE_PULSE, lo := 0, width := 32 }
/-- CTE_SLOTCFG (R321, R422). -/
def CTE_SLOTCFG : RegFam := { blk := .cte, base := 0x221000, n1 := 512, s1 := 0x40, n2 := 1, s2 := 0x4, reset := [0x0], rw := 0x3FFFFFF, mask := 0x3FFFFFF }
def CTE_SLOTCFG_ENABLE : Fld := { fam := CTE_SLOTCFG, lo := 0, width := 1 }
def CTE_SLOTCFG_MODE : Fld := { fam := CTE_SLOTCFG, lo := 1, width := 1 }
def CTE_SLOTCFG_FORM : Fld := { fam := CTE_SLOTCFG, lo := 2, width := 1 }
def CTE_SLOTCFG_KIND : Fld := { fam := CTE_SLOTCFG, lo := 3, width := 3 }
def CTE_SLOTCFG_DEST : Fld := { fam := CTE_SLOTCFG, lo := 6, width := 9 }
def CTE_SLOTCFG_FB_SRC : Fld := { fam := CTE_SLOTCFG, lo := 15, width := 2 }
def CTE_SLOTCFG_FB_CH : Fld := { fam := CTE_SLOTCFG, lo := 17, width := 5 }
def CTE_SLOTCFG_SP_SRC : Fld := { fam := CTE_SLOTCFG, lo := 22, width := 2 }
def CTE_SLOTCFG_COEF_LOAD : Fld := { fam := CTE_SLOTCFG, lo := 24, width := 1 }
def CTE_SLOTCFG_FE_ACT : Fld := { fam := CTE_SLOTCFG, lo := 25, width := 1 }
/-- CTE_SLOTTIM (R321, R422). -/
def CTE_SLOTTIM : RegFam := { blk := .cte, base := 0x221004, n1 := 512, s1 := 0x40, n2 := 1, s2 := 0x4, reset := [0x0], rw := 0xFFFF, mask := 0xFFFF }
def CTE_SLOTTIM_PDIV : Fld := { fam := CTE_SLOTTIM, lo := 0, width := 12 }
def CTE_SLOTTIM_ARM_GRP : Fld := { fam := CTE_SLOTTIM, lo := 12, width := 3 }
def CTE_SLOTTIM_ARM_EN : Fld := { fam := CTE_SLOTTIM, lo := 15, width := 1 }
/-- CTE_SLOTSP (R321, R422). -/
def CTE_SLOTSP : RegFam := { blk := .cte, base := 0x221008, n1 := 512, s1 := 0x40, n2 := 1, s2 := 0x4, reset := [0x0], rw := 0xFFFFFFFF }
def CTE_SLOTSP_SP : Fld := { fam := CTE_SLOTSP, lo := 0, width := 32 }
/-- CTE_SLOTUMIN (R321, R422). -/
def CTE_SLOTUMIN : RegFam := { blk := .cte, base := 0x22100C, n1 := 512, s1 := 0x40, n2 := 1, s2 := 0x4, reset := [0x0], rw := 0xFFFFFFFF }
def CTE_SLOTUMIN_UMIN : Fld := { fam := CTE_SLOTUMIN, lo := 0, width := 32 }
/-- CTE_SLOTUMAX (R321, R422). -/
def CTE_SLOTUMAX : RegFam := { blk := .cte, base := 0x221010, n1 := 512, s1 := 0x40, n2 := 1, s2 := 0x4, reset := [0x0], rw := 0xFFFFFFFF }
def CTE_SLOTUMAX_UMAX : Fld := { fam := CTE_SLOTUMAX, lo := 0, width := 32 }
/-- CTE_SLOTCOEF (R321, R422). -/
def CTE_SLOTCOEF : RegFam := { blk := .cte, base := 0x221014, n1 := 512, s1 := 0x40, n2 := 5, s2 := 0x4, reset := [0x0], rw := 0xFFFFFFFF }
def CTE_SLOTCOEF_COEF : Fld := { fam := CTE_SLOTCOEF, lo := 0, width := 32 }
/-- CTE_SLOTMAN (R321, R422). -/
def CTE_SLOTMAN : RegFam := { blk := .cte, base := 0x221028, n1 := 512, s1 := 0x40, n2 := 1, s2 := 0x4, reset := [0x0], rw := 0xFFFFFFFF }
def CTE_SLOTMAN_MANUAL : Fld := { fam := CTE_SLOTMAN, lo := 0, width := 32 }
/-- CTE_SLOTFE (R321, R422). -/
def CTE_SLOTFE : RegFam := { blk := .cte, base := 0x22102C, n1 := 512, s1 := 0x40, n2 := 1, s2 := 0x4, reset := [0x0], rw := 0xFFFFFFFF }
def CTE_SLOTFE_FE_LIM : Fld := { fam := CTE_SLOTFE, lo := 0, width := 24 }
def CTE_SLOTFE_FE_CNT : Fld := { fam := CTE_SLOTFE, lo := 24, width := 8 }
/-- CTE_SLOTSTAT (R321, R422). -/
def CTE_SLOTSTAT : RegFam := { blk := .cte, base := 0x221030, n1 := 512, s1 := 0x40, n2 := 1, s2 := 0x4, reset := [0x0], w1c := 0x24 }
def CTE_SLOTSTAT_RUN : Fld := { fam := CTE_SLOTSTAT, lo := 0, width := 2 }
def CTE_SLOTSTAT_MISSED : Fld := { fam := CTE_SLOTSTAT, lo := 2, width := 1 }
def CTE_SLOTSTAT_FB_LOST : Fld := { fam := CTE_SLOTSTAT, lo := 3, width := 1 }
def CTE_SLOTSTAT_FROZEN : Fld := { fam := CTE_SLOTSTAT, lo := 4, width := 1 }
def CTE_SLOTSTAT_FOLLOW : Fld := { fam := CTE_SLOTSTAT, lo := 5, width := 1 }
def CTE_SLOTSTAT_SP_LOST : Fld := { fam := CTE_SLOTSTAT, lo := 6, width := 1 }
def CTE_SLOTSTAT_SETTLING : Fld := { fam := CTE_SLOTSTAT, lo := 7, width := 1 }
def CTE_SLOTSTAT_TAG : Fld := { fam := CTE_SLOTSTAT, lo := 8, width := 8 }
def CTE_SLOTSTAT_MISSCNT : Fld := { fam := CTE_SLOTSTAT, lo := 16, width := 16 }
/-- CTE_SLOTOUT (R321, R422). -/
def CTE_SLOTOUT : RegFam := { blk := .cte, base := 0x221034, n1 := 512, s1 := 0x40, n2 := 1, s2 := 0x4, reset := [0x0] }
def CTE_SLOTOUT_OUT : Fld := { fam := CTE_SLOTOUT, lo := 0, width := 32 }
/-- CTE_SLOTERR (R321, R422). -/
def CTE_SLOTERR : RegFam := { blk := .cte, base := 0x221038, n1 := 512, s1 := 0x40, n2 := 1, s2 := 0x4, reset := [0x0] }
def CTE_SLOTERR_ERR : Fld := { fam := CTE_SLOTERR, lo := 0, width := 32 }
/-- CTE_CAPBUF (R422). -/
def CTE_CAPBUF : RegFam := { blk := .cte, base := 0x22C000, n1 := 8192, s1 := 0x4, n2 := 1, s2 := 0x4, reset := [0x0] }
def CTE_CAPBUF_V : Fld := { fam := CTE_CAPBUF, lo := 0, width := 32 }
/-- PWM_GCFG (R331, R422). -/
def PWM_GCFG : RegFam := { blk := .pwm, base := 0x240000, n1 := 1, s1 := 0x4, n2 := 1, s2 := 0x4, reset := [0x7D004], rw := 0x1FFFFF, mask := 0x1FFFFF }
def PWM_GCFG_SYNC_SEL : Fld := { fam := PWM_GCFG, lo := 0, width := 2 }
def PWM_GCFG_SYNC_MUL : Fld := { fam := PWM_GCFG, lo := 2, width := 3 }
def PWM_GCFG_RPER : Fld := { fam := PWM_GCFG, lo := 5, width := 16 }
/-- PWM_GSTAT (R331, R422). -/
def PWM_GSTAT : RegFam := { blk := .pwm, base := 0x240004, n1 := 1, s1 := 0x4, n2 := 1, s2 := 0x4, reset := [0x0], mask := 0x7FF }
def PWM_GSTAT_SYNC_LOCK : Fld := { fam := PWM_GSTAT, lo := 0, width := 1 }
def PWM_GSTAT_SLEWING : Fld := { fam := PWM_GSTAT, lo := 1, width := 1 }
def PWM_GSTAT_PULSE_OK : Fld := { fam := PWM_GSTAT, lo := 2, width := 1 }
def PWM_GSTAT_TRIP : Fld := { fam := PWM_GSTAT, lo := 3, width := 8 }
/-- PWM_PERNOW (R331, R422). -/
def PWM_PERNOW : RegFam := { blk := .pwm, base := 0x240008, n1 := 1, s1 := 0x4, n2 := 1, s2 := 0x4, reset := [0x3E80], mask := 0xFFFFF }
def PWM_PERNOW_T : Fld := { fam := PWM_PERNOW, lo := 0, width := 20 }
/-- PWM_PSYNC (R331, R422). -/
def PWM_PSYNC : RegFam := { blk := .pwm, base := 0x24000C, n1 := 1, s1 := 0x4, n2 := 1, s2 := 0x4, reset := [0x0] }
def PWM_PSYNC_PER : Fld := { fam := PWM_PSYNC, lo := 0, width := 20 }
def PWM_PSYNC_DUTY : Fld := { fam := PWM_PSYNC, lo := 20, width := 12 }
/-- PWM_PAIRPER (R331, R422). -/
def PWM_PAIRPER : RegFam := { blk := .pwm, base := 0x240020, n1 := 4, s1 := 0x4, n2 := 1, s2 := 0x4, reset := [0x1F400], rw := 0xFFFFF, mask := 0xFFFFF }
def PWM_PAIRPER_PERIOD : Fld := { fam := PWM_PAIRPER, lo := 0, width := 20 }
/-- PWM_BLK (R331, R422). -/
def PWM_BLK : RegFam := { blk := .pwm, base := 0x240040, n1 := 8, s1 := 0x4, n2 := 1, s2 := 0x4, reset := [0x0], rw := 0xFFFFF, mask := 0xFFFFF }
def PWM_BLK_REF : Fld := { fam := PWM_BLK, lo := 0, width := 6 }
def PWM_BLK_EDGE : Fld := { fam := PWM_BLK, lo := 6, width := 1 }
def PWM_BLK_LEN : Fld := { fam := PWM_BLK, lo := 7, width := 13 }
/-- PWM_CHCFG (R331, R422). -/
def PWM_CHCFG : RegFam := { blk := .pwm, base := 0x240100, n1 := 48, s1 := 0x10, n2 := 1, s2 := 0x4, reset := [0x0], rw := 0x3FFFFFF, mask := 0x3FFFFFF }
def PWM_CHCFG_EN : Fld := { fam := PWM_CHCFG, lo := 0, width := 1 }
def PWM_CHCFG_DT : Fld := { fam := PWM_CHCFG, lo := 1, width := 9 }
def PWM_CHCFG_MINP : Fld := { fam := PWM_CHCFG, lo := 10, width := 10 }
def PWM_CHCFG_SHORT : Fld := { fam := PWM_CHCFG, lo := 20, width := 1 }
def PWM_CHCFG_LATCH : Fld := { fam := PWM_CHCFG, lo := 21, width := 1 }
def PWM_CHCFG_BLK : Fld := { fam := PWM_CHCFG, lo := 22, width := 3 }
def PWM_CHCFG_BLK_EN : Fld := { fam := PWM_CHCFG, lo := 25, width := 1 }
/-- PWM_CHTRIP (R331, R422). -/
def PWM_CHTRIP : RegFam := { blk := .pwm, base := 0x240104, n1 := 48, s1 := 0x10, n2 := 1, s2 := 0x4, reset := [0x0], rw := 0xFF, mask := 0xFF }
def PWM_CHTRIP_MASK : Fld := { fam := PWM_CHTRIP, lo := 0, width := 8 }
/-- PWM_CHSTAT (R331, R422). -/
def PWM_CHSTAT : RegFam := { blk := .pwm, base := 0x240108, n1 := 48, s1 := 0x10, n2 := 1, s2 := 0x4, reset := [0x0], w1c := 0x1A, mask := 0xFFFF001F }
def PWM_CHSTAT_OUT : Fld := { fam := PWM_CHSTAT, lo := 0, width := 1 }
def PWM_CHSTAT_TRIPPED : Fld := { fam := PWM_CHSTAT, lo := 1, width := 1 }
def PWM_CHSTAT_HELD : Fld := { fam := PWM_CHSTAT, lo := 2, width := 1 }
def PWM_CHSTAT_DROPPED : Fld := { fam := PWM_CHSTAT, lo := 3, width := 1 }
def PWM_CHSTAT_STRETCHED : Fld := { fam := PWM_CHSTAT, lo := 4, width := 1 }
def PWM_CHSTAT_TRIPS : Fld := { fam := PWM_CHSTAT, lo := 16, width := 16 }
/-- PWM_CHCMP (R331, R422). -/
def PWM_CHCMP : RegFam := { blk := .pwm, base := 0x24010C, n1 := 48, s1 := 0x10, n2 := 1, s2 := 0x4, reset := [0x0], mask := 0xFFFFF }
def PWM_CHCMP_C : Fld := { fam := PWM_CHCMP, lo := 0, width := 20 }
/-- RPS_CFG (R349, R423). -/
def RPS_CFG : RegFam := { blk := .rps, base := 0x260000, n1 := 1, s1 := 0x4, n2 := 1, s2 := 0x4, reset := [0x2990], rwp := 0x3FFFF, mask := 0x3FFFF }
def RPS_CFG_EN : Fld := { fam := RPS_CFG, lo := 0, width := 1 }
def RPS_CFG_SPEED : Fld := { fam := RPS_CFG, lo := 1, width := 1 }
def RPS_CFG_POLL : Fld := { fam := RPS_CFG, lo := 2, width := 8 }
def RPS_CFG_RETURN_S : Fld := { fam := RPS_CFG, lo := 10, width := 8 }
/-- RPS_STAT (R349, R423). -/
def RPS_STAT : RegFam := { blk := .rps, base := 0x260004, n1 := 1, s1 := 0x4, n2 := 1, s2 := 0x4, reset := [0x0], mask := 0x7FFFFF }
def RPS_STAT_STATE : Fld := { fam := RPS_STAT, lo := 0, width := 2 }
def RPS_STAT_HOLD_READY : Fld := { fam := RPS_STAT, lo := 2, width := 1 }
def RPS_STAT_RUNG : Fld := { fam := RPS_STAT, lo := 3, width := 7 }
def RPS_STAT_SEG_OK : Fld := { fam := RPS_STAT, lo := 10, width := 4 }
def RPS_STAT_RECT_OK : Fld := { fam := RPS_STAT, lo := 14, width := 4 }
def RPS_STAT_POL_OK : Fld := { fam := RPS_STAT, lo := 18, width := 5 }
/-- RPS_CAP (R349, R423). -/
def RPS_CAP : RegFam := { blk := .rps, base := 0x260008, n1 := 1, s1 := 0x4, n2 := 1, s2 := 0x4, reset := [0xFFFFFFFF], rwp := 0xFFFFFFFF }
def RPS_CAP_RACK_CAP : Fld := { fam := RPS_CAP, lo := 0, width := 16 }
def RPS_CAP_BATT_CAP : Fld := { fam := RPS_CAP, lo := 16, width := 16 }
/-- RPS_SHEDCFG (R349, R423). -/
def RPS_SHEDCFG : RegFam := { blk := .rps, base := 0x26000C, n1 := 1, s1 := 0x4, n2 := 1, s2 := 0x4, reset := [0xA5052EE], rwp := 0x3FFFFFFF, mask := 0x3FFFFFFF }
def RPS_SHEDCFG_DEV_CAP : Fld := { fam := RPS_SHEDCFG, lo := 0, width := 10 }
def RPS_SHEDCFG_HYST : Fld := { fam := RPS_SHEDCFG, lo := 10, width := 8 }
def RPS_SHEDCFG_DL_MAX : Fld := { fam := RPS_SHEDCFG, lo := 18, width := 6 }
def RPS_SHEDCFG_UL_MAX : Fld := { fam := RPS_SHEDCFG, lo := 24, width := 6 }
/-- RPS_SHEDKEEP (R349, R423). -/
def RPS_SHEDKEEP : RegFam := { blk := .rps, base := 0x260010, n1 := 1, s1 := 0x4, n2 := 1, s2 := 0x4, reset := [0x0], rwp := 0xFF, mask := 0xFF }
def RPS_SHEDKEEP_KEEP : Fld := { fam := RPS_SHEDKEEP, lo := 0, width := 8 }
/-- RPS_PWR (R349, R423). -/
def RPS_PWR : RegFam := { blk := .rps, base := 0x260014, n1 := 1, s1 := 0x4, n2 := 1, s2 := 0x4, reset := [0x0] }
def RPS_PWR_P_DEV : Fld := { fam := RPS_PWR, lo := 0, width := 16 }
def RPS_PWR_P_RACK : Fld := { fam := RPS_PWR, lo := 16, width := 16 }
/-- RPS_SHEDSTAT (R349, R423). -/
def RPS_SHEDSTAT : RegFam := { blk := .rps, base := 0x260018, n1 := 1, s1 := 0x4, n2 := 1, s2 := 0x4, reset := [0x0] }
def RPS_SHEDSTAT_C_EFF : Fld := { fam := RPS_SHEDSTAT, lo := 0, width := 16 }
def RPS_SHEDSTAT_SRC : Fld := { fam := RPS_SHEDSTAT, lo := 16, width := 2 }
def RPS_SHEDSTAT_DL_RED : Fld := { fam := RPS_SHEDSTAT, lo := 18, width := 6 }
def RPS_SHEDSTAT_UL_RED : Fld := { fam := RPS_SHEDSTAT, lo := 24, width := 6 }
def RPS_SHEDSTAT_COARSE : Fld := { fam := RPS_SHEDSTAT, lo := 30, width := 1 }
def RPS_SHEDSTAT_EXHAUSTED : Fld := { fam := RPS_SHEDSTAT, lo := 31, width := 1 }
/-- RPS_HOLD (R349, R423). -/
def RPS_HOLD : RegFam := { blk := .rps, base := 0x260020, n1 := 1, s1 := 0x4, n2 := 1, s2 := 0x4, reset := [0x0], rw := 0x3FFFFF, mask := 0x3FFFFF }
def RPS_HOLD_BUS_SLOT : Fld := { fam := RPS_HOLD, lo := 0, width := 6 }
def RPS_HOLD_SAG_CMP : Fld := { fam := RPS_HOLD, lo := 6, width := 6 }
def RPS_HOLD_SAG_GRP : Fld := { fam := RPS_HOLD, lo := 12, width := 3 }
def RPS_HOLD_OV_CMP : Fld := { fam := RPS_HOLD, lo := 15, width := 6 }
def RPS_HOLD_OV_EN : Fld := { fam := RPS_HOLD, lo := 21, width := 1 }
/-- RPS_MEAS0 (R349, R423). -/
def RPS_MEAS0 : RegFam := { blk := .rps, base := 0x260024, n1 := 1, s1 := 0x4, n2 := 1, s2 := 0x4, reset := [0x0], rw := 0x7FFF, mask := 0x7FFF }
def RPS_MEAS0_VBUS_CH : Fld := { fam := RPS_MEAS0, lo := 0, width := 5 }
def RPS_MEAS0_V12_CH : Fld := { fam := RPS_MEAS0, lo := 5, width := 5 }
def RPS_MEAS0_I12_CH : Fld := { fam := RPS_MEAS0, lo := 10, width := 5 }
/-- RPS_STRCFG (R349, R423). -/
def RPS_STRCFG : RegFam := { blk := .rps, base := 0x260030, n1 := 4, s1 := 0x4, n2 := 1, s2 := 0x4, reset := [0x1A400000], rw := 0x3FFFFFFF, mask := 0x3FFFFFFF }
def RPS_STRCFG_EN : Fld := { fam := RPS_STRCFG, lo := 0, width := 1 }
def RPS_STRCFG_SLOT : Fld := { fam := RPS_STRCFG, lo := 1, width := 9 }
def RPS_STRCFG_ICH : Fld := { fam := RPS_STRCFG, lo := 10, width := 5 }
def RPS_STRCFG_VCH : Fld := { fam := RPS_STRCFG, lo := 15, width := 5 }
def RPS_STRCFG_EOD : Fld := { fam := RPS_STRCFG, lo := 20, width := 10 }
/-- RPS_STRSTAT (R349, R423). -/
def RPS_STRSTAT : RegFam := { blk := .rps, base := 0x260040, n1 := 4, s1 := 0x4, n2 := 1, s2 := 0x4, reset := [0x0] }
def RPS_STRSTAT_STATE : Fld := { fam := RPS_STRSTAT, lo := 0, width := 2 }
def RPS_STRSTAT_VSTR : Fld := { fam := RPS_STRSTAT, lo := 2, width := 14 }
def RPS_STRSTAT_I : Fld := { fam := RPS_STRSTAT, lo := 16, width := 16 }
/-- RPS_GAIN (R349, R423). -/
def RPS_GAIN : RegFam := { blk := .rps, base := 0x260060, n1 := 11, s1 := 0x4, n2 := 1, s2 := 0x4, reset := [0x0], rw := 0xFFFFFF, mask := 0xFFFFFF }
def RPS_GAIN_GAIN : Fld := { fam := RPS_GAIN, lo := 0, width := 24 }
/-- RPS_SEGCTL (R349, R423). -/
def RPS_SEGCTL : RegFam := { blk := .rps, base := 0x260100, n1 := 4, s1 := 0x4, n2 := 1, s2 := 0x4, reset := [0x1], rw := 0x1, mask := 0xFFFF000F }
def RPS_SEGCTL_EN : Fld := { fam := RPS_SEGCTL, lo := 0, width := 1 }
def RPS_SEGCTL_STATE : Fld := { fam := RPS_SEGCTL, lo := 1, width := 2 }
def RPS_SEGCTL_ALERT_STUCK : Fld := { fam := RPS_SEGCTL, lo := 3, width := 1 }
def RPS_SEGCTL_ERRORS : Fld := { fam := RPS_SEGCTL, lo := 16, width := 16 }
/-- RPS_DEVCFG (R349, R423). -/
def RPS_DEVCFG : RegFam := { blk := .rps, base := 0x260200, n1 := 28, s1 := 0x10, n2 := 1, s2 := 0x4, reset := [0x1000], rw := 0xFFFF3FFF, mask := 0xFFFF3FFF }
def RPS_DEVCFG_EN : Fld := { fam := RPS_DEVCFG, lo := 0, width := 1 }
def RPS_DEVCFG_KIND : Fld := { fam := RPS_DEVCFG, lo := 1, width := 2 }
def RPS_DEVCFG_SEG : Fld := { fam := RPS_DEVCFG, lo := 3, width := 2 }
def RPS_DEVCFG_ADDR : Fld := { fam := RPS_DEVCFG, lo := 5, width := 7 }
def RPS_DEVCFG_PEC : Fld := { fam := RPS_DEVCFG, lo := 12, width := 1 }
def RPS_DEVCFG_ON : Fld := { fam := RPS_DEVCFG, lo := 13, width := 1 }
def RPS_DEVCFG_VOUT : Fld := { fam := RPS_DEVCFG, lo := 16, width := 16 }
/-- RPS_DEVSTAT (R349, R423). -/
def RPS_DEVSTAT : RegFam := { blk := .rps, base := 0x260204, n1 := 28, s1 := 0x10, n2 := 1, s2 := 0x4, reset := [0x0], mask := 0xFFFF0003 }
def RPS_DEVSTAT_STATE : Fld := { fam := RPS_DEVSTAT, lo := 0, width := 2 }
def RPS_DEVSTAT_STATUS : Fld := { fam := RPS_DEVSTAT, lo := 16, width := 16 }
/-- RPS_DEVRD (R423). -/
def RPS_DEVRD : RegFam := { blk := .rps, base := 0x260208, n1 := 28, s1 := 0x10, n2 := 2, s2 := 0x4, reset := [0x0] }
def RPS_DEVRD_V : Fld := { fam := RPS_DEVRD, lo := 0, width := 32 }
/-- FLT_STAT (R390, R423). -/
def FLT_STAT : RegFam := { blk := .flt, base := 0x280000, n1 := 1, s1 := 0x4, n2 := 1, s2 := 0x4, reset := [0x2], mask := 0xFFF07 }
def FLT_STAT_DUGOUT : Fld := { fam := FLT_STAT, lo := 0, width := 1 }
def FLT_STAT_FAULT_LOW : Fld := { fam := FLT_STAT, lo := 1, width := 1 }
def FLT_STAT_SHADOW : Fld := { fam := FLT_STAT, lo := 2, width := 1 }
def FLT_STAT_DG_SRC : Fld := { fam := FLT_STAT, lo := 8, width := 12 }
/-- FLT_DGCODE (R390, R423). -/
def FLT_DGCODE : RegFam := { blk := .flt, base := 0x280004, n1 := 1, s1 := 0x4, n2 := 1, s2 := 0x4, reset := [0x0], mask := 0xFFFF }
def FLT_DGCODE_CODE : Fld := { fam := FLT_DGCODE, lo := 0, width := 16 }
/-- FLT_CFG (R390, R423). -/
def FLT_CFG : RegFam := { blk := .flt, base := 0x280008, n1 := 1, s1 := 0x4, n2 := 1, s2 := 0x4, reset := [0x2], rw := 0xFF, mask := 0xFF }
def FLT_CFG_SHADOW : Fld := { fam := FLT_CFG, lo := 0, width := 8 }
/-- FLT_CASCADE (R390, R423). -/
def FLT_CASCADE : RegFam := { blk := .flt, base := 0x28000C, n1 := 1, s1 := 0x4, n2 := 1, s2 := 0x4, reset := [0xFF0000], rw := 0xFF0000, w1c := 0xFF, mask := 0xFFFFFF }
def FLT_CASCADE_LATCH : Fld := { fam := FLT_CASCADE, lo := 0, width := 8 }
def FLT_CASCADE_LEVEL : Fld := { fam := FLT_CASCADE, lo := 8, width := 8 }
def FLT_CASCADE_MASK : Fld := { fam := FLT_CASCADE, lo := 16, width := 8 }
/-- FLT_MSGCNT (R390, R423). -/
def FLT_MSGCNT : RegFam := { blk := .flt, base := 0x280010, n1 := 1, s1 := 0x4, n2 := 1, s2 := 0x4, reset := [0x0] }
def FLT_MSGCNT_LOST : Fld := { fam := FLT_MSGCNT, lo := 0, width := 16 }
def FLT_MSGCNT_CONSEQUENT : Fld := { fam := FLT_MSGCNT, lo := 16, width := 16 }
/-- FLT_RECON (R390, R423). -/
def FLT_RECON : RegFam := { blk := .flt, base := 0x280014, n1 := 1, s1 := 0x4, n2 := 1, s2 := 0x4, reset := [0x0], mask := 0xFFFF }
def FLT_RECON_COUNT : Fld := { fam := FLT_RECON, lo := 0, width := 16 }
/-- FLT_PEND (R390, R423). -/
def FLT_PEND : RegFam := { blk := .flt, base := 0x280040, n1 := 12, s1 := 0x4, n2 := 1, s2 := 0x4, reset := [0x0], w1c := 0xFFFFFFFF }
def FLT_PEND_PEND : Fld := { fam := FLT_PEND, lo := 0, width := 32 }
/-- FLT_SBSTAT (R390, R423). -/
def FLT_SBSTAT : RegFam := { blk := .flt, base := 0x280100, n1 := 1, s1 := 0x4, n2 := 1, s2 := 0x4, reset := [0x1], w1c := 0x10000000, mask := 0x1FFFFFFF }
def FLT_SBSTAT_WRITTEN : Fld := { fam := FLT_SBSTAT, lo := 0, width := 15 }
def FLT_SBSTAT_BUFFERED : Fld := { fam := FLT_SBSTAT, lo := 15, width := 9 }
def FLT_SBSTAT_FULL : Fld := { fam := FLT_SBSTAT, lo := 24, width := 1 }
def FLT_SBSTAT_NEAR : Fld := { fam := FLT_SBSTAT, lo := 25, width := 1 }
def FLT_SBSTAT_WORN : Fld := { fam := FLT_SBSTAT, lo := 26, width := 1 }
def FLT_SBSTAT_FLUSHING : Fld := { fam := FLT_SBSTAT, lo := 27, width := 1 }
def FLT_SBSTAT_FLUSH_FAIL : Fld := { fam := FLT_SBSTAT, lo := 28, width := 1 }
/-- FLT_SBLOST (R390, R423). -/
def FLT_SBLOST : RegFam := { blk := .flt, base := 0x280104, n1 := 1, s1 := 0x4, n2 := 1, s2 := 0x4, reset := [0x0] }
def FLT_SBLOST_LOST : Fld := { fam := FLT_SBLOST, lo := 0, width := 16 }
def FLT_SBLOST_REFUSED : Fld := { fam := FLT_SBLOST, lo := 16, width := 16 }
/-- FLT_SBCUR (R390, R423). -/
def FLT_SBCUR : RegFam := { blk := .flt, base := 0x280108, n1 := 1, s1 := 0x4, n2 := 1, s2 := 0x4, reset := [0x0], rw := 0x7FFF, mask := 0x7FFF }
def FLT_SBCUR_INDEX : Fld := { fam := FLT_SBCUR, lo := 0, width := 14 }
def FLT_SBCUR_AUTOINC : Fld := { fam := FLT_SBCUR, lo := 14, width := 1 }
/-- FLT_SBCLEARS (R390, R423). -/
def FLT_SBCLEARS : RegFam := { blk := .flt, base := 0x28010C, n1 := 1, s1 := 0x4, n2 := 1, s2 := 0x4, reset := [0x0] }
def FLT_SBCLEARS_CLEARS : Fld := { fam := FLT_SBCLEARS, lo := 0, width := 32 }
/-- FLT_SBWIN (R390, R423). -/
def FLT_SBWIN : RegFam := { blk := .flt, base := 0x280120, n1 := 8, s1 := 0x4, n2 := 1, s2 := 0x4, reset := [0xFFFFFFFF] }
def FLT_SBWIN_DATA : Fld := { fam := FLT_SBWIN, lo := 0, width := 32 }
/-- FLT_SBSEL (R390, R423). -/
def FLT_SBSEL : RegFam := { blk := .flt, base := 0x280180, n1 := 12, s1 := 0x4, n2 := 1, s2 := 0x4, reset := [0x0], rw := 0xFFFFFFFF }
def FLT_SBSEL_SEL : Fld := { fam := FLT_SBSEL, lo := 0, width := 32 }
/-- PST_STAT (R209, R423). -/
def PST_STAT : RegFam := { blk := .pst, base := 0x2A0000, n1 := 1, s1 := 0x4, n2 := 1, s2 := 0x4, reset := [0x100], w1c := 0x3040, mask := 0x3FFF }
def PST_STAT_PROV_N : Fld := { fam := PST_STAT, lo := 0, width := 1 }
def PST_STAT_OP_KEY : Fld := { fam := PST_STAT, lo := 1, width := 2 }
def PST_STAT_UMP_KEY : Fld := { fam := PST_STAT, lo := 3, width := 2 }
def PST_STAT_LOCK_DEFAULTED : Fld := { fam := PST_STAT, lo := 5, width := 1 }
def PST_STAT_KEY_REPAIRED : Fld := { fam := PST_STAT, lo := 6, width := 1 }
def PST_STAT_CAL_SRC : Fld := { fam := PST_STAT, lo := 7, width := 2 }
def PST_STAT_CAL_SAVING : Fld := { fam := PST_STAT, lo := 9, width := 1 }
def PST_STAT_NONCE_VALID : Fld := { fam := PST_STAT, lo := 10, width := 1 }
def PST_STAT_LOCK_BUSY : Fld := { fam := PST_STAT, lo := 11, width := 1 }
def PST_STAT_PF_DROP : Fld := { fam := PST_STAT, lo := 12, width := 1 }
def PST_STAT_JOURNAL_REPLAYED : Fld := { fam := PST_STAT, lo := 13, width := 1 }
/-- PST_LOCKGEN (R209, R423). -/
def PST_LOCKGEN : RegFam := { blk := .pst, base := 0x2A0004, n1 := 1, s1 := 0x4, n2 := 1, s2 := 0x4, reset := [0x0] }
def PST_LOCKGEN_GEN : Fld := { fam := PST_LOCKGEN, lo := 0, width := 32 }
/-- PST_KEYGEN (R209, R423). -/
def PST_KEYGEN : RegFam := { blk := .pst, base := 0x2A0008, n1 := 1, s1 := 0x4, n2 := 1, s2 := 0x4, reset := [0x0] }
def PST_KEYGEN_GEN : Fld := { fam := PST_KEYGEN, lo := 0, width := 32 }
/-- PST_CALSEQ (R209, R423). -/
def PST_CALSEQ : RegFam := { blk := .pst, base := 0x2A000C, n1 := 1, s1 := 0x4, n2 := 1, s2 := 0x4, reset := [0x0] }
def PST_CALSEQ_SEQ : Fld := { fam := PST_CALSEQ, lo := 0, width := 32 }
/-- PST_LIM0 (R209, R423). -/
def PST_LIM0 : RegFam := { blk := .pst, base := 0x2A0010, n1 := 1, s1 := 0x4, n2 := 1, s2 := 0x4, reset := [0x12C], rwl := 0x7FFFFF, mask := 0x7FFFFF }
def PST_LIM0_MIN_MARGIN : Fld := { fam := PST_LIM0, lo := 0, width := 11 }
def PST_LIM0_UL_GAIN_MAX : Fld := { fam := PST_LIM0, lo := 11, width := 12 }
/-- PST_LIM1 (R209, R423). -/
def PST_LIM1 : RegFam := { blk := .pst, base := 0x2A0014, n1 := 1, s1 := 0x4, n2 := 1, s2 := 0x4, reset := [0x99200], rwl := 0x1FFFFFF, mask := 0x1FFFFFF }
def PST_LIM1_NR_LIMIT : Fld := { fam := PST_LIM1, lo := 0, width := 9 }
def PST_LIM1_HOSTLOST : Fld := { fam := PST_LIM1, lo := 9, width := 1 }
def PST_LIM1_HB_MAX : Fld := { fam := PST_LIM1, lo := 10, width := 7 }
def PST_LIM1_EMARGIN : Fld := { fam := PST_LIM1, lo := 17, width := 8 }
/-- PST_LIM2 (R209, R423). -/
def PST_LIM2 : RegFam := { blk := .pst, base := 0x2A0018, n1 := 1, s1 := 0x4, n2 := 1, s2 := 0x4, reset := [0x2B3C], rwl := 0x3FFFFF, mask := 0x3FFFFF }
def PST_LIM2_OSC_WINDOW : Fld := { fam := PST_LIM2, lo := 0, width := 8 }
def PST_LIM2_OSC_COUNT : Fld := { fam := PST_LIM2, lo := 8, width := 2 }
def PST_LIM2_OSC_BASE : Fld := { fam := PST_LIM2, lo := 10, width := 12 }
/-- PST_CLAMP (R423). -/
def PST_CLAMP : RegFam := { blk := .pst, base := 0x2A0020, n1 := 3, s1 := 0x4, n2 := 1, s2 := 0x4, reset := [0x0] }
def PST_CLAMP_PORTS : Fld := { fam := PST_CLAMP, lo := 0, width := 32 }
/-- PST_CLAMPCNT (R209, R423). -/
def PST_CLAMPCNT : RegFam := { blk := .pst, base := 0x2A002C, n1 := 1, s1 := 0x4, n2 := 1, s2 := 0x4, reset := [0x0], rw := 0xFFFFFFFF }
def PST_CLAMPCNT_ONSETS : Fld := { fam := PST_CLAMPCNT, lo := 0, width := 32 }
/-- PST_PGSEL (R209, R423). -/
def PST_PGSEL : RegFam := { blk := .pst, base := 0x2A0030, n1 := 1, s1 := 0x4, n2 := 1, s2 := 0x4, reset := [0x0], rw := 0xFF, mask := 0xFF }
def PST_PGSEL_SEL : Fld := { fam := PST_PGSEL, lo := 0, width := 8 }
/-- PST_PAGEFAIL (R209, R423). -/
def PST_PAGEFAIL : RegFam := { blk := .pst, base := 0x2A0040, n1 := 8, s1 := 0x4, n2 := 1, s2 := 0x4, reset := [0x0] }
def PST_PAGEFAIL_PAGES : Fld := { fam := PST_PAGEFAIL, lo := 0, width := 32 }
/-- PST_WEARWARN (R209, R423). -/
def PST_WEARWARN : RegFam := { blk := .pst, base := 0x2A0060, n1 := 4, s1 := 0x4, n2 := 1, s2 := 0x4, reset := [0x0] }
def PST_WEARWARN_PAGES : Fld := { fam := PST_WEARWARN, lo := 0, width := 32 }
/-- PST_VOLATILE (R209, R423). -/
def PST_VOLATILE : RegFam := { blk := .pst, base := 0x2A0070, n1 := 4, s1 := 0x4, n2 := 1, s2 := 0x4, reset := [0x0] }
def PST_VOLATILE_PAGES : Fld := { fam := PST_VOLATILE, lo := 0, width := 32 }
/-- PST_LOCKDIG (R209, R423). -/
def PST_LOCKDIG : RegFam := { blk := .pst, base := 0x2A0080, n1 := 12, s1 := 0x4, n2 := 1, s2 := 0x4, reset := [0x0] }
def PST_LOCKDIG_DIGEST : Fld := { fam := PST_LOCKDIG, lo := 0, width := 32 }
/-- PST_PGDATA (R209, R423). -/
def PST_PGDATA : RegFam := { blk := .pst, base := 0x2A0100, n1 := 64, s1 := 0x4, n2 := 1, s2 := 0x4, reset := [0x0] }
def PST_PGDATA_DATA : Fld := { fam := PST_PGDATA, lo := 0, width := 32 }
/-- TIM_FRAC (R278, R423). -/
def TIM_FRAC : RegFam := { blk := .tim, base := 0x2C0000, n1 := 1, s1 := 0x4, n2 := 1, s2 := 0x4, reset := [0x0] }
def TIM_FRAC_FRAC : Fld := { fam := TIM_FRAC, lo := 0, width := 32 }
/-- TIM_SEC_LO (R423). -/
def TIM_SEC_LO : RegFam := { blk := .tim, base := 0x2C0004, n1 := 1, s1 := 0x4, n2 := 1, s2 := 0x4, reset := [0x0] }
def TIM_SEC_LO_SEC : Fld := { fam := TIM_SEC_LO, lo := 0, width := 32 }
/-- TIM_SEC_HI (R423). -/
def TIM_SEC_HI : RegFam := { blk := .tim, base := 0x2C0008, n1 := 1, s1 := 0x4, n2 := 1, s2 := 0x4, reset := [0x0], mask := 0xFFFF }
def TIM_SEC_HI_SEC : Fld := { fam := TIM_SEC_HI, lo := 0, width := 16 }
/-- TIM_SET0 (R278, R423). -/
def TIM_SET0 : RegFam := { blk := .tim, base := 0x2C0010, n1 := 1, s1 := 0x4, n2 := 1, s2 := 0x4, reset := [0x0], rw := 0xFFFFFFFF }
def TIM_SET0_FRAC : Fld := { fam := TIM_SET0, lo := 0, width := 32 }
/-- TIM_SET1 (R278, R423). -/
def TIM_SET1 : RegFam := { blk := .tim, base := 0x2C0014, n1 := 1, s1 := 0x4, n2 := 1, s2 := 0x4, reset := [0x0], rw := 0xFFFFFFFF }
def TIM_SET1_SEC : Fld := { fam := TIM_SET1, lo := 0, width := 32 }
/-- TIM_SET2 (R278, R423). -/
def TIM_SET2 : RegFam := { blk := .tim, base := 0x2C0018, n1 := 1, s1 := 0x4, n2 := 1, s2 := 0x4, reset := [0x0], rw := 0xC000FFFF, mask := 0xC000FFFF }
def TIM_SET2_SEC : Fld := { fam := TIM_SET2, lo := 0, width := 16 }
def TIM_SET2_SET_NOW : Fld := { fam := TIM_SET2, lo := 30, width := 1 }
def TIM_SET2_ARM : Fld := { fam := TIM_SET2, lo := 31, width := 1 }
/-- TIM_ALIGN (R423). -/
def TIM_ALIGN : RegFam := { blk := .tim, base := 0x2C0020, n1 := 3, s1 := 0x4, n2 := 1, s2 := 0x4, reset := [0x0] }
def TIM_ALIGN_V : Fld := { fam := TIM_ALIGN, lo := 0, width := 32 }
/-- TIM_CFG (R278, R423). -/
def TIM_CFG : RegFam := { blk := .tim, base := 0x2C0030, n1 := 1, s1 := 0x4, n2 := 1, s2 := 0x4, reset := [0x0], rw := 0x1FFF, mask := 0x1FFF }
def TIM_CFG_SRC : Fld := { fam := TIM_CFG, lo := 0, width := 1 }
def TIM_CFG_PTP0_EN : Fld := { fam := TIM_CFG, lo := 1, width := 1 }
def TIM_CFG_PTP1_EN : Fld := { fam := TIM_CFG, lo := 2, width := 1 }
def TIM_CFG_DOMAIN : Fld := { fam := TIM_CFG, lo := 3, width := 8 }
def TIM_CFG_AUTO_STEP : Fld := { fam := TIM_CFG, lo := 11, width := 1 }
def TIM_CFG_PPS_OUT_EN : Fld := { fam := TIM_CFG, lo := 12, width := 1 }
/-- TIM_STAT (R278, R423). -/
def TIM_STAT : RegFam := { blk := .tim, base := 0x2C0034, n1 := 1, s1 := 0x4, n2 := 1, s2 := 0x4, reset := [0x0], w1c := 0x24, mask := 0x3F }
def TIM_STAT_VALID : Fld := { fam := TIM_STAT, lo := 0, width := 1 }
def TIM_STAT_PPS_OK : Fld := { fam := TIM_STAT, lo := 1, width := 1 }
def TIM_STAT_SET_LATE : Fld := { fam := TIM_STAT, lo := 2, width := 1 }
def TIM_STAT_PTP_LOCK : Fld := { fam := TIM_STAT, lo := 3, width := 1 }
def TIM_STAT_PTP_PORT : Fld := { fam := TIM_STAT, lo := 4, width := 1 }
def TIM_STAT_STEPPED : Fld := { fam := TIM_STAT, lo := 5, width := 1 }
/-- TIM_PPSERR (R278, R423). -/
def TIM_PPSERR : RegFam := { blk := .tim, base := 0x2C0038, n1 := 1, s1 := 0x4, n2 := 1, s2 := 0x4, reset := [0x0] }
def TIM_PPSERR_ERR : Fld := { fam := TIM_PPSERR, lo := 0, width := 32 }
/-- TIM_PTPOFS (R278, R423). -/
def TIM_PTPOFS : RegFam := { blk := .tim, base := 0x2C003C, n1 := 1, s1 := 0x4, n2 := 1, s2 := 0x4, reset := [0x0] }
def TIM_PTPOFS_OFS : Fld := { fam := TIM_PTPOFS, lo := 0, width := 32 }

/-- The register families of block GLB (R418). -/
def glbFams : List RegFam :=
  [GLB_IDENT, GLB_CAPS, GLB_XSTAT, GLB_BOOTSTAT, GLB_BOOTCTL, GLB_FWADDR_LO, GLB_FWADDR_HI, GLB_FWLEN, GLB_RESET, GLB_RSTCAUSE, GLB_INNINGS]

/-- The register families of block PWR (R418). -/
def pwrFams : List RegFam :=
  [PWR_THCFG, PWR_THSTAT, PWR_THCAP, PWR_BROKEN0, PWR_BROKEN1, PWR_TEMP, PWR_TILE, PWR_DOMEN, PWR_DOMSTAT, PWR_DOMFAIL]

/-- The register families of block CLK (R418). -/
def clkFams : List RegFam :=
  [CLK_RCFG, CLK_RSTAT, CLK_TCAP, CLK_TSTAT, CLK_SYNSTAT, CLK_QCTL, CLK_QPORT, CLK_QSTAT, CLK_QSB]

/-- The register families of block TILE (R419). -/
def tileFams : List RegFam :=
  [TILE_PORTCFG, TILE_ARCCFG, TILE_DACCFG, TILE_PORTSTAT, TILE_RANGEIDX, TILE_OVRCNT, TILE_BUBCNT, TILE_BANKCFG, TILE_BANKSTAT, TILE_SATCNT, TILE_TXCLIP, TILE_PACFG] ++
  [TILE_PASTAT, TILE_ORXCFG, TILE_ORXATT, TILE_ORXSTAT, TILE_CALSTAT, TILE_CALFAC]

/-- The register families of block FAB (R420). -/
def fabFams : List RegFam :=
  [FAB_STAT, FAB_CLIPCNT, FAB_STREAMS, FAB_LINKUSE, FAB_OSET, FAB_XFPATH, FAB_XFCTL, FAB_XFSTAT, FAB_PSTAT0, FAB_PSTAT1, FAB_PCFG0, FAB_PCFG1] ++
  [FAB_PCFG2, FAB_PCFG3]

/-- The register families of block ISO (R420). -/
def isoFams : List RegFam :=
  [ISO_OSCCFG, ISO_CLEAR, ISO_STAT, ISO_SEEDSTAT, ISO_SLICECFG, ISO_SLICESTAT, ISO_LSEL, ISO_LSTAT, ISO_LTAP, ISO_PGOV, ISO_PSTAT, ISO_PUL] ++
  [ISO_LCFG]

/-- The register families of block SPW (R420). -/
def spwFams : List RegFam :=
  [SPW_GCFG, SPW_STAT, SPW_DROPCNT, SPW_CAPSTAT, SPW_PCFG, SPW_PRANGE, SPW_PDEST, SPW_PSTAT, SPW_OFFCFG, SPW_OFFSTAT, SPW_SNAPCFG0, SPW_SNAPCFG1] ++
  [SPW_SNAPCFG2, SPW_SNAPSTAT]

/-- The register families of block HIF (R421). -/
def hifFams : List RegFam :=
  [HIF_STAT, HIF_DISCARDCNT, HIF_DISCARDADDR, HIF_HBCFG, HIF_HBSTAT, HIF_VSTAT, HIF_VBEAT, CMD_BASE_LO, CMD_BASE_HI, CMD_CFG, CMD_STAT, CPL_BASE_LO] ++
  [CPL_BASE_HI, CPL_CFG, CPL_STAT, EVT_BASE_LO, EVT_BASE_HI, EVT_CFG, EVT_STAT, STR_BASE_LO, STR_BASE_HI, STR_CFG, STR_STAT, STR_DROPCNT] ++
  [HIF_EVMAP, HIF_EVOVF, MSIX_TABLE, MSIX_CTL, MSIX_PBA]

/-- The register families of block QLK (R421). -/
def qlkFams : List RegFam :=
  [QLK_LINKCFG, QLK_LINKSTAT, QLK_LINKDLY, QLK_LINKCRC, QLK_STACKSTAT, QLK_PAIRCFG, QLK_PAIRSTAT, QLK_EPOCH, QLK_MIRRORSEQ]

/-- The register families of block EXP (R421). -/
def expFams : List RegFam :=
  [EXP_CFG, EXP_SMAC0, EXP_SMAC1, EXP_DMAC0, EXP_DMAC1, EXP_SIP, EXP_DIP, EXP_UDP, EXP_DROPCNT, EXP_STAT]

/-- The register families of block MEA (R422). -/
def meaFams : List RegFam :=
  [MEA_STAT, MEA_WAKESTAT, MEA_UCFG, MEA_SEQ, MEA_CHCFG, MEA_CHFIR, MEA_CHDET, MEA_CHOUT, MEA_CHPEAK, MEA_CHRMS, MEA_CHENV, MEA_CHTS] ++
  [MEA_CHSTAT, MEA_CHKCTL, MEA_CHKSTAT, MEA_CMPCFG_P, MEA_CMPROUTE, MEA_CMPSTAT, MEA_CMPTS, MEA_CMPCFG_W, MEA_FIRCOEF]

/-- The register families of block CTE (R422). -/
def cteFams : List RegFam :=
  [CTE_STAT, CTE_RAILCFG, CTE_RAILSAFE, CTE_RAILSTAT, CTE_PSEED, CTE_TESTCFG, CTE_TESTFREQ, CTE_TESTSTAT, CTE_CAPTS, CTE_ISHARE, CTE_PULSE, CTE_SLOTCFG] ++
  [CTE_SLOTTIM, CTE_SLOTSP, CTE_SLOTUMIN, CTE_SLOTUMAX, CTE_SLOTCOEF, CTE_SLOTMAN, CTE_SLOTFE, CTE_SLOTSTAT, CTE_SLOTOUT, CTE_SLOTERR, CTE_CAPBUF]

/-- The register families of block PWM (R422). -/
def pwmFams : List RegFam :=
  [PWM_GCFG, PWM_GSTAT, PWM_PERNOW, PWM_PSYNC, PWM_PAIRPER, PWM_BLK, PWM_CHCFG, PWM_CHTRIP, PWM_CHSTAT, PWM_CHCMP]

/-- The register families of block RPS (R423). -/
def rpsFams : List RegFam :=
  [RPS_CFG, RPS_STAT, RPS_CAP, RPS_SHEDCFG, RPS_SHEDKEEP, RPS_PWR, RPS_SHEDSTAT, RPS_HOLD, RPS_MEAS0, RPS_STRCFG, RPS_STRSTAT, RPS_GAIN] ++
  [RPS_SEGCTL, RPS_DEVCFG, RPS_DEVSTAT, RPS_DEVRD]

/-- The register families of block FLT (R423). -/
def fltFams : List RegFam :=
  [FLT_STAT, FLT_DGCODE, FLT_CFG, FLT_CASCADE, FLT_MSGCNT, FLT_RECON, FLT_PEND, FLT_SBSTAT, FLT_SBLOST, FLT_SBCUR, FLT_SBCLEARS, FLT_SBWIN] ++
  [FLT_SBSEL]

/-- The register families of block PST (R423). -/
def pstFams : List RegFam :=
  [PST_STAT, PST_LOCKGEN, PST_KEYGEN, PST_CALSEQ, PST_LIM0, PST_LIM1, PST_LIM2, PST_CLAMP, PST_CLAMPCNT, PST_PGSEL, PST_PAGEFAIL, PST_WEARWARN] ++
  [PST_VOLATILE, PST_LOCKDIG, PST_PGDATA]

/-- The register families of block TIM (R423). -/
def timFams : List RegFam :=
  [TIM_FRAC, TIM_SEC_LO, TIM_SEC_HI, TIM_SET0, TIM_SET1, TIM_SET2, TIM_ALIGN, TIM_CFG, TIM_STAT, TIM_PPSERR, TIM_PTPOFS]

/-- The families of a block. -/
def famsOf : Blk → List RegFam
  | .glb => glbFams
  | .pwr => pwrFams
  | .clk => clkFams
  | .tile => tileFams
  | .fab => fabFams
  | .iso => isoFams
  | .spw => spwFams
  | .hif => hifFams
  | .qlk => qlkFams
  | .exp => expFams
  | .mea => meaFams
  | .cte => cteFams
  | .pwm => pwmFams
  | .rps => rpsFams
  | .flt => fltFams
  | .pst => pstFams
  | .tim => timFams

end Sys2Proof.Machine
end

