-- ==== Sys2Proof/Machine/State.lean ====
section
/-!
DEFINITION. Sys2Proof/Machine/State.lean: the machine's state as plain data, the reasons a command can stop, and the
state after power-on reset. Registers stand in `regs`, one home each; what the spec gives the machine beside its
registers stands in the records below, one per unit.
-/
namespace Sys2Proof.Machine
open Sys2Proof

/-- The unit a fault reaction acts on, which fixes what its shadow covers (R375, R427). -/
inductive Area where
  | none
  | port (n : Nat) | tile (t : Nat) | synth (q : Nat) | slice (c : Nat) | watch (w : Nat) | quarter (q : Nat)
  | qlink (l : Nat) | segment (s : Nat) | rail (r : Nat) | string (k : Nat) | domain (d : Nat) | dugout
  deriving DecidableEq, Repr, Inhabited

/-- An open reaction shadow and the tick at which it closes (R375). -/
structure Shadow where
  area : Area := .none
  till : Nat := 0
  deriving DecidableEq, Repr, Inhabited

/-- A report as the collector holds it (R368, R376, R389). -/
structure Report where
  src : Nat := 0
  code : Nat := 0
  cls : Nat := 0
  p0 : Nat := 0
  p1 : Nat := 0
  p2 : Nat := 0
  p3 : Nat := 0
  injected : Bool := false
  deriving DecidableEq, Repr, Inhabited

/-- A report that came from a covered source, and the unit its reaction would act on (R376, R377). -/
structure Withheld where
  rep : Report := {}
  area : Area := .none
  deriving DecidableEq, Repr, Inhabited

/-- A Scorebook record (R383). `opSec` and `opFrac` are the operating time of acceptance, `sealByte` is byte 11. The value an
unlisted cell holds is the empty record. -/
structure SbRec where
  code : Nat := 0xFFFF
  src : Nat := 0xFFFF
  opSec : Nat := 0xFFFFFFFF
  opFrac : Nat := 0xFFFF
  flags : Nat := 0xFF
  sealByte : Nat := 0xFF
  innings : Nat := 0xFFFFFFFF
  p0 : Nat := 0xFFFFFFFF
  p1 : Nat := 0xFFFFFFFF
  p2 : Nat := 0xFFFFFFFF
  p3 : Nat := 0xFFFFFFFF
  deriving DecidableEq, Repr, Inhabited

/-- The completion a command still owes: its completion ring, command ring, tag and the ring head after it. -/
structure Defer where
  cpl : Nat := 0
  ring : Nat := 0
  tag : Nat := 0
  head : Nat := 0
  deriving DecidableEq, Repr, Inhabited

/-- What the collector remembers of the informational and CORRECTED records of one source (R382). -/
structure SrcLog where
  last : Option Nat := none   -- operating time (1/65,536 s) of the last such record
  missed : Nat := 0           -- such reports not recorded since
  deriving DecidableEq, Repr, Inhabited

/-- Fault collection, Dugout and the Scorebook (R367-R391). -/
structure Flt where
  dugout : Bool := false
  dgSrc : Nat := 0
  dgCode : Nat := 0
  pageCheck : Bool := true            -- the page checks of R205 have not ended (R373)
  shadows : List Shadow := []         -- open reaction shadows, oldest first
  withheld : List Withheld := []      -- CONSEQUENT reports of a class whose sources are covered, oldest first (R377)
  seqs : Tab (Option Nat) := []       -- SEQ of the last message of each sending block (R369)
  buffer : List SbRec := []           -- records not yet flushed, oldest first (R384)
  flushN : Nat := 0                   -- records the running flush writes; 0: no flush runs
  flushAgain : Bool := false          -- another flush was called for while one runs
  flushAt : Option Nat := none        -- operating time (1/65,536 s) at which the buffer is flushed (R384)
  overRun : Bool := false             -- a run of lost reports is going on (R384)
  cells : Tab SbRec := []             -- the persistent cells; unlisted: empty
  next : Nat := 1                     -- the index written next
  full : Bool := false
  near : Bool := false
  clears : Nat := 0                   -- P0 of the marker
  clearing : Bool := false            -- a clear is running (R388)
  srcs : Tab SrcLog := []
  pfWindow : Option Nat := none       -- end of the 2 ms window after a fall of PWRFAIL_N (R385)
  pfClosed : Bool := false            -- the window has closed and PWRFAIL_N is still low
  flushCmds : List Defer := []        -- SB_FLUSH commands that wait
  deriving DecidableEq, Repr, Inhabited

/-- One background residual set of a unit: offset of core A and B, gain of core A and B, skew of core B, 8 taps, in the
encodings of CALFAC (R43, R50). -/
structure BgcSet where
  resid : List Int := []         -- 13 values; missing ones are zero
  trained : Bool := false
  conv : Bool := false
  beats : Nat := 0               -- consecutive beats whose updates have all been small
  deriving DecidableEq, Repr, Inhabited

/-- The bank settings of a port from a sub-band sample on (R62, R63, R73): prototype, SBSHIFT, N_RX. -/
structure BankSet where
  start : Nat := 0
  sharp : Bool := false
  shift : Nat := 4
  nRx : Nat := 16
  deriving DecidableEq, Repr, Inhabited

/-- A receive unit beside its registers: ports 0-95, and the observation receiver of tile t as unit 96 + t
(R31-R48, R428). -/
structure Unit where
  slotN : Nat := 0                               -- the next burst slot (R41)
  fifoA : List (Nat × List Int) := []            -- bursts that wait in the FIFO of core A: tag and 64 codes
  fifoB : List (Nat × List Int) := []
  gap : Bool := true                             -- the receive output is GAP for a cause of R428
  words : List Int := []                         -- merged words, newest first (R33)
  codes : List Int := []                         -- interleave-corrected codes of the latest slot (R158)
  gapSlots : List Nat := []                      -- recent slots marked GAP, newest first (R41, R428)
  spans : List (Nat × Nat) := []                 -- recent spans of samples marked GAP by an input switch, newest first (R48)
  history : List Nat := []                       -- ticks of the last 16 counted bubbles, newest first (R42)
  storms : List Nat := []                        -- ticks of the last storms, newest first
  stormFrom : Option Nat := none                 -- oldest bubble of a storm whose reaction a shadow withholds (R377)
  recalAt : Option Nat := none                   -- end of the 80 ms storm recalibration
  arcK : Nat := 0                                -- the running ARC interval (R36)
  arcMax : Option Nat := none                    -- largest raw code magnitude of the interval outside GAP groups
  quiet : Nat := 0                               -- quiet count q
  arcSkip : Bool := false                        -- a Volley range change fell in the interval (R40)
  atMaxBeat : Option Nat := none                 -- beat of the latest ARC_AT_MAX
  ovr : List Nat := []                           -- OVR groups of the running interval and after (R44)
  ovrBeat : Option Nat := none                   -- beat of the latest OVR group
  comp : List (Nat × Nat) := []                  -- compensation switches to come: index C, attenuation code (R38)
  compAtt : Nat := 0x3C                          -- attenuation code whose A_eff the compensation uses
  seams : List (Nat × Nat) := []                 -- recent compensation switches: index C, attenuation code (R39)
  atts : List (Nat × Nat) := []                  -- recent changes of the attenuation in effect: first index, code (R38, R48)
  attBase : Nat := 0x3C                          -- attenuation code before the oldest of them
  zeroFrom : Option Nat := none                  -- first of the 18 zeroed samples of a change in progress (R63)
  zeros : List Nat := []                         -- first samples of the latest such runs of 18, newest first (R63)
  banks : List BankSet := []                     -- bank settings by sample, newest first; empty: those in the registers (R63)
  lacks : List Nat := []                         -- samples whose token the canceller slice missed, newest first (R18)
  bgc : Tab BgcSet := []                         -- residual sets by temperature band
  rampS : Nat := 0                               -- mute ramp position at `rampAt` (R45)
  rampDir : Nat := 0                             -- 0 muted, 1 ramping up, 2 on, 3 ramping down
  rampAt : Nat := 0
  settleAt : Option Nat := none                  -- end of the ORx switch window (R48)
  satBeat : Option Nat := none                   -- beat of the latest SAT sample (R82)
  clipBeat : Option Nat := none                  -- beat of the latest limited DAC sample (R82)
  deriving DecidableEq, Repr, Inhabited

/-- Self-calibration (R49, R52, R396). -/
structure Cal where
  running : Bool := false
  startup : Bool := false          -- the start-up calibration
  waits : Bool := false            -- it waits for its tiles to reach SYNTH
  group : List Nat := []           -- tiles of the running group that have not ended
  rest : List Nat := []            -- selected tiles that wait
  endAt : Nat := 0
  fails : Nat := 0                 -- mask of failed tiles
  save : Bool := false
  saving : Bool := false
  cmd : Option Defer := none
  deriving DecidableEq, Repr, Inhabited

/-- A complex sub-band sample with its side flags (R64): bit 0 GAP, 1 SEAM, 2 OVR, 3 SAT; `sh` is the SBSHIFT it was formed with
(R63, R65). -/
structure Smp where
  i : Int := 0
  q : Int := 0
  f : Nat := 0
  sh : Nat := 0
  deriving DecidableEq, Repr, Inhabited

/-- The fade machine of one input stream (R76): mode 0 idle, 1 down, 2 up. -/
structure InFade where
  mode : Nat := 0
  j : Nat := 0
  deriving DecidableEq, Repr, Inhabited

/-- A weight of 40 steps that moves one step per sub-band sample (R76, R94, R181, R193): position `j` at tick `since`, towards
40 (weight 0) when `up`. -/
structure Fade where
  j : Nat := 0
  since : Nat := 0
  up : Bool := false
  deriving DecidableEq, Repr, Inhabited

/-- The record and output set a path runs with (R86, R87). -/
structure Route where
  w0 : Word := 0
  w1 : Word := 0
  w2 : Word := 0
  w3 : Word := 0
  o0 : Word := 0
  o1 : Word := 0
  o2 : Word := 0
  deriving DecidableEq, Repr, Inhabited

/-- What a path that has just been disabled still relays (R88, R91): the record and output set in force before, with their
latency, the fade machines of its run, gain and mute weight. -/
structure Tail where
  route : Route := {}
  nFront : Nat := 0
  run : Nat := 0
  gFrom : Int := 0
  gTo : Int := 0
  gSince : Nat := 0
  mute : Fade := {}
  till : Nat := 0                    -- tick from which nothing is relayed
  deriving DecidableEq, Repr, Inhabited

/-- A band path beside its record (R90-R104). Gains are in 0.05 dB. -/
structure Path where
  st : Nat := 0                      -- state code of R90
  held : Bool := false               -- held under R92
  gFrom : Int := 0                   -- applied gain at tick `gSince`, moving to `gTo` (R94)
  gTo : Int := 0
  gSince : Nat := 0
  limit : Nat := 0                   -- source that sets G_eff (R102)
  loop : Option Int := none          -- result of the bound loop slot (R96)
  mute : Fade := {}
  run : Nat := 0                     -- number of its run since it last left DISABLED: it names the run's fade machines
  tail : Option Tail := none         -- what a path just disabled still relays for 40 samples (R88, R91)
  nFront : Nat := 0
  nMin : Nat := 0
  nMax : Nat := 0
  clipBeat : Option Nat := none
  lostOn : List Nat := []            -- links whose loss has been reported (R98)
  deriving DecidableEq, Repr, Inhabited

/-- A crossfade entry beside its registers (R100): position `k` at tick `since`. -/
structure Xfade where
  k : Nat := 0
  since : Nat := 0
  deriving DecidableEq, Repr, Inhabited

/-- A sum over the running beat with its count, and the sums of the last 16 beats, newest first (R120, R121, R128). -/
structure Level where
  sum : Nat := 0
  cnt : Nat := 0
  past : List (Nat × Nat) := []
  deriving DecidableEq, Repr, Inhabited

/-- One synthesis frame of a port (R59): its index, and sub-band, I, Q of what it feeds. -/
structure Frame where
  idx : Nat := 0
  parts : List (Nat × Int × Int) := []
  deriving DecidableEq, Repr, Inhabited

/-- The sub-band data path and the band fabric (R56-R104). Streams are keyed by port · 1,024 + sub-band, with samples newest
first under their port-plane index. -/
structure Fab where
  paths : Tab Path := []
  xfs : Tab Xfade := []
  sampN : Nat := 0                         -- index of the next sub-band sample
  dead : List Nat := []                    -- quarters zeroed by an uncorrectable route error (R104)
  ins : Tab (List (Nat × Smp)) := []       -- victim streams after cancellation
  outs : Tab (List (Nat × Smp)) := []      -- output streams as delivered to synthesis (R107)
  runs : Nat := 0                          -- runs of paths begun
  fades : Tab InFade := []                 -- fades of input streams, by run, output quarter, input and stream (R76)
  outFades : Tab InFade := []              -- fades of crossings to synthesis (R77)
  inLevel : Tab Level := []                -- power of input streams after cancellation
  outLevel : Tab Level := []               -- power of output streams
  slips : List (Nat × Nat) := []           -- slips: island, beat in which samples carry GAP (R19)
  latDue : List (Nat × Bool) := []         -- ports whose latencies are due at the next beat boundary; 18 zeroed samples too (R73)
  remote : Tab (List (Nat × Smp)) := []    -- received link streams, keyed by (SID · 96 + port) · 1,024 + sub-band
  farRx : Tab Nat := []                    -- N_RX of the ports of other devices, by SID · 96 + port; unlisted 16 (R102)
  up : List Nat := []                      -- links whose streams run
  frames : Tab (List Frame) := []          -- latest synthesis frames of a port, newest first
  dac : Tab (List Int) := []               -- the latest 1,024 DAC samples of a port
  sends : List (Nat × Nat × Nat) := []     -- link streams this device sends: destination SID, port, sub-band (R97)
  freed : List (Nat × List (Nat × Nat × Nat)) := []  -- paths a crossfade has ended since the latest beat, with their remote streams (R97)
  deriving DecidableEq, Repr, Inhabited

/-- The running sums of one block of 256 samples of a link (R111), with the SBSHIFT its samples have. -/
structure LinkBlk where
  n : Nat := 0                         -- samples counted
  r : List (Int × Int) := []           -- Σ e · conj(y), by tap
  pe : Nat := 0
  py : Nat := 0
  shift : Nat := 0
  deriving DecidableEq, Repr, Inhabited

/-- A cancel link beside its register (R105-R113, R130). Taps are in units of 2^−30, `rhobar` in units of 2^−96. -/
structure Link where
  st : Nat := 0                        -- state code of R113
  taps : List (Int × Int) := []
  rhobar : Nat := 0
  updated : Bool := false
  quiet : Bool := false                -- REF_QUIET
  blocks : Tab LinkBlk := []               -- running sums by block index in the port plane
  hourFrom : Nat := 0                  -- operating time (1/65,536 s) from which the hour of R130 runs
  hourUpd : Bool := false              -- rhobar updated in that hour
  deriving DecidableEq, Repr, Inhabited

/-- Shutdown history of a path, kept in the always-on island (R118). Times in 1/65,536 s of operating time. -/
structure Hist where
  times : List Nat := []
  holdEnd : Option Nat := none
  lockout : Bool := false
  deriving DecidableEq, Repr, Inhabited

/-- The governor of a path (R112-R129). Limits and gains in 0.05 dB. -/
structure Gov where
  iso : Option Nat := none             -- ISO_b; none without an exposed stream
  decl : Bool := false                 -- ISO_b comes from ISO_DECL
  src : Nat := 7                       -- GOV_SRC
  cold : Option Int := none
  back : Option Int := none
  nr : Option Int := none
  squelched : Bool := false
  idle : Nat := 0                      -- consecutive beats without signal
  signal : Bool := false               -- a beat with signal has come while squelched
  causes : Nat := 0                    -- latched mute causes 0 and 2 (R122)
  training : Bool := false             -- cold start runs
  seeded : Bool := false               -- the running cold start is the seeded one
  seededShow : Bool := false           -- ISO_PSTAT.SEEDED
  good : Nat := 0                      -- block ends of a seeded start
  failed : Bool := false               -- H was below M_eff at one of them
  probe : Bool := false                -- the path carries probes
  entry : Nat := 0                     -- tick at which cold start began
  points : Nat := 0                    -- 10 ms points taken
  startGain : Int := 0
  limSince : Option Nat := none        -- tick since which the law limit has been below the cold-start limit
  gainLimited : Bool := false
  hrRun : Nat := 0                     -- consecutive block ends with low headroom
  m0 : Nat := 0                        -- tick of detection
  steps : Nat := 0                     -- 100 µs points taken
  clearAt : Option Nat := none         -- tick since which no condition of R116 has held
  relAt : Nat := 0                     -- tick from which the 10 ms release points run
  relN : Nat := 0
  combRun : Nat := 0
  combQ : Nat × Nat := (0, 1)          -- Q of the latest transform as a ratio
  combHi : Bool := false               -- its Q is above COMB_THR
  prbs : Tab Nat := []                 -- probe register of stream i
  deriving DecidableEq, Repr, Inhabited

/-- Loop isolation (R105-R135). -/
structure Iso where
  links : Tab Link := []
  hist : Tab Hist := []
  govs : Tab Gov := []
  viol : Tab (Option Nat) := []        -- tick of the first declaration of the violation that persists on a port (R125)
  blockN : Nat := 0                    -- blocks of 256 samples ended
  lost : List Nat := []                -- slices lost and not yet reloaded (R113)
  deriving DecidableEq, Repr, Inhabited

/-- The settings the data path had at sub-band sample `n` (R23): a sample is processed, wherever it is in the pipeline, with the
settings in force at its port-plane time. -/
structure Past where
  n : Nat := 0
  regs : Regs := {}
  paths : Tab Path := []
  xfs : Tab Xfade := []
  links : Tab Link := []
  govs : Tab Gov := []
  deriving DecidableEq, Repr, Inhabited

/-- Statistics of one sub-band over the running integration (R140-R146): per bin the power sums, in units of 2^−32 of
|X|². -/
structure SbStat where
  nP : Nat := 0             -- M_P
  nK : Nat := 0             -- M_K
  flags : Nat := 0
  exc : Nat := 0
  zsum : Nat := 0            -- Σ |z|² over the power transforms
  s1 : List Nat := []
  s1k : List Nat := []
  s2 : List Nat := []
  pk : List Nat := []
  deriving DecidableEq, Repr, Inhabited

/-- What excision needs of the last completed integration of a sub-band (R146): a HIGH bin, and Psb as a ratio. -/
structure SbLast where
  high : Bool := false
  num : Nat := 0
  den : Nat := 1
  deriving DecidableEq, Repr, Inhabited

/-- The watch of one port (R136-R154). -/
structure Watch where
  tj : Nat := 0                        -- next transform
  j0 : Nat := 0                        -- first transform of the running integration
  cnt : Nat := 0                       -- transforms in it
  part : Bool := true                  -- it is PARTIAL
  nextPart : Bool := false             -- so is the next one (R142)
  coarse : Bool := false               -- coarsening in force for it
  lost : Bool := false                 -- the slice is lost and restarts at the next beat boundary
  cfg : Word := 0                      -- SPW_PCFG of the running integration
  range : Word := 0                    -- SPW_PRANGE of the running integration
  cutAt : Option Nat := none           -- sample from which no transform belongs to it (R141)
  seq : Nat := 0
  sb : Tab SbStat := []
  last : Tab SbLast := []
  lacks : List Nat := []               -- samples whose token the watch slice missed, newest first (R18)
  out : List (List Nat) := []          -- product records to hand over, in increasing k
  handAt : Nat := 0
  deriving DecidableEq, Repr, Inhabited

/-- A snapshot slot beside its registers (R155-R160): what its region of capture memory holds, newest first. -/
structure Snap where
  raw : List (Nat × List Int × List Nat) := []   -- slot of 128 samples, codes, group nibbles
  sub : List (Nat × List Smp) := []              -- sample index, W samples
  trig : Nat := 0                                -- trigger index
  endAt : Nat := 0                               -- index of the last sample taken
  missBeat : Option Nat := none
  seq : Nat := 0
  from_ : Nat := 0                               -- first sample it may record (R156)
  seams : List (Nat × Nat) := []                 -- range changes while it records, newest first: index C, code (R160)
  atts : List (Nat × Nat) := []                  -- every attenuation change while it records, newest first: first index, code
  att : Nat := 0x3C                              -- attenuation code at the first sample it may record
  deriving DecidableEq, Repr, Inhabited

/-- A dwell of the Offside detector (R161). -/
structure Dwell where
  start : Nat := 0             -- beat
  next : Nat := 0              -- next sub-band sample to account
  n : Nat := 0                 -- samples without GAP
  sums : Tab Nat := []         -- Σ|z|² over them, by sub-band
  deriving DecidableEq, Repr, Inhabited

/-- The spectrum watch (R136-R167). -/
structure Spw where
  ports : Tab Watch := []
  snaps : Tab Snap := []
  dwells : Tab Dwell := []
  dropBeats : Tab (Option Nat) := []   -- beat of the latest dropped product, by slice (R167)
  deriving DecidableEq, Repr, Inhabited

/-- A step of the device or of a tile between radio states (R169). -/
structure Step where
  active : Bool := false
  goal : Nat := 1
  begin_ : Nat := 0          -- tick at which the step starts
  endAt : Nat := 0
  follow : Bool := false     -- a tile that moves with the device's step
  biased : Bool := false     -- step to RELAY: PA_BIAS_EN has risen
  deriving DecidableEq, Repr, Inhabited

/-- The power amplifier sequencer of a port (R178, R179). -/
structure Pa where
  bias : Bool := false       -- level of PA_BIAS_EN
  en : Bool := false         -- level of PA_EN
  enAt : Option Nat := none  -- tick at which PA_EN rises
  offAt : Option Nat := none -- tick at which PA_BIAS_EN falls
  again : Bool := false      -- an up sequence waits for the down sequence to end
  hard : Bool := false       -- the PA_FLT_N source of R46 is active
  deriving DecidableEq, Repr, Inhabited

/-- A synthesizer (R174-R176). -/
structure Synth where
  cald : Bool := false       -- calibrated since VAUX became valid
  temp : Int := 0            -- temperature of its quadrant, 1/128 °C
  calTemp : Int := 0         -- the same when it was last calibrated
  picked : Bool := false     -- selected by SYNTH_CAL
  want : Bool := false       -- its tiles are held for a calibration
  calEnd : Option Nat := none
  holdTill : Nat := 0        -- the beat boundary from which the tiles return
  cmd : Option Defer := none -- the SYNTH_CAL command this synthesizer's calibration belongs to
  deriving DecidableEq, Repr, Inhabited

/-- A quiet entry (R181-R184). -/
structure Quiet where
  req : Bool := false        -- request wire
  gnt : Bool := false        -- grant wire
  on : Bool := false         -- the entry quiets its sub-bands
  since : Nat := 0           -- tick at which quieting started
  tmoAt : Option Nat := none -- tick at which TIMEOUT ends
  deriving DecidableEq, Repr, Inhabited

/-- Radio control (R168-R186). -/
structure Radio where
  dev : Step := {}
  tiles : Tab Step := []
  pas : Tab Pa := []
  synths : Tab Synth := []
  quiets : Tab Quiet := []
  fades : Tab Fade := []       -- quiet weight of output pair port · 1,024 + sub-band
  blindCap : List Nat := []    -- tiles capped at RECEIVE because no sensor works (R354)
  coldCap : List Nat := []     -- tiles capped at STANDBY by COLD_LIM (R359)
  promoteCap : Bool := false   -- the forced cap of R269 / R274
  unpinned : List Nat := []    -- islands that came on alone and wait to be pinned at the next beat boundary
  slipped : Tab Nat := []      -- islands with a slip that wait for a re-pin, with its tick (R19)
  aligned : Bool := false      -- an alignment pulse has come since the last reset (R21)
  deriving DecidableEq, Repr, Inhabited

/-- A persistent page as its cells hold it: bytes 0-251 and the check word (R187). -/
structure Page where
  bytes : List Nat := []
  check : Nat := 0
  deriving DecidableEq, Repr, Inhabited

/-- What a calibration bank says (R206). -/
structure Bank where
  good : Bool := false           -- magic, CRC-32C and complement are good
  seq : Nat := 0
  innings : Nat := 0
  seconds : Nat := 0
  fac : List Word := []          -- CALFAC of tiles 0-15, 256 words each
  resid : Tab (List Int) := []   -- residual sets by unit · 8 + band
  deriving DecidableEq, Repr, Inhabited

/-- A coupling-seed record (R130), field by field; `good` says that its CRC-32C holds. Taps are mantissas. -/
structure Seed where
  good : Bool := false
  key : Nat := 0                 -- ISO_LCFG bits [26:0] and the slice
  sec : Nat := 0                 -- device time seconds, low 32 bits
  band : Nat := 0
  valid : Bool := false          -- device time was valid
  exp : Nat := 0
  shift : Nat := 0
  iso : Nat := 0                 -- 0.05 dB
  innings : Nat := 0
  taps : List (Int × Int) := []
  deriving DecidableEq, Repr, Inhabited

/-- A slot of the coupling-seed region (R130): its 128 bytes, none before the first write, and the operating time at which it
was last written. -/
structure SeedSlot where
  bytes : List Nat := []
  at_ : Nat := 0
  deriving DecidableEq, Repr, Inhabited

/-- An outstanding nonce (R196). -/
structure Nonce where
  bytes : List Nat := []
  issued : Nat := 0              -- operating time of issue, 1/65,536 s
  deriving DecidableEq, Repr, Inhabited

/-- A queued page commit of a persistent register (R202). -/
structure Commit where
  page : Nat := 0
  value : Nat := 0
  count : Nat := 0
  kept : Bool := false           -- its BAR0 write completed before a fall of PWRFAIL_N (R204)
  deriving DecidableEq, Repr, Inhabited

/-- The persistent store (R187-R209). `locked` is the content in force of the pages only a signed change or start-up
alters, 0 to 97 (unlisted: factory content); `cells` is what the cells of every page hold. -/
structure Pst where
  locked : Tab (List Nat) := []
  cells : Tab (Option Page) := []
  counts : Tab Nat := []             -- write counters by persistent register
  queue : List Commit := []          -- page commits that wait, oldest first
  lowPf : Bool := false              -- PWRFAIL_N is low
  nonce : Option Nonce := none
  nonces : Nat := 0                  -- nonces issued since VAUX became valid
  opBase : Nat := 0                  -- operating seconds when VAUX became valid
  opCells : Tab (List Nat) := []     -- operating-time cells of 8 bytes; unlisted: never written (R208)
  opNext : Nat := 0                  -- next cell
  opAt : Nat := 0                    -- operating second of the latest cell write
  banks : Tab (List Nat) := []       -- bytes of the calibration banks, 0: A, 1: B; unlisted: blank
  seeds : Tab SeedSlot := []
  seedBusy : List (Nat × SeedSlot) := [] -- seed slots being written, with what they will hold
  epochSeeds : List Seed := []       -- taps of an epoch presented to cold start (R274)
  gateSums : Tab Nat := []           -- Σ|Z|² of the running block of an output pair, after the gate (R193)
  gates : Tab Nat := []              -- gate attenuation −a of output pair port · 1,024 + sub-band, in 0.05 dB
  gateFades : Tab Fade := []         -- bitmap fades of step 1 of R193
  innings : Nat := 0                 -- persisted Innings
  deriving DecidableEq, Repr, Inhabited

/-- A completion entry as written to host memory (R221). -/
structure CplEntry where
  tag : Nat := 0
  status : Nat := 0
  ring : Nat := 0
  slot : Nat := 0
  volley : Bool := false
  phase : Bool := false
  head : Nat := 0
  result : Nat := 0
  deriving DecidableEq, Repr, Inhabited

/-- An event entry as written to host memory (R222). -/
structure EvtEntry where
  code : Nat := 0
  src : Nat := 0
  flags : Nat := 0        -- byte 4: class, CONSEQUENT, SUMMARY, PHASE
  seq : Nat := 0
  frac : Nat := 0
  sec : Nat := 0
  p0 : Nat := 0
  p1 : Nat := 0
  p2 : Nat := 0
  p3 : Nat := 0
  deriving DecidableEq, Repr, Inhabited

/-- A stream entry: the buffer the host posted (address, length) and what the MQ96 wrote back (R223). -/
structure StrEntry where
  addr : Nat := 0
  len : Nat := 0
  written : Nat := 0
  kind : Nat := 0
  flags : Nat := 0
  seq : Nat := 0
  drops : Nat := 0
  data : List Nat := []   -- bytes written to the buffer
  deriving DecidableEq, Repr, Inhabited

/-- What the MQ96 keeps of one ring beside its registers (R214-R219, R244). `other` is the index the host last announced
(command and stream tail, completion and event head). -/
structure Ring where
  other : Nat := 0
  badBase : Bool := false         -- bits [11:0] of the last BASE_LO written were not 0 (R215)
  pass : Nat := 0                 -- wraps of the producer index since enable (PHASE)
  reserved : Nat := 0             -- completion slots reserved
  seq : Nat := 0                  -- event or record sequence
  unsig : Nat := 0                -- entries not yet signalled
  sigAt : Option Nat := none      -- tick at which ITIME expires
  drain : Option Nat := none      -- a Volley that is consumed up to its COMMIT for want of a slot: tag of its BEGIN
  servedAt : Nat := 0             -- tick at which the ring was last served
  held : Bool := false            -- the descriptor in turn is a COMMIT that waits for a Volley of the ring in VALIDATING (R216)
  drops : Nat := 0                -- records dropped since the previous record started
  dropSince : Bool := false       -- DROP_BEFORE is due on the next record
  dropBeat : Option Nat := none   -- beat of the latest dropped record
  deriving DecidableEq, Repr, Inhabited

/-- A change record of R195 as the MQ96 holds it: its raw bytes. -/
abbrev RecBytes := List Nat

/-- One member of a Volley (R224): the device it addresses, the offset of its first register, its words; for a
LOCK_CHANGE the record. -/
structure Member where
  sid : Nat := 0
  off : Nat := 0
  words : List Word := []
  lock : Option RecBytes := none
  bad : Bool := false          -- a byte the opcode does not define was not 0 (R220)
  deriving DecidableEq, Repr, Inhabited

/-- Apply mode of a COMMIT (R220, R226). -/
inductive ApplyMode where
  | earliest | beat | time | reserved
  deriving DecidableEq, Repr, Inhabited

/-- The states of a Volley slot (R227). -/
inductive VState where
  | free | opened | validating | staged
  deriving DecidableEq, Repr, Inhabited

/-- A Volley slot (R225-R231). -/
structure Slot where
  st : VState := .free
  ring : Nat := 0
  cpl : Nat := 0                    -- completion ring its slot is reserved in
  tag : Nat := 0                    -- tag of the BEGIN
  cTag : Nat := 0                   -- tag of the COMMIT
  cHead : Nat := 0                  -- command ring head after the COMMIT
  stack : Bool := false
  prot : Bool := false
  flagErr : Bool := false           -- a BEGIN byte the opcode does not define was not 0
  members : List Member := []
  bytes : Nat := 0                  -- staged size S
  tooLarge : Bool := false          -- a limit of R225 was passed
  mode : ApplyMode := .earliest
  nextBeat : Bool := false          -- LATE_POL
  given : Nat := 0                  -- beat index, or device time in units of 2^-32 s
  fBeat : Nat := 0                  -- F
  beat : Nat := 0                   -- apply beat A
  order : Nat := 0                  -- order of COMMIT
  early : Option Nat := none         -- status of rows 1-7 of R197, checked at COMMIT
  sealedAt : Option Nat := none     -- page 98 sealed (R199)
  applied : Bool := false           -- applied, completion outstanding (protected Volley)
  answers : Tab (Option Nat) := []  -- stack Volley: READY (0) or status by SID
  goSent : Bool := false
  acks : Tab Bool := []
  send : List (Nat × Nat × Nat) := []   -- link streams this device sends once it applies (R97)
  deriving DecidableEq, Repr, Inhabited

/-- A snapshot or Scorebook copy that is being handed over (R236): `done` of its bytes have been written. -/
structure Waiting where
  ring : Bool := true       -- true: stream ring, false: export port
  dest : Nat := 0
  kind : Nat := 0           -- record type (R223)
  bytes : List Nat := []
  done : Nat := 0
  slot : Option Nat := none -- snapshot slot
  since : Nat := 0          -- tick of the latest progress
  cmd : Option Defer := none -- the SB_COPY command that completes at hand-over
  deriving DecidableEq, Repr, Inhabited

/-- One export port (R238-R240): `queue` is the transmit buffer, each frame whole up to its frame
check sequence; `wire` is the frame that left last. -/
structure Export where
  link : Bool := false
  paused : Bool := false
  queue : List (List Nat) := []
  tailWaits : Bool := false -- the frame that entered last is one of a waiting record
  wire : List Nat := []
  recSeq : Nat := 0
  frameSeq : Nat := 0
  drops : Nat := 0          -- records dropped since the previous record started
  dropBeat : Option Nat := none
  sent : Nat := 0           -- frames transmitted
  deriving DecidableEq, Repr, Inhabited

/-- The host interface (R211-R247). -/
structure Hif where
  masterEn : Bool := false
  linkUp : Bool := false
  linkReady : Bool := false            -- the endpoint is ready for link training (R392)
  gen : Nat := 0
  width : Nat := 0
  armed : Bool := false                -- heartbeat supervision
  lost : Bool := false
  beatSince : Bool := false            -- a heartbeat has arrived since the loss
  misses : Nat := 0
  hbAt : Nat := 0                      -- tick of the latest heartbeat
  rings : Tab Ring := []               -- kind · 64 + index
  cpl : Tab CplEntry := []             -- host memory written: ring · 65,536 + index
  evt : Tab EvtEntry := []
  str : Tab StrEntry := []
  slots : Tab Slot := []
  orderNext : Nat := 0
  msi : Tab Nat := []                  -- interrupts issued, by vector
  waiting : List Waiting := []
  exports : Tab Export := []
  nonceMem : List (Nat × List Nat) := [] -- nonces written to host memory: address, bytes (latest first)
  deriving DecidableEq, Repr, Inhabited

/-- Messages sent over the Quirov links beside streams (R97, R231, R250, R258, R266-R276). -/
inductive QKind where
  | prepare | ready | go | abort | ack | dugout | relinquish | swap | mirror | epoch | resync | gridMark | identity | token | release
  deriving DecidableEq, Repr, Inhabited

/-- A message handed to a link, with the numbers it carries. -/
structure QMsg where
  link : Nat := 0
  kind : QKind := .dugout
  data : List Nat := []
  deriving DecidableEq, Repr, Inhabited

/-- A control or bulk flit: its pool, its sequence, the message it is part of, and whether it is the last of it (R252-R254). -/
structure QFlit where
  pool : Nat := 1
  seq : Nat := 0
  msg : QMsg := {}
  last : Bool := true
  deriving DecidableEq, Repr, Inhabited

/-- A Quirov link beside its registers (R253-R256). -/
structure QLink where
  timer : Option Nat := none     -- end of the 100 ms to lock
  retry : Option Nat := none     -- end of the 10 ms after a training timeout
  transit : Nat := 0             -- TRANSIT as measured at the latest entry to ALIGNING
  fails : Nat := 0               -- failed flits in a row
  hand : Tab Nat := []           -- credits in hand, by pool
  wait : Tab (List QFlit) := []  -- control and bulk flits that wait for a credit, by pool, oldest first
  seq : Nat := 0                 -- sequence of the next flit (R252)
  got : Nat := 0                 -- sequence of the latest good control or bulk flit received, which it acknowledges
  sent : List QFlit := []        -- control and bulk flits not acknowledged, oldest first (R254)
  wire : List QFlit := []        -- control and bulk flits as transmitted since the link came up, oldest first
  stalled : Bool := false        -- a stream flit was not sent for want of a credit (R253)
  deriving DecidableEq, Repr, Inhabited

/-- Stacks and pairs (R248-R279). -/
structure Qlk where
  links : Tab QLink := []
  out : List QMsg := []          -- messages whose last flit has been transmitted, oldest first
  flits : Tab (List Nat) := []   -- latest flit of each stream sent, by (SID · 96 + port) · 1,024 + sub-band (R252)
  waits : Bool := false          -- a member at SYNTH waits for the master's pulse or a grid mark (R258)
  tokenAt : Nat := 0             -- tick of the latest beat token
  orphan : Bool := false         -- the master has been declared lost (R266)
  resyncDue : Bool := false      -- the next beat token asks every device to send its configuration (R276)
  alignTill : Nat := 0           -- tick at which ALIGN_OUT falls (R257)
  realignAt : Option Nat := none -- beat boundary of an alignment pulse that STACK_REALIGN asked for
  dugSent : Bool := false        -- a master has sent DUGOUT for the Dugout it is in
  gone : Bool := false           -- RELINQUISH has been sent for the Dugout it is in
  swap : Option Defer := none    -- PAIR_SWAP of its own that is unanswered
  mirrors : List (Nat × List (Nat × Word)) := []   -- whole mirrors that wait: sequence, offsets and values
  epochAt : Option Nat := none   -- tick of the latest epoch taken
  taken : Option Epoch := none   -- the latest epoch taken
  held : Option Epoch := none    -- the last complete epoch received
  promoAt : Option Nat := none   -- P (R274)
  liftAt : Option Nat := none    -- P + 100 µs
  downAt : Option Nat := none    -- tick at which link 3 went down
  peers : Tab (Tab Word) := []   -- FAB registers of the other devices as the master's stack Volleys have set them, by SID (R97)
  peerLocks : Option (List Word) := none   -- PST_LOCKDIG of the peer as last received
  deriving DecidableEq, Repr, Inhabited

/-- Device time (R260-R265): `base`, in units of 2^-32 s, was the device time at tick `since`. -/
structure Tim where
  run : Bool := false            -- the count has started
  base : Nat := 0
  since : Nat := 0
  armed : Option Nat := none     -- latched new time of an armed set
  setNow : Bool := false
  armAt : Nat := 0               -- tick at which the write of ARM completed
  step : Option Int := none      -- offset, ns, that a PTP step removes
  stepNow : Bool := false
  big : Nat := 0                 -- Sync messages in a row with an offset above 1 µs
  pps : Option (Nat × Nat) := none   -- latest PPS_IN edge: tick and device time
  outTill : Nat := 0             -- tick at which PPS_OUT falls
  deriving DecidableEq, Repr, Inhabited

/-- A housekeeping converter unit (R280-R284). -/
structure HkUnit where
  idx : Nat := 0             -- next entry of its sequence table
  due : Nat := 0             -- tick of its next conversion
  bad : Nat := 0             -- failed checks in a row
  n : Nat := 0               -- conversions since the latest check (R283)
  deriving DecidableEq, Repr, Inhabited

/-- A filter channel beside its registers (R285-R291). -/
structure Chan where
  n : Nat := 0                     -- samples entered since settling started
  hist : List (Nat × Nat) := []    -- newest first: code, sampling instant (device time, 2^-32 s)
  outs : List Int := []            -- the last outputs, newest first
  env : Int := 0                   -- envelope, 2^-24 code
  stamp : Nat := 0                 -- stamp of the latest output
  outTag : Nat := 0                -- tag of the newest sample in the latest output (R308)
  raw : Nat := 0                   -- latest raw result before the dither is removed
  same : Nat := 0                  -- consecutive equal raw results
  deriving DecidableEq, Repr, Inhabited

/-- A comparator check that runs (R299). -/
structure Check where
  cmp : Nat := 0
  kind : Nat := 0
  go : Bool := false               -- started by a write of GO
  tie : Bool := false
  swap : Bool := false
  read : Bool := false
  endAt : Nat := 0
  deriving DecidableEq, Repr, Inhabited

/-- The measurement chain (R280-R305). -/
structure Mea where
  corrected : Bool := false        -- R284 has ended
  turn : Nat := 0                  -- table a unit that runs both converts next
  units : Tab HkUnit := []
  chans : Tab Chan := []
  out : List Nat := []             -- comparators out of service
  found : Tab Nat := []            -- RESULT of the check that took a comparator out of service
  hold : Tab Nat := []             -- tick until which the state of a comparator is held (R294)
  check : Option Check := none
  waiting : List Nat := []         -- start-up READBACK checks still to run
  autoNext : Nat := 0              -- comparator the next automatic check starts from
  autoAt : Nat := 0                -- tick of the latest automatic check
  onAt : Nat := 0                  -- tick at which domain 74 came on
  deriving DecidableEq, Repr, Inhabited

/-- A loop slot beside its registers (R306-R320). -/
structure CSlot where
  before : Nat := 0                -- RUN before the slot was held
  u1 : Int := 0
  u2 : Int := 0
  e1 : Int := 0
  e2 : Int := 0
  y1 : Int := 0
  integ : Int := 0
  coef : List Int := []            -- the five coefficients in use
  armed : Bool := false            -- the armed trip group has asserted
  rSp : Int := 0                   -- last set-point used
  tagAt : Nat := 0                 -- tick of the last new tag
  lost : Bool := false             -- held by feedback loss
  safe : Bool := false             -- RAIL: stays at SAFE_DUTY
  leave : Bool := false            -- RAIL: MODE has been written 0 since
  shedAt : Option Nat := none      -- RAIL: tick at which the rail sheds
  fe : Nat := 0                    -- executions in a row with a large error
  due : Nat := 0                   -- tick of the next execution
  wasSettled : Bool := false       -- its feedback channel has been settled
  deriving DecidableEq, Repr, Inhabited

/-- The control engine (R306-R322). -/
structure Cte where
  slots : Tab CSlot := []
  ishRaw : Nat := 0
  ishSame : Nat := 0
  ishAt : Nat := 0                 -- tick of the latest ISHARE_IN sample
  phase : Nat := 0                 -- test phase, 2^-32 cycle
  prbs : Nat := 1
  missBeat : Tab (Option Nat) := []   -- beat of the latest missed deadline, by slot
  deriving DecidableEq, Repr, Inhabited

/-- A PWM channel beside its registers (R323-R326). -/
structure PwmCh where
  start : Nat := 0                 -- tick of the running period's start
  due : Nat := 0                   -- tick of the next period start
  per : Nat := 0                   -- T of the running period, steps
  form : Nat := 0                  -- 0 low, 1 high, 2 pulse
  trip : Bool := false             -- a trip holds the outputs low
  held : Bool := false             -- guard hold until the next period start
  tripBeat : Option Nat := none
  deriving DecidableEq, Repr, Inhabited

/-- The PWM (R323-R332). -/
structure Pwm where
  chans : Tab PwmCh := []
  groups : Nat := 0                -- trip groups asserted
  guard : List Nat := []           -- rails held by their overshoot guard
  ovBeat : Tab (Option Nat) := []  -- beat of the latest hold, by rail
  freq : Nat := 838860800000       -- rail frequency, 2^-20 Hz
  goal : Nat := 838860800000       -- frequency it moves to
  stepAt : Nat := 0                -- tick of the latest frequency step
  edge : Option Nat := none        -- tick of the latest PSYNC_IN edge
  pers : List Nat := []            -- latest PSYNC_IN periods, steps, newest first
  pulse : Int := 0                 -- pulse value
  deriving DecidableEq, Repr, Inhabited

/-- A PMBus device beside its registers (R335, R336). -/
structure PmDev where
  misses : Nat := 0
  imbal : Nat := 0
  first : Bool := false            -- it has answered an alert
  sentOn : Option Bool := none
  sentV : Option Nat := none
  deriving DecidableEq, Repr, Inhabited

/-- Rack power (R334-R350). Powers are in units of 2^-20 pW. -/
structure Rps where
  devs : Tab PmDev := []
  pollAt : Nat := 0                -- tick of the latest poll
  enabling : Bool := false         -- EN has been written 1; the next poll starts the rack logic
  slowAt : Option Nat := none      -- 200 µs after the take-over
  retSince : Option Nat := none    -- bus slot at UMIN since
  eodSince : Tab (Option Nat) := []
  ready : Bool := false            -- HOLD_READY as last seen
  shedAt : Nat := 0                -- tick of the latest evaluation of the ladder
  slices : Nat := 0                -- watch slices shed
  ladder : Nat × Nat × Nat := (0, 20, 10)   -- KEEP, DL_MAX, UL_MAX the ladder is built from
  dr : Tab Int := []               -- D_r by rung
  advanced : Option Int := none    -- m at the evaluation that advanced
  room : Option Nat := none        -- tick since which m has held the retreat margin
  dlNow : Nat := 0                 -- reductions in force since the latest beat boundary, dB
  ulNow : Nat := 0
  deriving DecidableEq, Repr, Inhabited

/-- A temperature sensor (R351-R356). Temperatures are in 1/128 °C. -/
structure Sensor where
  t : Option Int := none           -- reading of the latest scan
  suspect : Bool := false
  bads : Nat := 0                  -- consecutive suspect scans
  goods : Nat := 0                 -- consecutive scans not suspect while broken
  broken : Bool := false
  hist : List Int := []            -- readings of the last 64 scans in a row at which it was working, newest first
  rate : Bool := false
  deriving DecidableEq, Repr, Inhabited

/-- Temperature and throttling (R351-R360). -/
structure Therm where
  scan : Nat := 0                  -- scans done since domain 74 came on
  sensors : Tab Sensor := []
  quad : Tab Int := []             -- quadrant temperature last derived
  tile : Tab Int := []             -- tile temperature last derived
  bands : Tab Nat := []            -- band of a tile from the next beat boundary
  single : Bool := false           -- one working sensor reads 118 °C or more
  hot : Int := 0                   -- T_hot last derived
  none_ : Bool := false            -- no sensor works
  base : Int := 0                  -- B, 2^-20 pW
  stepAt : Option Nat := none      -- tick of the latest rise of n
  relAt : Option Nat := none       -- tick from which the release counts
  down : Option Nat := none        -- thermal shutdown: main rails ramped down so far
  downAt : Nat := 0                -- end of the ramp down in progress
  deriving DecidableEq, Repr, Inhabited

/-- A power domain beside its bits (R361-R363): the end of a ramp, and the moment its switch opens. -/
structure Dom where
  ramp : Option Nat := none
  off : Option Nat := none
  unseen : Bool := false           -- its failure was reported while covered
  deriving DecidableEq, Repr, Inhabited

/-- What level a bank of the control I/O has detected: 1.8 V, 3.3 V, or neither (R405). -/
inductive IoLevel where
  | v18 | v33 | bad
  deriving DecidableEq, Repr, Inhabited

/-- Start-up and reset (R392-R399). -/
structure Boot where
  io : List IoLevel := List.replicate 8 .v33   -- levels of IOB0 to IOB7 (R405)
  island : Bool := false           -- the page checks have ended
  rail : Option Nat := none        -- position in the rail order of the rail that ramps
  step : Nat := 0                  -- set-point steps written on it
  rampAt : Nat := 0                -- tick of the latest step
  good : List Nat := []            -- rails that are good
  downAt : Option Nat := none      -- end of the next ramp down of a failed or reset rail-up
  failed : Bool := false           -- rail-up has failed: SLEEP until a wake source
  wakeAt : Option Nat := none      -- tick of the wake that the rail-up in progress answers
  regrid : Bool := true            -- the beat grid starts at the next entry to STANDBY (R395)
  loading : Bool := false          -- a firmware image is being read
  loadAt : Nat := 0                -- tick at which reading, then verification, started
  image : Bool := false            -- an image has been read and waits for verification
  sec : Nat := 0                   -- its security version
  fromHost : Bool := false
  secMax : Nat := 0                -- highest security version accepted
  resetKind : Nat := 0             -- reset in progress: 1 PIN, 2 DEVICE, 3 RADIO
  resetAt : Option Nat := none
  powerUp : Bool := false          -- POWER_UP waits for the end of a Scorebook clear (R385)
  perst : Bool := false            -- PERST_N is high
  asleep : Bool := false           -- the device has entered SLEEP and not yet reached STANDBY (R169, R297)
  dark : Bool := false             -- VAUX is below its valid level
  deriving DecidableEq, Repr, Inhabited

/-- The state of the MQ96. -/
structure State where
  part : Variant := .mq96_1A
  now : Nat := 0                   -- model time, ticks of 1/1,024 ns
  vauxAt : Nat := 0                -- tick at which VAUX became valid
  align : Nat := 0                 -- tick of the latest alignment pulse: origin of the beat grid
  pending : List Instr := []       -- commands that wait, first in first out
  free : Nat := 0                  -- how many free values have been drawn
  latch : Bool := false            -- the thermal shutdown latch (R360)
  regs : Regs := {}
  flt : Flt := {}
  hif : Hif := {}
  units : Tab Unit := []
  cal : Cal := {}
  fab : Fab := {}
  past : List Past := []           -- settings at the latest sub-band samples, newest first (R23)
  iso : Iso := {}
  spw : Spw := {}
  radio : Radio := {}
  pst : Pst := {}
  qlk : Qlk := {}
  tim : Tim := {}
  mea : Mea := {}
  cte : Cte := {}
  pwm : Pwm := {}
  rps : Rps := {}
  therm : Therm := {}
  doms : Tab Dom := []
  boot : Boot := {}
  deriving DecidableEq, Repr, Inhabited

/-- Why a command can stop the model. -/
inductive Fault where
  /-- Raised by a BAR0 write whose offset lies beyond BAR0, an address that does not exist (R6, R417): no host bridge sends it to
  the MQ96. Safe. -/
  | outsideBar0
  deriving DecidableEq, Repr

/-- Why a command can be refused by the model. -/
inductive Refusal where
  /-- Raised by Dispatch for a command without a meaning. Safe. -/
  | notModelled (mnemonic : String)
  deriving DecidableEq, Repr

/-- The machine at tick `t`, the moment VAUX becomes valid, with the store as delivered (R392, R398). -/
def State.blank (t : Nat) : State :=
  { now := t, vauxAt := t, align := t
    flt := { cells := [(0, { code := 0x0B0D, src := 379, opSec := 0, opFrac := 0, flags := 0, sealByte := 0x5C, innings := 0
                             p0 := 0, p1 := 0, p2 := 0, p3 := 0 })] }
    hif := { hbAt := t }, tim := { since := t }, mea := { autoAt := t, onAt := t }, cte := { ishAt := t }
    rps := { pollAt := t, shedAt := t } }

/-- The machine right after power-on reset. Model time starts at 2^96 ticks, so that the beat grid a joining member takes over
may have begun before (R258). -/
def State.reset : State := State.blank (2 ^ 96)

end Sys2Proof.Machine
end

