-- ==== Sys2Proof/Machine/Ops.lean ====
section
/-!
DEFINITION. Sys2Proof/Machine/Ops.lean: the named operations over registers, units and time that every meaning is
built from, and the frame every command keeps (`framed`, `act`).
-/
namespace Sys2Proof.Machine
open Sys2Proof

/-- Bank k of the control I/O has detected its level; otherwise its outputs are at high impedance and its inputs inactive (R405). -/
def State.ioOk (s : State) (k : Nat) : Bool := s.boot.io.getD k .v33 ≠ .bad

/-- Value in effect of register (i, j) of a family. -/
def State.word (s : State) (f : RegFam) (i : Nat := 0) (j : Nat := 0) : Word := regWord s.part s.regs f i j

/-- Write register (i, j) of a family. -/
def State.putWord (s : State) (f : RegFam) (w : Word) (i : Nat := 0) (j : Nat := 0) : State :=
  { s with regs := regWrite s.part s.regs f i j w }

/-- Value of a field. -/
def State.get (s : State) (f : Fld) (i : Nat := 0) (j : Nat := 0) : Nat := getBits (s.word f.fam i j) f.lo f.width

/-- Set a field. -/
def State.put (s : State) (f : Fld) (v : Nat) (i : Nat := 0) (j : Nat := 0) : State :=
  s.putWord f.fam (setBits (s.word f.fam i j) f.lo f.width v) i j

/-- A one-bit field as a flag. -/
def State.flag (s : State) (f : Fld) (i : Nat := 0) (j : Nat := 0) : Bool := s.get f i j = 1

/-- Count a field up by `n`, saturating at its width. -/
def State.count (s : State) (f : Fld) (i : Nat := 0) (j : Nat := 0) (n : Nat := 1) : State :=
  s.put f (satAdd f.width (s.get f i j) n) i j

/-- A field of a port register: port n is port n mod 6 of tile n div 6 (R12). -/
def State.pget (s : State) (f : Fld) (n : Nat) : Nat := s.get f (n / 6) (n % 6)

/-- A flag of a port register (R12). -/
def State.pflag (s : State) (f : Fld) (n : Nat) : Bool := s.flag f (n / 6) (n % 6)

/-- Set a field of a port register (R12). -/
def State.pput (s : State) (f : Fld) (n : Nat) (v : Nat) : State := s.put f v (n / 6) (n % 6)

/-- Bit `i` of a bank of 32-bit bitmap registers. -/
def State.bitAt (s : State) (f : Fld) (i : Nat) : Bool := bitOf (s.get f (i / 32)) (i % 32)

/-- Write bit `i` of a bank of 32-bit bitmap registers. -/
def State.putBit (s : State) (f : Fld) (i : Nat) (b : Bool) : State :=
  s.putWord f.fam (setBits (s.word f.fam (i / 32)) (i % 32) 1 (bit b)) (i / 32)

/-- The RWS register at a BAR0 offset (R4, R224). -/
def rwsAt (off : Nat) : Option (RegFam × Nat × Nat) :=
  match blkOf off with
  | none => none
  | some b =>
    match findFam (famsOf b) off with
    | some (f, i, j) => if f.rws ≠ 0 then some (f, i, j) else none
    | none => none

/-! ### Time -/

/-- Index of the beat in progress on the grid in force (R22). -/
def State.beatNow (s : State) : Nat := (s.now - s.align) / Config.beat

/-- Tick at which beat `b` of the grid in force starts. -/
def State.beatTick (s : State) (b : Nat) : Nat := s.align + b * Config.beat

/-- Tick of the next beat boundary. -/
def State.nextBeat (s : State) : Nat := s.beatTick (s.beatNow + 1)

/-- Sub-band sample index of the present moment (R22). -/
def State.subNow (s : State) : Nat := (s.now - s.align) / Config.subSample

/-- Move time forward to tick `t`; never back. -/
def State.moveTo (s : State) (t : Nat) : State := { s with now := max s.now t }

/-- Device time, in units of 2^-32 s; 0 until its count starts (R10, R260, R265). -/
def State.devTime (s : State) : Nat := if s.tim.run then s.tim.base + (s.now - s.tim.since) * 2 ^ 32 / Config.sec else 0

/-- Operating time, in units of 1/65,536 s (R208, R383). -/
def State.opTime (s : State) : Nat := s.pst.opBase * 65536 + (s.now - s.vauxAt) * 65536 / Config.sec

/-- Tick at which the operating time reaches `t` (1/65,536 s = 15,625,000 ticks). -/
def State.opTick (s : State) (t : Nat) : Nat := s.vauxAt + (t - s.pst.opBase * 65536) * 15625000

/-- A free word: an unconstrained value, and the counter moved on (log 2). -/
def State.fresh (s : State) : Word × State := (Config.freeValue s.free, { s with free := s.free + 1 })

/-- A free integer: an unconstrained value, and the counter moved on (log 2). -/
def State.freshInt (s : State) : Int × State := (Config.freeInt s.free, { s with free := s.free + 1 })

/-! ### The frame of every command -/

/-- What a command may do that no other command can: change the locked pages (R195, R199), leave Dugout (R381),
clear the thermal shutdown latch (R360); and whether it is the one command that acts while VAUX is not valid (R392). -/
structure Grant where
  locks : Bool := false
  dugout : Bool := false
  latch : Bool := false
  power : Bool := false
  deriving DecidableEq, Repr

/-- Put the value of the register at a BAR0 offset of a block into a table: its reserved bits read 0, and an offset that is no
register's holds nothing (R6). -/
def tidyEntry (v : Variant) (b : Blk) (e : Nat × Word) (t : Tab Word) : Tab Word :=
  match findFam (famsOf b) e.1 with
  | some (f, i, _) =>
    let w := e.2 &&& BitVec.ofNat 32 f.mask
    if f.held then tabInsert e.1 w t else tabSetD (regReset v f i) t e.1 w
  | none => t

/-- The registers of a block with reserved bits 0, in canonical form (R6). -/
def tidyBlk (v : Variant) (b : Blk) (t : Tab Word) : Tab Word := t.foldr (tidyEntry v b) []

/-- The register file with reserved bits 0, in canonical form (R6). -/
def tidyRegs (v : Variant) (r : Regs) : Regs :=
  { glb := tidyBlk v .glb r.glb, pwr := tidyBlk v .pwr r.pwr, clk := tidyBlk v .clk r.clk, tile := tidyBlk v .tile r.tile
    fab := tidyBlk v .fab r.fab, iso := tidyBlk v .iso r.iso, spw := tidyBlk v .spw r.spw, hif := tidyBlk v .hif r.hif
    qlk := tidyBlk v .qlk r.qlk, exp := tidyBlk v .exp r.exp, mea := tidyBlk v .mea r.mea, cte := tidyBlk v .cte r.cte
    pwm := tidyBlk v .pwm r.pwm, rps := tidyBlk v .rps r.rps, flt := tidyBlk v .flt r.flt, pst := tidyBlk v .pst r.pst
    tim := tidyBlk v .tim r.tim }

/-- The frame every command keeps: the variant is fixed at manufacture (R1), the queue is untouched, time does not run
backwards, reserved bits read 0 (R6), Dugout is left only by a reset (R381), the thermal shutdown latch falls only with VAUX
(R360), and the locked pages change only as a signed change or the start-up of the store changes them (R195). -/
def framed (g : Grant) (s t : State) : State :=
  { t with
    part := s.part
    pending := s.pending
    now := max s.now t.now
    latch := t.latch || (s.latch && !g.latch)
    regs := tidyRegs s.part t.regs
    flt := { t.flt with dugout := t.flt.dugout || (s.flt.dugout && !g.dugout) }
    pst := { t.pst with locked := if g.locks then t.pst.locked else s.pst.locked } }

/-- A command whose effect is the state change `f`. While VAUX is not valid nothing acts but its return (R392, R408). -/
def act (g : Grant) (f : State → State) (s : State) : Host.Outcome State Fault Refusal :=
  .next (framed g s (if s.boot.dark && !g.power then s else f s))

/-- A command of the host: it has no effect while the thermal shutdown latch stands (R360). -/
def hostAct (f : State → State) (s : State) : Host.Outcome State Fault Refusal :=
  act {} (fun s => if s.latch then s else f s) s

end Sys2Proof.Machine
end

