-- ==== Sys2Proof/Machine/Collector.lean ====
section
/-!
DEFINITION. Sys2Proof/Machine/Collector.lean: ring entries and interrupts as the MQ96 writes them (R213-R222, R244),
event delivery (R235), reaction shadows (R375-R376, R427) and what the collector does with a report (R367-R386).
-/
namespace Sys2Proof.Machine
open Sys2Proof

/-! ### Rings -/

/-- The ring kinds of R214, with the codes RING_ERROR gives them (R247). -/
inductive RKind where
  | cmd | cpl | evt | str
  deriving DecidableEq, Repr

/-- Kind code (R247). -/
def rkCode : RKind → Nat
  | .cmd => 0 | .cpl => 1 | .evt => 2 | .str => 3

/-- Key of a ring in the ring table. -/
def rkey (k : RKind) (i : Nat) : Nat := rkCode k * 64 + i

/-- What the MQ96 keeps of a ring. -/
def State.ring (s : State) (k : RKind) (i : Nat) : Ring := tabGet s.hif.rings (rkey k i)

/-- Change what the MQ96 keeps of a ring. -/
def State.modRing (s : State) (k : RKind) (i : Nat) (f : Ring → Ring) : State :=
  { s with hif := { s.hif with rings := tabMod s.hif.rings (rkey k i) f } }

/-- CFG.EN of a ring. -/
def fEN : RKind → Fld
  | .cmd => CMD_CFG_EN | .cpl => CPL_CFG_EN | .evt => EVT_CFG_EN | .str => STR_CFG_EN
/-- CFG.LOG2D of a ring. -/
def fLOG2D : RKind → Fld
  | .cmd => CMD_CFG_LOG2D | .cpl => CPL_CFG_LOG2D | .evt => EVT_CFG_LOG2D | .str => STR_CFG_LOG2D
/-- STAT.INDEX of a ring. -/
def fINDEX : RKind → Fld
  | .cmd => CMD_STAT_INDEX | .cpl => CPL_STAT_INDEX | .evt => EVT_STAT_INDEX | .str => STR_STAT_INDEX
/-- STAT.ERR of a ring. -/
def fERR : RKind → Fld
  | .cmd => CMD_STAT_ERR | .cpl => CPL_STAT_ERR | .evt => EVT_STAT_ERR | .str => STR_STAT_ERR
/-- STAT.STOPPED of a ring. -/
def fSTOPPED : RKind → Fld
  | .cmd => CMD_STAT_STOPPED | .cpl => CPL_STAT_STOPPED | .evt => EVT_STAT_STOPPED | .str => STR_STAT_STOPPED
/-- CFG.VECTOR of a ring that interrupts (R213). -/
def fVECTOR : RKind → Fld
  | .evt => EVT_CFG_VECTOR | .str => STR_CFG_VECTOR | _ => CPL_CFG_VECTOR
/-- CFG.ITHR of a ring. -/
def fITHR : RKind → Fld
  | .evt => EVT_CFG_ITHR | .str => STR_CFG_ITHR | _ => CPL_CFG_ITHR
/-- CFG.ITIME of a ring. -/
def fITIME : RKind → Fld
  | .evt => EVT_CFG_ITIME | .str => STR_CFG_ITIME | _ => CPL_CFG_ITIME

/-- Depth of a ring (R214). -/
def State.depth (s : State) (k : RKind) (i : Nat) : Nat := 2 ^ s.get (fLOG2D k) i

/-- A ring takes part in traffic: enabled and not stopped by an error (R215, R219). -/
def State.ringLive (s : State) (k : RKind) (i : Nat) : Bool := s.flag (fEN k) i && !s.flag (fSTOPPED k) i

/-- Entries between a consumer and a producer index. -/
def used (depth cons prod : Nat) : Nat := (prod + depth - cons) % depth

/-- Free entries of a ring the MQ96 produces into: one entry stays unused (R214), and reserved slots are taken (R217). -/
def State.freeSlots (s : State) (k : RKind) (i : Nat) : Nat :=
  s.depth k i - 1 - used (s.depth k i) (s.ring k i).other (s.get (fINDEX k) i) - (s.ring k i).reserved

/-- Issue MSI-X vector `v`: a masked vector sets its pending bit, and nothing is issued while Bus Master Enable is 0
(R213). -/
def issueVector (v : Nat) (s : State) : State :=
  if !s.hif.masterEn || bitOf (s.get MSIX_CTL_V v) 0 then s.put MSIX_PBA_PENDING (s.get MSIX_PBA_PENDING (v / 32) ||| 2 ^ (v % 32)) (v / 32)
  else { s with hif := { s.hif with msi := tabSet s.hif.msi v (tabGet s.hif.msi v + 1) } }

/-- Signal the unsignalled entries of a ring. -/
def signalRing (k : RKind) (i : Nat) (s : State) : State :=
  issueVector (s.get (fVECTOR k) i) (s.modRing k i (fun r => { r with unsig := 0, sigAt := none }))

/-- Account one new entry of a ring for interrupts: after ITHR entries (0 means 1), or ITIME µs after the first
unsignalled entry (0 means at once) (R244). -/
def noteEntry (k : RKind) (i : Nat) (s : State) : State :=
  let n := (s.ring k i).unsig + 1
  let thr := max 1 (s.get (fITHR k) i)
  let tm := s.get (fITIME k) i
  let t := s.modRing k i (fun r =>
    { r with unsig := n, sigAt := if r.unsig = 0 then some (s.now + tm * Config.us) else r.sigAt })
  if thr ≤ n || tm = 0 then signalRing k i t else t

/-- Move a producer index on by one, counting wraps for PHASE (R221). -/
def advance (k : RKind) (i : Nat) (s : State) : State :=
  let nx := (s.get (fINDEX k) i + 1) % s.depth k i
  (s.put (fINDEX k) nx i).modRing k i (fun r => { r with pass := if nx = 0 then r.pass + 1 else r.pass })

/-- PHASE of the entry written now: 1 on the first pass, then alternating (R221). -/
def State.phase (s : State) (k : RKind) (i : Nat) : Bool := (s.ring k i).pass % 2 = 0

/-- Key of an entry of a ring in host memory. -/
def ekey (ring idx : Nat) : Nat := ring * 65536 + idx

/-- Give a reserved completion slot back (R217). -/
def releaseSlot (c : Nat) (s : State) : State := s.modRing .cpl c (fun r => { r with reserved := r.reserved - 1 })

/-- What a completion leaves as it was before: everything but the host interface. -/
def hifOnly (s t : State) : State := { s with hif := t.hif, regs := { s.regs with hif := t.regs.hif } }

/-- Write a completion in a slot reserved in completion ring `c`; a ring that is disabled or stopped has no slot to
write. -/
def writeCpl (c : Nat) (e : CplEntry) (s : State) : State :=
  let t := releaseSlot c s
  if !t.ringLive .cpl c then t
  else
    let idx := t.get CPL_STAT_INDEX c
    let e' := { e with phase := t.phase .cpl c }
    hifOnly s (noteEntry .cpl c (advance .cpl c { t with hif := { t.hif with cpl := tabSet t.hif.cpl (ekey c idx) e' } }))

/-- The bytes of a completion entry (R221). -/
def cplBytes (e : CplEntry) : List Nat :=
  leBytes 4 e.tag ++ leBytes 2 e.status ++
  [e.ring % 16 + e.slot % 4 * 16 + bit e.volley * 64 + bit e.phase * 128, 0] ++ leBytes 2 e.head ++ [0, 0] ++
  leBytes 4 e.result

/-- The bytes of an event entry (R222). -/
def evtBytes (e : EvtEntry) : List Nat :=
  leBytes 2 e.code ++ leBytes 2 e.src ++ [e.flags, 0] ++ leBytes 2 e.seq ++ leBytes 4 e.frac ++ leBytes 4 e.sec ++
  leBytes 4 e.p0 ++ leBytes 4 e.p1 ++ leBytes 4 e.p2 ++ leBytes 4 e.p3

/-- The bytes of a stream entry (R223). -/
def strBytes (e : StrEntry) : List Nat :=
  leBytes 8 e.addr ++ leBytes 4 e.len ++ leBytes 4 0 ++ leBytes 4 e.written ++ [e.kind, e.flags, 0, 0] ++
  leBytes 4 e.seq ++ leBytes 4 e.drops

/-! ### Event delivery (R235) -/

/-- The event ring and enable of a source: its nibble of HIF_EVMAP (R245). -/
def State.evMap (s : State) (src : Nat) : Nat × Bool :=
  let nib := s.get HIF_EVMAP_MAP (src / 8) / 16 ^ (src % 8) % 16
  (nib % 8, nib / 8 = 1)

/-- Write one event entry on ring `e`, which has room. -/
def writeEvt (e : Nat) (ent : EvtEntry) (s : State) : State :=
  let idx := s.get EVT_STAT_INDEX e
  let ent' := { ent with
    flags := ent.flags % 128 + bit (s.phase .evt e) * 128
    seq := (s.ring .evt e).seq % 65536 }
  let t := { s with hif := { s.hif with evt := tabSet s.hif.evt (ekey e idx) ent' } }
  noteEntry .evt e ((advance .evt e t).modRing .evt e (fun r => { r with seq := (r.seq + 1) % 65536 }))

/-- The event ring has room. -/
def State.evtRoom (s : State) (e : Nat) : Bool := s.ringLive .evt e && 0 < s.freeSlots .evt e

/-- Write the summary entry of one source if its counter is non-zero and ring `e` has room, clearing the counter. -/
def summaryOf (e src : Nat) (s : State) : State :=
  let n := s.get HIF_EVOVF_COUNT src
  if s.evMap src = (e, true) && 0 < n && s.evtRoom e then
    writeEvt e { code := 0, src := src, flags := 8, p0 := n,
                 frac := s.devTime % 2 ^ 32, sec := s.devTime / 2 ^ 32 % 2 ^ 32 } (s.put HIF_EVOVF_COUNT 0 src)
  else s

/-- Write the summary entries of ring `e`, in increasing source order, while it has room. -/
def summaries (e : Nat) (s : State) : State := forAll (List.range 384) (summaryOf e) s

/-- Some source mapped to ring `e` still has a summary to write. -/
def State.owesSummary (s : State) (e : Nat) : Bool :=
  (List.range 384).any (fun src => s.evMap src = (e, true) && 0 < s.get HIF_EVOVF_COUNT src)

/-- Deliver an event: to its ring after that ring's summaries, or counted when the ring is full or disabled (R235). -/
def deliver (r : Report) (conseq : Bool) (s : State) : State :=
  let (e, en) := s.evMap r.src
  if !en then s
  else
    let t := if s.ringLive .evt e then summaries e s else s
    if t.evtRoom e && !t.owesSummary e then
      writeEvt e { code := r.code, src := r.src, flags := r.cls + bit conseq * 4,
                   frac := t.devTime % 2 ^ 32, sec := t.devTime / 2 ^ 32 % 2 ^ 32,
                   p0 := r.p0, p1 := r.p1, p2 := r.p2, p3 := r.p3 } t
    else t.count HIF_EVOVF_COUNT r.src

/-! ### Shadows -/

/-- Sources of the tile row of R375. -/
def tileCovers (t src : Nat) : Bool :=
  (6 * t ≤ src && src ≤ 6 * t + 5) || src = 96 + t || src = 116 + t / 2 || src = 128 + t || src = 144 + t / 2 ||
  src = 168 + t / 2 || src = 383

/-- The sources a shadow over a reacting unit covers; sources 376 to 382 belong to no shadow but the domain row's 377
(R375, R427). -/
def covers : Area → Nat → Bool
  | .none, _ => false
  | .port n, s => s = n || s = 96 + n / 6 || s = 116 + n / 6 / 2 || s = 144 + n / 6 / 2
  | .tile t, s => tileCovers t s
  | .synth q, s => (List.range 4).any (fun i => tileCovers (4 * q + i) s) || s = 124 + q || s = 177 + q
  | .slice c, s => s = 116 + c || (124 ≤ s && s ≤ 127) || s = 128 + 2 * c || s = 129 + 2 * c || s = 383
  | .watch w, s => s = 144 + w || (124 ≤ s && s ≤ 127) || s = 168 + w || s = 383
  | .quarter q, s => s = 112 + q || s = 124 + q || s = 383
  | .qlink l, s => s = 224 + l || (112 ≤ s && s ≤ 115) || s = 228
  | .segment g, s => s = 360 + g || s = 365 || s = 366
  | .rail r, s => s = 336 + r || (341 ≤ s && s ≤ 344) || (352 ≤ s && s ≤ 359)
  | .string k, s => s = 367 + k || s = 364 || s = 371
  | .domain d, s =>
    s = 377 ||
    (if d < 48 then tileCovers (d / 3) s
     else if d < 56 then s = 144 + (d - 48) || (124 ≤ s && s ≤ 127) || s = 168 + (d - 48) || s = 383
     else if d < 64 then
       s = 116 + (d - 56) || (124 ≤ s && s ≤ 127) || s = 128 + 2 * (d - 56) || s = 129 + 2 * (d - 56) || s = 383
     else if d < 68 then s = 112 + (d - 64) || s = 124 + (d - 64) || s = 383
     else if d = 68 then 192 ≤ s && s ≤ 211
     else if d = 69 then 212 ≤ s && s ≤ 215
     else if d = 70 then 216 ≤ s && s ≤ 219
     else if d = 71 then (224 ≤ s && s ≤ 227) || (112 ≤ s && s ≤ 115) || s = 228
     else if d < 75 then 256 ≤ s && s ≤ 359
     else if d = 75 then 152 ≤ s && s ≤ 167
     else if d < 78 then
       (List.range 2).any (fun k =>
         let q := 2 * (d - 76) + k
         (List.range 4).any (fun i => tileCovers (4 * q + i) s) || s = 124 + q || s = 177 + q)
     else if d = 78 then 240 ≤ s && s ≤ 243
     else false)
  | .dugout, s => !(376 ≤ s && s ≤ 382)

/-- The source lies inside an open shadow: a report from it is CONSEQUENT (R376). -/
def State.covered (s : State) (src : Nat) : Bool :=
  s.flt.shadows.any (fun w => s.now < w.till && covers w.area src)

/-- Open a shadow over a reacting unit for FLT_CFG.SHADOW ms; 0 opens none (R375). -/
def openShadow (a : Area) (s : State) : State :=
  let n := s.get FLT_CFG_SHADOW
  if n = 0 || a = .none then s
  else { s with flt := { s.flt with shadows := s.flt.shadows ++ [{ area := a, till := s.now + n * Config.ms }] } }

/-! ### The Scorebook buffer (R382-R386) -/

/-- Start a flush of the buffered records, or have one follow the flush or clear that runs, or the return of power (R384, R388). -/
def startFlush (s : State) : State :=
  if s.flt.buffer = [] then s
  else if 0 < s.flt.flushN then { s with flt := { s.flt with flushAgain := true } }
  else if s.flt.pfClosed || s.flt.clearing then { s with flt := { s.flt with flushAgain := true } }
  else { s with flt := { s.flt with flushN := s.flt.buffer.length, flushAt := none, flushAgain := false } }

/-- Byte 10 of a record (R383). -/
def sbFlags (s : State) (r : Report) (conseq run : Bool) : Nat :=
  r.cls % 4 + bit conseq * 4 + bit s.flt.dugout * 8 + bit run * 16 + bit r.injected * 32

/-- SB_OVERFLOW is delivered, and never recorded (R384). -/
def overflowReport (s : State) : Report :=
  { src := 379, code := ev_SB_OVERFLOW.code, cls := ev_SB_OVERFLOW.cls, p1 := s.get FLT_SBLOST_LOST }

/-- Put a record of an accepted report in the buffer: lost when 256 are waiting, refused when the Scorebook is full
(R384, R386). -/
def bufferRecord (r : Report) (conseq : Bool) (p3 : Nat) (s : State) : State :=
  if s.flt.full then s.count FLT_SBLOST_REFUSED
  else if 256 ≤ s.flt.buffer.length then
    let t := s.count FLT_SBLOST_LOST
    if t.flt.overRun then t
    else
      let u := { t with flt := { t.flt with overRun := true } }
      deliver (overflowReport u) (u.covered 379)
        (if u.covered 379 then u.count FLT_MSGCNT_CONSEQUENT else u)
  else
    let rec_ : SbRec :=
      { code := r.code, src := r.src, opSec := s.opTime / 65536 % 2 ^ 32, opFrac := s.opTime % 65536
        flags := sbFlags s r conseq s.flt.overRun, sealByte := 0x5C, innings := s.get GLB_INNINGS_COUNT
        p0 := r.p0, p1 := r.p1, p2 := r.p2, p3 := p3 }
    let first := s.flt.buffer = []
    let t := { s with flt := { s.flt with
      buffer := s.flt.buffer ++ [rec_], overRun := false
      flushAt := if first then some (s.opTime + 10 * 65536) else s.flt.flushAt } }
    if 192 ≤ t.flt.buffer.length || t.flt.pfWindow.isSome then startFlush t else t

/-- A report is never recorded: SB_OVERFLOW, SB_NEAR_FULL, SB_FULL (R384, R386). -/
def neverRecorded (code : Nat) : Bool :=
  code = ev_SB_OVERFLOW.code || code = ev_SB_NEAR_FULL.code || code = ev_SB_FULL.code

/-- Record a report when R382 has it recorded, with the rate limit of CORRECTED and informational reports. -/
def recordReport (r : Report) (conseq : Bool) (s : State) : State :=
  let rack := 336 ≤ r.src && r.src ≤ 375
  let wanted := 1 ≤ r.cls || rack || s.bitAt FLT_SBSEL_SEL r.src
  if neverRecorded r.code || !wanted then s
  else
    let l := tabGet s.flt.srcs r.src
    let limited := r.cls ≤ 1 && !rack
    let p3 := if 0 < l.missed then l.missed else r.p3
    if limited && (match l.last with | some t => s.opTime < t + 10 * 65536 | none => false) then
      { s with flt := { s.flt with srcs := tabSet s.flt.srcs r.src { l with missed := l.missed + 1 } } }
    else
      let l' : SrcLog := { last := if r.cls ≤ 1 then some s.opTime else l.last, missed := 0 }
      bufferRecord r conseq p3 { s with flt := { s.flt with srcs := tabSet s.flt.srcs r.src l' } }

/-! ### Accepting a report -/

/-- What a report leaves as it was before: everything but the collector and the host interface. -/
def reportOnly (s t : State) : State :=
  { s with flt := t.flt, hif := t.hif, regs := { s.regs with flt := t.regs.flt, hif := t.regs.hif } }

/-- Keep a CONSEQUENT report of a class until its shadow closes (R377). -/
def withhold (a : Area) (r : Report) (s : State) : State :=
  if r.cls = 0 || r.injected then s
  else { s with flt := { s.flt with withheld := s.flt.withheld.filter (fun w => w.rep ≠ r) ++ [{ rep := r, area := a }] } }

/-- What the collector does with a report it accepts: CONSEQUENT or not (R376), pending bit (R372), record (R382),
delivery (R235), flush (R384) and the shadow of the reaction on `a` (R375). -/
def accept (a : Area) (r : Report) (s : State) : State :=
  let c := s.covered r.src
  let s1 := if c then withhold a r (s.count FLT_MSGCNT_CONSEQUENT) else s
  let acts := 2 ≤ r.cls && !c
  let s2 := if acts then s1.putBit FLT_PEND_PEND r.src true else s1
  let s3 := deliver r c (recordReport r c s2)
  reportOnly s (if acts then openShadow a (startFlush s3) else s3)

/-- Report event `k` from source `src`, with a reaction on unit `a` where it is CONTAINED or FATAL. -/
def emit (k : EvKind) (src : Nat) (s : State) (a : Area := .none) (p0 p1 p2 p3 : Nat := 0) : State :=
  accept a { src := src, code := k.code, cls := k.cls, p0 := p0 % 2 ^ 32, p1 := p1 % 2 ^ 32, p2 := p2 % 2 ^ 32,
             p3 := p3 % 2 ^ 32 } s

/-- Report event `k`, and take the reaction `f` unless the report is CONSEQUENT (R376). -/
def react (k : EvKind) (src : Nat) (a : Area) (f : State → State) (s : State) (p0 p1 p2 p3 : Nat := 0) : State :=
  let c := s.covered src
  let t := emit k src s a p0 p1 p2 p3
  if c then t else f t

/-- FAULT_N is driven low (R373). -/
def State.faultLow (s : State) : Bool :=
  s.flt.dugout || s.flt.pageCheck || (List.range 12).any (fun i => 0 < s.get FLT_PEND_PEND i)

end Sys2Proof.Machine
end

