-- ==== Sys2Proof/Machine/Rings.lean ====
section
/-!
DEFINITION. Sys2Proof/Machine/Rings.lean: ring errors, doorbells, ring enable and disable, the fetch of command
descriptors and their completions (R214-R222, R227, R242).
-/
namespace Sys2Proof.Machine
open Sys2Proof

/-! ### Status codes (R242) -/
def stSUCCESS : Nat := 0x0000
def stCAL_PARTIAL : Nat := 0x0001
def stSTORE_FAIL : Nat := 0x0002
def stSPLIT : Nat := 0x0003
def stINVALID_OPCODE : Nat := 0x0010
def stINVALID_FIELD : Nat := 0x0011
def stWRONG_STATE : Nat := 0x0012
def stBUSY : Nat := 0x0013
def stTOO_LARGE : Nat := 0x0014
def stLATE : Nat := 0x0015
def stORDER : Nat := 0x0016
def stALIGN_LOST : Nat := 0x0017
def stABORTED : Nat := 0x0018
def stDMA_ERROR : Nat := 0x0019
def stSUM_LIMIT : Nat := 0x0020
def stSYNTH_LIMIT : Nat := 0x0021
def stLINK_LIMIT : Nat := 0x0022
def stCXL_LIMIT : Nat := 0x0023
def stBUDGET_EXCEEDED : Nat := 0x0024
def stCAPTURE_LIMIT : Nat := 0x0025
def stSTACK_REQUIRED : Nat := 0x0030
def stUNREACHABLE : Nat := 0x0031
def stNOT_MASTER : Nat := 0x0032
def stSWAP_COLLIDED : Nat := 0x0033
def stNOT_PROVISIONED : Nat := 0x0040
def stKEY_FAILED : Nat := 0x0041
def stNONCE_INVALID : Nat := 0x0042
def stGENERATION_MISMATCH : Nat := 0x0043
def stSIGNATURE_INVALID : Nat := 0x0044

/-! ### Discarded writes -/

/-- Count a discarded write and record its offset (R5, R7, R243). -/
def discard (off : Nat) (bar2 : Bool) (s : State) : State :=
  ((s.count HIF_DISCARDCNT_WRITES).put HIF_DISCARDADDR_OFFSET off).put HIF_DISCARDADDR_BAR2 (bit bar2)

/-! ### Ring errors -/

/-- Stop a ring on an error (R219): STOPPED and ERR are set and RING_ERROR is raised, unless the report is CONSEQUENT, when
the containment is withheld. -/
def ringError (k : RKind) (i err : Nat) (s : State) : State :=
  let src := if k = .cmd then 192 + i else 208
  react ev_RING_ERROR src .none
    (fun t => (t.put (fERR k) err i).put (fSTOPPED k) 1 i) s 0 (pack2 (rkCode k) i)

/-- The discarded doorbell of a disabled ring, a bad index, or the effect `f` of a good one (R218, R219). A completion or
event head must lie between the present head and the MQ96's tail. -/
def doorbell (k : RKind) (i v off : Nat) (f : State → State) (s : State) : State :=
  if !s.flag (fEN k) i then discard off true s
  else if s.flag (fSTOPPED k) i then s
  else
    let d := s.depth k i
    let present := (s.ring k i).other
    let tailOk := match k with
      | .cmd | .str => true
      | .cpl | .evt => used d present v ≤ used d present (s.get (fINDEX k) i)
    if d ≤ v || !tailOk then ringError k i 1 s
    else f (s.modRing k i (fun r => { r with other := v }))

/-! ### Command descriptors -/

/-- Descriptors are posted on command ring r. -/
def State.posted (s : State) (r : Nat) : Bool := s.get CMD_STAT_INDEX r ≠ (s.ring .cmd r).other

/-- Volley slot v. -/
def State.slot (s : State) (v : Nat) : Slot := tabGet s.hif.slots v

/-- Replace Volley slot v. -/
def State.setSlot (s : State) (v : Nat) (x : Slot) : State :=
  { s with hif := { s.hif with slots := tabSet s.hif.slots v x } }

/-- The slot of the Volley OPEN on ring r. -/
def State.openOn (s : State) (r : Nat) : Option Nat :=
  (List.range 4).find? (fun v => (s.slot v).st = .opened && (s.slot v).ring = r)

/-- Ring r has a Volley in VALIDATING. -/
def State.validatingOn (s : State) (r : Nat) : Bool :=
  (List.range 4).any (fun v => (s.slot v).st = .validating && (s.slot v).ring = r)

/-- The descriptor in turn on ring r is a COMMIT that waits while a Volley of the ring is VALIDATING (R216; DEDUCED,
log 156). -/
def State.heldBack (s : State) (r : Nat) : Bool := (s.ring .cmd r).held && s.validatingOn r

/-- A descriptor of ring r can be fetched: posted, with a free completion slot, and not held back from validation (R216,
R217). Descriptors are read over the PCI Express link. -/
def State.fetchable (s : State) (r : Nat) : Bool :=
  s.hif.linkUp && s.ringLive .cmd r && s.posted r && !s.heldBack r &&
  s.ringLive .cpl (s.get CMD_CFG_CPL r) && 0 < s.freeSlots .cpl (s.get CMD_CFG_CPL r)

/-- A fetchable ring that has not been served for 1 ms (R216). -/
def State.starving (s : State) (r : Nat) : Bool := s.fetchable r && (s.ring .cmd r).servedAt + Config.ms ≤ s.now

/-- The command ring served next: a starving ring first, else the highest fetchable one (R216). -/
def State.nextRing (s : State) : Option Nat :=
  match (List.range 16).reverse.find? s.starving with
  | some r => some r
  | none => (List.range 16).reverse.find? s.fetchable

/-- Take the next descriptor of ring r: one completion slot is reserved and the consumer index moves on. -/
def fetch (r : Nat) (s : State) : State :=
  let c := s.get CMD_CFG_CPL r
  let nx := (s.get CMD_STAT_INDEX r + 1) % s.depth .cmd r
  ((s.modRing .cpl c (fun x => { x with reserved := x.reserved + 1 })).put CMD_STAT_INDEX nx r).modRing .cmd r
    (fun x => { x with servedAt := s.now, held := false })

/-- The read of a descriptor from host memory fails: an error of its ring (R244, R247; DEDUCED, log 161). -/
def fetchFails (r : Nat) (s : State) : State := if s.nextRing ≠ some r then s else ringError .cmd r 2 s

/-- Complete a descriptor of ring r under its own tag. -/
def completeCmd (r tag status : Nat) (s : State) (result : Nat := 0) (head : Option Nat := none) : State :=
  writeCpl (s.get CMD_CFG_CPL r)
    { tag := tag, status := status, ring := r, head := head.getD (s.get CMD_STAT_INDEX r), result := result } s

/-- Remember the completion a command owes (R217). -/
def State.defer (s : State) (r tag : Nat) : Defer :=
  { cpl := s.get CMD_CFG_CPL r, ring := r, tag := tag, head := s.get CMD_STAT_INDEX r }

/-- Give an owed completion. -/
def completeDefer (d : Defer) (status : Nat) (s : State) (result : Nat := 0) : State :=
  writeCpl d.cpl { tag := d.tag, status := status, ring := d.ring, head := d.head, result := result } s

/-- LOCK_BUSY falls when no protected Volley is left in VALIDATING or STAGED (R209). -/
def lockIdle (s : State) : State :=
  if (List.range 4).any (fun w => (s.slot w).prot && ((s.slot w).st = .validating || (s.slot w).st = .staged)) then s
  else s.put PST_STAT_LOCK_BUSY 0

/-- Complete the Volley of slot v and free the slot (R221, R227); LOCK_BUSY follows (R209). -/
def completeVolley (v tag status : Nat) (s : State) (result : Nat := 0) (head : Option Nat := none) : State :=
  let x := s.slot v
  let t := (writeCpl x.cpl { tag := tag, status := status, ring := x.ring, slot := v, volley := true,
                             head := head.getD x.cHead, result := result } s).setSlot v {}
  if x.prot then lockIdle t else t

/-- End the Volley OPEN in slot v early, with the tag of its BEGIN (R227). -/
def endOpen (v status : Nat) (s : State) : State :=
  completeVolley v (s.slot v).tag status s 0 (some (s.get CMD_STAT_INDEX (s.slot v).ring))

/-- A ring that consumes a refused Volley up to its COMMIT: the descriptor is consumed and its slot given back
(R227). -/
def State.draining (s : State) (r : Nat) : Bool := (s.ring .cmd r).drain.isSome

/-- Run a descriptor of ring r when the ring is served: fetched, then consumed while the ring drains, else `k`. -/
def descriptor (r : Nat) (k : State → State) (s : State) : State :=
  if s.nextRing ≠ some r then s
  else
    let t := fetch r s
    if t.draining r then releaseSlot (t.get CMD_CFG_CPL r) t else k t

/-- Run a command that is no member: it ends a Volley OPEN on its ring and is not executed (R227); bytes the opcode does
not define must be 0 (R220); else `k` runs it and gives it its completion. -/
def command (r tag : Nat) (bad : Bool) (k : State → State) (s : State) : State :=
  descriptor r (fun t =>
    match t.openOn r with
    | some v => completeCmd r tag stWRONG_STATE (endOpen v stINVALID_FIELD t)
    | none => if bad then completeCmd r tag stINVALID_FIELD t else k t) s

/-- End what is open on ring r when the ring is disabled, or a Volley of it when the host is lost: ABORTED with the tag of
its BEGIN, or BUSY for a Volley that was being consumed for want of a slot (R227). -/
def endRingVolley (r : Nat) (s : State) : State :=
  let t := match s.openOn r with
    | some v => endOpen v stABORTED s
    | none => s
  match (t.ring .cmd r).drain with
  | some tag => writeCpl (s.get CMD_CFG_CPL r) { tag := tag, status := stBUSY, ring := r, volley := true, head := s.get CMD_STAT_INDEX r }
      (t.modRing .cmd r (fun x => { x with drain := none }))
  | none => t

end Sys2Proof.Machine
end

