-- ==== Sys2Proof/Machine/Crypto.lean ====
section
/-!
DEFINITION. Sys2Proof/Machine/Crypto.lean: the digest and the signature check that the change records name, SHA-384 and ECDSA over
P-384 (R195, R197, R200, R201). The manual names them and does not define them; they follow their public standards (PRESUMED, log
13).
-/
namespace Sys2Proof.Machine
open Sys2Proof

/-! ### SHA-384 -/

/-- A word of the digest. -/
abbrev Word64 := BitVec 64

/-- The primes below 410, of which there are 80. -/
def smallPrimes : List Nat := (List.range 410).filter (fun n => 2 ≤ n && (List.range n).all (fun d => d < 2 || n % d ≠ 0))

/-- The largest a + x with x < 2^bits whose k-th power is at most n. -/
def rootFrom (k n : Nat) : Nat → Nat → Nat
  | 0, a => a
  | i + 1, a => rootFrom k n i (if (a + 2 ^ i) ^ k ≤ n then a + 2 ^ i else a)

/-- The first 64 bits of the fraction of the k-th root of n. -/
def rootFraction (k n : Nat) : Word64 := BitVec.ofNat 64 (rootFrom k (n * 2 ^ (64 * k)) 70 0)

/-- The 80 constants of the rounds: fractions of cube roots of primes. -/
def roundConstants : List Word64 := smallPrimes.map (rootFraction 3)

/-- The state a digest starts from: fractions of the square roots of the 9th to the 16th prime. -/
def digestStart : List Word64 := ((smallPrimes.drop 8).take 8).map (rootFraction 2)

/-- Three rotations of a word, added without carry. -/
def mixRot (x : Word64) (i j k : Nat) : Word64 := x.rotateRight i ^^^ x.rotateRight j ^^^ x.rotateRight k

/-- Two rotations and a shift, added without carry. -/
def mixShift (x : Word64) (i j k : Nat) : Word64 := x.rotateRight i ^^^ x.rotateRight j ^^^ (x >>> k)

/-- One round: the state after it takes a constant with its word of the schedule. -/
def shaRound (st : List Word64) (kw : Word64) : List Word64 :=
  let g := fun i => st.getD i 0
  let t := g 7 + mixRot (g 4) 14 18 41 + ((g 4 &&& g 5) ^^^ (~~~(g 4) &&& g 6)) + kw
  let u := mixRot (g 0) 28 34 39 + ((g 0 &&& g 1) ^^^ (g 0 &&& g 2) ^^^ (g 1 &&& g 2))
  (t + u) :: g 0 :: g 1 :: g 2 :: (g 3 + t) :: g 4 :: g 5 :: [g 6]

/-- The schedule of a block, newest word first, extended by n words. -/
def scheduleMore : Nat → List Word64 → List Word64
  | 0, l => l
  | n + 1, l =>
    let g := fun i => l.getD i 0
    scheduleMore n ((mixShift (g 1) 19 61 6 + g 6 + mixShift (g 14) 1 8 7 + g 15) :: l)

/-- A number from big-endian bytes. -/
def ofBe (l : List Nat) : Nat := l.foldl (fun a b => a * 256 + b % 256) 0

/-- The 16 words of a block of 128 bytes. -/
def blockWords (b : List Nat) : List Word64 := (List.range 16).map (fun i => BitVec.ofNat 64 (ofBe ((b.drop (8 * i)).take 8)))

/-- The state after one block. -/
def shaBlock (st : List Word64) (b : List Nat) : List Word64 :=
  let w := (scheduleMore 64 (blockWords b).reverse).reverse
  List.zipWith (· + ·) st ((List.zipWith (· + ·) roundConstants w).foldl shaRound st)

/-- The blocks of a padded message: n of them. -/
def shaBlocks : Nat → List Nat → List Word64 → List Word64
  | 0, _, st => st
  | n + 1, l, st => shaBlocks n (l.drop 128) (shaBlock st (l.take 128))

/-- Big-endian bytes of a number. -/
def beBytes (n v : Nat) : List Nat := (leBytes n v).reverse

/-- SHA-384: the 48 digest bytes of a byte list. -/
def sha384 (msg : List Nat) : List Nat :=
  let len := msg.length
  let n := (len + 17 + 127) / 128
  let padded := msg ++ 0x80 :: (List.replicate (128 * n - len - 17) 0 ++ beBytes 16 (8 * len))
  ((shaBlocks n padded digestStart).take 6).flatMap (fun w => beBytes 8 w.toNat)

/-! ### P-384 -/

/-- The prime of the field. -/
def fieldP : Nat := 2 ^ 384 - 2 ^ 128 - 2 ^ 96 + 2 ^ 32 - 1

/-- The order of the base point. -/
def groupN : Nat := 0xFFFFFFFFFFFFFFFFFFFFFFFFFFFFFFFFFFFFFFFFFFFFFFFFC7634D81F4372DDF581A0DB248B0A77AECEC196ACCC52973

/-- The constant term of the curve y² = x³ − 3x + b. -/
def curveB : Nat := 0xB3312FA7E23EE7E4988E056BE3F82D19181D9C6EFE8141120314088F5013875AC656398D8A2ED19D2A85C8EDD3EC2AEF

/-- A point, or none for the point at infinity. -/
abbrev CurvePoint := Option (Nat × Nat)

/-- The base point. -/
def baseG : CurvePoint :=
  some (0xAA87CA22BE8B05378EB1C71EF320AD746E1D3B628BA79B9859F741E082542A385502F25DBF55296C3A545E3872760AB7,
    0x3617DE4A96262C6F5D9E98BF9292DC29F8F41DBD289A147CE9DA3113B5F0B8C00A60B1CE1D7E819D7A431D7C90EA0E5F)

/-- x^e mod m, over the low n bits of e. -/
def powMod (x e m : Nat) : Nat → Nat
  | 0 => 1
  | n + 1 =>
    let h := powMod x (e / 2) m n
    if e % 2 = 1 then h * h % m * x % m else h * h % m

/-- The inverse of x modulo a prime below 2^384. -/
def invMod (x m : Nat) : Nat := powMod x (m - 2) m 384

/-- a − b in the field. -/
def subP (a b : Nat) : Nat := (a + fieldP - b % fieldP) % fieldP

/-- The third point of the line with slope m through two points, mirrored. -/
def chord (m x1 y1 x2 : Nat) : CurvePoint :=
  let x := subP (m * m) (x1 + x2)
  some (x, subP (m * subP x1 x) y1)

/-- The sum of two points. -/
def addPoint : CurvePoint → CurvePoint → CurvePoint
  | none, b => b
  | a, none => a
  | some (x1, y1), some (x2, y2) =>
    if x1 = x2 then
      if (y1 + y2) % fieldP = 0 then none
      else chord (subP (3 * x1 * x1) 3 * invMod (2 * y1) fieldP % fieldP) x1 y1 x2
    else chord (subP y2 y1 * invMod (subP x2 x1) fieldP % fieldP) x1 y1 x2

/-- k times a point, over the low n bits of k. -/
def mulPoint (k : Nat) (a : CurvePoint) : Nat → CurvePoint
  | 0 => none
  | n + 1 =>
    let h := mulPoint (k / 2) a n
    if k % 2 = 1 then addPoint (addPoint h h) a else addPoint h h

/-- X and Y of an uncompressed SEC 1 key. -/
def keyXY (k : List Nat) : Nat × Nat := (ofBe ((k.drop 1).take 48), ofBe ((k.drop 49).take 48))

/-- The bytes are a valid point of P-384 in uncompressed SEC 1 form (R201). -/
def keyPointOk (k : List Nat) : Bool :=
  let q := keyXY k
  k.length = 97 && k.headD 0 = 4 && q.1 < fieldP && q.2 < fieldP &&
    (q.2 * q.2) % fieldP = (subP (q.1 * q.1 * q.1) (3 * q.1) + curveB) % fieldP

/-- The signature, r then s, verifies under a public key on the SHA-384 digest of the body (R195). -/
def signatureOk (key body sig : List Nat) : Bool :=
  let r := ofBe (sig.take 48)
  let s := ofBe ((sig.drop 48).take 48)
  let w := invMod s groupN
  let u := ofBe (sha384 body) * w % groupN
  let v := r * w % groupN
  keyPointOk key && 1 ≤ r && r < groupN && 1 ≤ s && s < groupN &&
    (match addPoint (mulPoint u baseG 384) (mulPoint v (some (keyXY key)) 384) with
     | some q => q.1 % groupN = r
     | none => false)

end Sys2Proof.Machine
end

