-- ==== Sys2Proof/Machine/Locks.lean ====
section
/-!
DEFINITION. Sys2Proof/Machine/Locks.lean: the content of the persistent pages (R187-R192), the limits read from it, and
the numbering of the persistent registers (R202, R424, R425).
-/
namespace Sys2Proof.Machine
open Sys2Proof

/-! ### Persistent registers (R424) -/

/-- The register in persistent page 128 + i: its family and instance; none for pages that hold no register (R425). -/
def persistReg (i : Nat) : Option (RegFam × Nat) :=
  if i = 0 then some (GLB_BOOTCTL, 0)
  else if i = 1 then some (PWR_THCFG, 0)
  else if i = 2 then some (QLK_PAIRCFG, 0)
  else if i < 35 then some (MEA_CMPCFG_P, i - 3)
  else if i < 67 then some (CTE_PSEED, i - 35)
  else if i = 67 then some (RPS_CFG, 0)
  else if i = 68 then some (RPS_CAP, 0)
  else if i = 69 then some (RPS_SHEDCFG, 0)
  else if i = 70 then some (RPS_SHEDKEEP, 0)
  else none

/-- BAR0 offset of persistent register i. -/
def persistOff (i : Nat) : Option Nat := (persistReg i).map (fun x => regOff x.1 x.2 0)

/-- The persistent register at a BAR0 offset. -/
def persistIdx (off : Nat) : Option Nat := (List.range 71).find? (fun i => persistOff i = some off)

/-! ### Pages (R187) -/

/-- Factory bytes 0-12 of the scalar limits (R190). -/
def factoryLimits : List Nat :=
  leBytes 2 300 ++ leBytes 2 0 ++ leBytes 2 0 ++ [1, 100, 60, 3] ++ leBytes 2 10 ++ [4]

/-- Factory content of a page, bytes 0-251 (R187, R425). -/
def factoryPage (v : Variant) (p : Nat) : List Nat :=
  if p = 5 then fitLen 252 0 factoryLimits
  else if p = 7 || (12 ≤ p && p ≤ 17) then List.replicate 252 0xFF
  else if p < 128 then List.replicate 252 0
  else
    match persistReg (p - 128) with
    | some (f, i) => fitLen 252 0 (leBytes 4 (regOff f i 0) ++ leBytes 4 (regReset v f i).toNat)
    | none => fitLen 252 0 [0xFF, 0xFF, 0xFF, 0xFF]

/-- Content in force of a page 0-97. -/
def State.lockPage (s : State) (p : Nat) : List Nat :=
  let l := tabGet s.pst.locked p
  if l = [] then factoryPage s.part p else l

/-- Byte `i` of the content in force of a page. -/
def State.lockByte (s : State) (p i : Nat) : Nat := (s.lockPage p).getD i 0

/-- Put content in force for a page 0-97. -/
def State.setLockPage (s : State) (p : Nat) (l : List Nat) : State :=
  { s with pst := { s.pst with locked := tabSet s.pst.locked p (if l = factoryPage s.part p then [] else l) } }

/-- The cells of a page: bytes and check word; a page never written holds its factory content. -/
def State.pageCells (s : State) (p : Nat) : Option Page := tabGet s.pst.cells p

/-- Bytes the cells of a page hold. -/
def State.cellBytes (s : State) (p : Nat) : List Nat :=
  match s.pageCells p with
  | some c => c.bytes
  | none => factoryPage s.part p

/-- One step of CRC-32C, bit-reversed polynomial 0x82F63B78. -/
def crcBit (c : Nat) : Nat := if c % 2 = 1 then (c / 2) ^^^ 0x82F63B78 else c / 2

/-- CRC-32C of a byte list from a running value. -/
def crcByte (c b : Nat) : Nat := crcBit (crcBit (crcBit (crcBit (crcBit (crcBit (crcBit (crcBit (c ^^^ b % 256))))))))

/-- CRC-32C of a byte list (R187; polynomial and form of the name's common use, log 12). -/
def crc32c (l : List Nat) : Nat := (l.foldl crcByte 0xFFFFFFFF) ^^^ 0xFFFFFFFF

/-- The check word the cells of a page hold. -/
def State.cellCheck (s : State) (p : Nat) : Nat :=
  match s.pageCells p with
  | some c => c.check
  | none => crc32c (factoryPage s.part p)

/-- The cells of a page fail their check word (R205). A page still at its factory content has a good one (R187). -/
def State.pageBad (s : State) (p : Nat) : Bool :=
  match s.pageCells p with
  | some c => c.check ≠ crc32c c.bytes
  | none => false

/-- Write the cells of a page with a good check word, which clears its PST_PAGEFAIL bit (R205). -/
def writePage (p : Nat) (l : List Nat) (s : State) : State :=
  let b := fitLen 252 0 l
  { s with pst := { s.pst with cells := tabSet s.pst.cells p (some { bytes := b, check := crc32c b }) } }.putBit
    PST_PAGEFAIL_PAGES p false

/-! ### Limits in force -/

/-- Transmit bitmap bit of port o and sub-band k (R188). Bits of sub-band 0 are ignored. -/
def State.mapBit (s : State) (o k : Nat) : Bool :=
  k ≠ 0 && bitOf (s.lockByte (34 + k / 16) (12 * (k % 16) + o / 8)) (o % 8)

/-- The bit as the gate takes it: 0 for every port while LOCK_DEFAULTED (R194). -/
def State.txBit (s : State) (o k : Nat) : Bool := !s.flag PST_STAT_LOCK_DEFAULTED && s.mapBit o k

/-- The locked bitmap forbids every sub-band of the port (R46). -/
def State.txAllForbidden (s : State) (o : Nat) : Bool :=
  s.flag PST_STAT_LOCK_DEFAULTED ||
  s.pst.locked.all (fun e => e.1 < 34 || 97 < e.1 || (List.range 16).all (fun i =>
    (e.1 = 34 && i = 0) || !bitOf (e.2.getD (12 * i + o / 8) 0) (o % 8)))

/-- MAXPWR of port o for sub-band k, in 0.25 dB above −10 dBm (R189). -/
def State.maxPwr (s : State) (o k : Nat) : Nat := s.lockByte (18 + k / 32 / 2) (96 * (k / 32 % 2) + o)

/-- EXTGAIN of port o, in 0.25 dB (R189). -/
def State.extGain (s : State) (o : Nat) : Nat := s.lockByte 7 o

/-- COUPLER of port o, in 0.25 dB (R189). -/
def State.coupler (s : State) (o : Nat) : Nat := s.lockByte 7 (96 + o)

/-- The land limit P_lim of (o, k), in 0.25 dBm (R193). -/
def State.plim (s : State) (o k : Nat) : Int := (s.maxPwr o k : Int) - 40 - (s.extGain o : Int)

/-- Emission byte of sub-band k (R191). -/
def State.emission (s : State) (k : Nat) : Nat := s.lockByte (12 + k / 192) (k % 192)

/-- Protected-band mask j is enabled and covers (o, k) (R191). -/
def State.protectedBy (s : State) (j o k : Nat) : Bool :=
  s.lockByte (8 + j) 141 = 1 && bitOf (s.lockByte (8 + j) (o / 8)) (o % 8) &&
  bitOf (s.lockByte (8 + j) (12 + k / 8)) (k % 8)

/-- The Offside limit of (o, k), in 0.25 dBm: the lowest value that applies (R191). -/
def State.offsideLimit (s : State) (o k : Nat) : Int :=
  let base : Int :=
    if s.mapBit o k then (s.maxPwr o k : Int) - 40 + (s.lockByte 5 12 : Int)
    else -400 + 2 * (s.emission k : Int)
  (List.range 4).foldl (fun a j =>
    if s.protectedBy j o k then min a (-400 + 2 * (s.lockByte (8 + j) 140 : Int)) else a) base

/-- Scalar limits of page 5 (R190). -/
def State.limMinMargin (s : State) : Nat := ofLe ((s.lockPage 5).take 2)
/-- UL_GAIN_MAX, 0.05 dB (R190). -/
def State.limUlGain (s : State) : Int := signedOf 16 (ofLe (((s.lockPage 5).drop 2).take 2))
/-- NR_LIMIT, 0.1 dB (R190). -/
def State.limNr (s : State) : Nat := ofLe (((s.lockPage 5).drop 4).take 2)
/-- HOSTLOST (R190). -/
def State.limHostLost (s : State) : Bool := s.lockByte 5 6 = 1
/-- HB_MAX, ms (R190). -/
def State.limHbMax (s : State) : Nat := s.lockByte 5 7
/-- OSC_WINDOW, minutes (R190). -/
def State.limOscWindow (s : State) : Nat := s.lockByte 5 8
/-- OSC_COUNT (R190). -/
def State.limOscCount (s : State) : Nat := s.lockByte 5 9
/-- OSC_BASE, s (R190). -/
def State.limOscBase (s : State) : Nat := ofLe (((s.lockPage 5).drop 10).take 2)

/-- Show the limits of page 5 in the RWL registers PST_LIM0 to PST_LIM2 (R190). -/
def showLimits (s : State) : State :=
  let s1 := (s.put PST_LIM0_MIN_MARGIN s.limMinMargin).put PST_LIM0_UL_GAIN_MAX (codeOf 12 s.limUlGain)
  let s2 := ((s1.put PST_LIM1_NR_LIMIT s.limNr).put PST_LIM1_HOSTLOST (bit s.limHostLost)).put PST_LIM1_HB_MAX s.limHbMax
  let s3 := (s2.put PST_LIM1_EMARGIN (s.lockByte 5 12)).put PST_LIM2_OSC_WINDOW s.limOscWindow
  (s3.put PST_LIM2_OSC_COUNT s.limOscCount).put PST_LIM2_OSC_BASE s.limOscBase

/-- Persistent register page 128 + b is locked by the protection map (R192). -/
def State.mapLocked (s : State) (b : Nat) : Bool := bitOf (s.lockByte 6 (b / 8)) (b % 8)

end Sys2Proof.Machine
end

