-- ==== Sys2Proof/Machine/RadioCore.lean ====
section
/-!
DEFINITION. Sys2Proof/Machine/RadioCore.lean: the radio states of the device and of the tiles, the synthesizers, the power
amplifier sequencer (R168-R179), and entry to Dugout (R379).
-/
namespace Sys2Proof.Machine
open Sys2Proof

/-! ### Reading the radio -/

/-- The step of tile t (0-15) or of the device (16). -/
def State.stepOf (s : State) (u : Nat) : Step := if u < 16 then tabGet s.radio.tiles u else s.radio.dev

/-- Replace the step of tile t or of the device. -/
def State.setStep (s : State) (u : Nat) (x : Step) : State :=
  if u < 16 then { s with radio := { s.radio with tiles := tabSet s.radio.tiles u x } }
  else { s with radio := { s.radio with dev := x } }

/-- Radio state of tile t, or of the device for 16 (R168). -/
def State.rstate (s : State) (u : Nat) : Nat := if u < 16 then s.get CLK_TSTAT_STATE u else s.get CLK_RSTAT_STATE

/-- The tile runs RELAY and is not leaving it. -/
def State.inRelay (s : State) (t : Nat) : Bool :=
  s.rstate t = 4 && !((s.stepOf t).active && (s.stepOf t).goal < 4)

/-- The sequencer of port n. -/
def State.pa (s : State) (n : Nat) : Pa := tabGet s.radio.pas n

/-- Change the sequencer of port n. -/
def State.modPa (s : State) (n : Nat) (f : Pa → Pa) : State :=
  { s with radio := { s.radio with pas := tabMod s.radio.pas n f } }

/-- Synthesizer q. -/
def State.synth (s : State) (q : Nat) : Synth := tabGet s.radio.synths q

/-- Change synthesizer q. -/
def State.modSynth (s : State) (q : Nat) (f : Synth → Synth) : State :=
  { s with radio := { s.radio with synths := tabMod s.radio.synths q f } }

/-- The six ports of tile t (R12). -/
def portsOf (t : Nat) : List Nat := (List.range 6).map (fun p => 6 * t + p)

/-- The four tiles of quadrant q (R14). -/
def tilesOf (q : Nat) : List Nat := (List.range 4).map (fun i => 4 * q + i)

/-- The port is sequenced in a rise of its tile: PA_PRESENT and no latched fault (R171). -/
def State.sequenced (s : State) (n : Nat) : Bool := s.pflag TILE_PACFG_PA_PRESENT n && !s.pflag TILE_PASTAT_FLT n

/-- t_bias of port n, µs (R177). -/
def State.tBias (s : State) (n : Nat) : Nat := s.pget TILE_PACFG_TBIAS_M1 n + 1

/-- T_B of tile t, µs (R171). -/
def State.tB (s : State) (t : Nat) : Nat :=
  (portsOf t).foldl (fun a n => if s.sequenced n then max a (s.tBias n) else a) 0

/-! ### What holds a tile down -/

/-- The lowest of the caps forced on tile t: loss of lock (R176), no working sensor (R354), cold (R359), Bullpen (R269), Dugout
(R380), and a calibration of its synthesizer (R174, R175). -/
def State.tileForced (s : State) (t : Nat) : Nat :=
  if s.radio.coldCap.contains t then 1
  else if (s.synth (t / 4)).want then 2
  else if s.flag CLK_TSTAT_FORCED t || s.radio.blindCap.contains t || s.radio.promoteCap || s.flt.dugout then 3
  else 4

/-- The lower of CAP and the caps forced on tile t. -/
def State.tileCeil (s : State) (t : Nat) : Nat := min (s.get CLK_TCAP_CAP t) (s.tileForced t)

/-- Where the device is bound: TARGET, at most RECEIVE in Dugout, at most SYNTH while the start-up calibration holds it
(R169, R379, R396). -/
def State.devGoal (s : State) : Nat :=
  let g0 := s.get CLK_RCFG_TARGET
  let g1 := if s.flt.dugout then min g0 3 else g0
  if (s.cal.running && s.cal.startup) || s.qlk.waits then min g1 2 else g1

/-- The device state that tiles follow: where its step leads, or where it stands. -/
def State.devLevel (s : State) : Nat := if s.radio.dev.active then s.radio.dev.goal else s.rstate 16

/-- The effective state tile t is bound for (R169). -/
def State.tileGoal (s : State) (t : Nat) : Nat := min s.devLevel (s.tileCeil t)

/-! ### Synthesizer calibration -/

/-- Signed difference of the quadrant's temperature from that of its calibration, 1/128 °C (R174, R352). -/
def State.synthDiff (s : State) (q : Nat) : Int := (s.synth q).temp - (s.synth q).calTemp

/-- Synthesizer q is due for calibration, or one has been deferred (R174). -/
def State.synthDue (s : State) (q : Nat) : Bool :=
  !(s.synth q).cald || (s.synth q).picked || s.flag CLK_SYNSTAT_CAL_DUE q || 12 * 128 < (s.synthDiff q).natAbs

/-- Quadrant q has a tile in RELAY. -/
def State.quadRelay (s : State) (q : Nat) : Bool := (tilesOf q).any (fun t => s.rstate t = 4)

/-- Hold the tiles of a due synthesizer for its calibration, or defer it while a tile is in RELAY, while the device is at
SYNTH or above (R174). -/
def synthHold (q : Nat) (s : State) : State :=
  if s.rstate 16 < 2 || (s.synth q).calEnd.isSome || (s.synth q).want || !s.synthDue q then s
  else if s.quadRelay q then
    if s.flag CLK_SYNSTAT_CAL_DUE q then s
    else emit ev_SYNTH_CAL_DUE (177 + q) (s.put CLK_SYNSTAT_CAL_DUE 1 q)
  else s.modSynth q (fun y => { y with want := true })

/-- Start the calibration of a held quadrant once its tiles stand at SYNTH or below: 8 ms (R174). -/
def synthStart (q : Nat) (s : State) : State :=
  if (s.synth q).want && (s.synth q).calEnd.isNone &&
      (tilesOf q).all (fun t => s.rstate t ≤ 2 && !(s.stepOf t).active) then
    (s.modSynth q (fun y => { y with calEnd := some (s.now + 8 * Config.ms) })).put CLK_SYNSTAT_CAL_RUN 1 q
  else s

/-- Record a completed calibration of synthesizer q (R174). -/
def synthCald (q : Nat) (s : State) : State :=
  let s1 := (s.put CLK_SYNSTAT_CAL_TEMP (s.get CLK_SYNSTAT_TEMP q) q).put CLK_SYNSTAT_CAL_DUE 0 q
  let s2 := ((s1.put CLK_SYNSTAT_DRIFT 0 q).put CLK_SYNSTAT_CAL_RUN 0 q).put CLK_SYNSTAT_LOCK 1 q
  emit ev_SYNTH_CAL_DONE (177 + q)
    (s2.modSynth q (fun y => { y with cald := true, calTemp := y.temp, picked := false, want := false, calEnd := none,
                                      holdTill := s.nextBeat }))

/-! ### Steps -/

/-- Length of a step of the device or of a tile alone, in ticks (R169). -/
def stepLen (from_ goal tb : Nat) (due : Bool) : Nat :=
  if goal = 0 then 5 * Config.ms
  else if from_ < goal then
    if goal = 2 then 2500 * Config.us + (if due then 8 * Config.ms else 0)
    else if goal = 3 then 150 * Config.us
    else (350 + tb) * Config.us
  else
    if goal = 3 then 20 * Config.us else if goal = 2 then 10 * Config.us else Config.ms

/-- Lower the pins of a port whose tile leaves RELAY: while the DAC still ramps, PA_EN waits for it; PA_BIAS_EN follows
5 µs after PA_EN (R178). -/
def dropEn (n : Nat) (s : State) : State :=
  (s.modPa n (fun p => { p with en := false, enAt := none, offAt := if p.bias then some (s.now + 5 * Config.us) else none,
                                again := false })).pput TILE_PASTAT_SEQ n (if (s.pa n).bias then 4 else 0)

/-- Start the down sequence of a port (R178). -/
def seqDown (n : Nat) (s : State) : State :=
  if !(s.pa n).bias || (s.pa n).offAt.isSome then s.modPa n (fun p => { p with again := false })
  else if (s.pa n).en && (tabGet s.units n).rampDir ≠ 0 then s.pput TILE_PASTAT_SEQ n 3
  else dropEn n s

/-- Start the up sequence of a port, after a down sequence that still runs (R178). -/
def seqUp (n : Nat) (s : State) : State :=
  if (s.pa n).offAt.isSome then s.modPa n (fun p => { p with again := true })
  else if (s.pa n).bias then s
  else (s.modPa n (fun p => { p with bias := true, enAt := some (s.now + s.tBias n * Config.us), again := false })).pput
    TILE_PASTAT_SEQ n 1

/-- Note a change of radio state of tile t or of the device (16): STATE_CHANGE with the tile, or 0xFF for the device, the
old and the new state (R186, R368). -/
def setRstate (u new : Nat) (s : State) : State :=
  let old := s.rstate u
  if old = new then s
  else
    let t := if u < 16 then s.put CLK_TSTAT_STATE new u else s.put CLK_RSTAT_STATE new
    emit ev_STATE_CHANGE 176 t .none 0 (pack3 (if u < 16 then u else 0xFF) old new)

/-- Start the device's next step towards its goal (R169). SLEEP is left only on a wake source. On entry to SYNTH every due synthesizer
is calibrated, which its CAL_RUN shows (R173, R174, R185; log 153: from the start of the step). -/
def kickDev (s : State) : State :=
  let st := s.rstate 16
  let g := s.devGoal
  if s.radio.dev.active || st = 0 || st = g then s
  else
    let nx := if g = 0 then 0 else if st < g then st + 1 else st - 1
    let due := (List.range 4).filter s.synthDue
    let tb := (List.range 16).foldl (fun a t => if s.rstate t = 3 && 4 ≤ s.tileCeil t then max a (s.tB t) else a) 0
    let s1 := (s.setStep 16 { active := true, goal := nx, begin_ := s.now, endAt := s.now + stepLen st nx tb (due ≠ []) }).put
      CLK_RSTAT_MOVING 1
    if st = 1 && nx = 2 then forAll due (fun q t => t.put CLK_SYNSTAT_CAL_RUN 1 q) s1 else s1

/-- Start tile t's next step towards its effective state (R169), with the device's step where it is the same one. -/
def kickTile (t : Nat) (s : State) : State :=
  let st := s.rstate t
  let g := s.tileGoal t
  if (s.stepOf t).active || st = g || (st = 0 && !(s.radio.dev.active && s.radio.dev.goal = 1)) then s
  else
    let nx := if g = 0 then 0 else if st < g then st + 1 else st - 1
    let d := s.radio.dev
    let follow := d.active && d.goal = nx
    let b := if nx = 3 && st < nx then max s.now (s.synth (t / 4)).holdTill else s.now
    let e := if follow && nx < 4 then max d.endAt b else b + stepLen st nx (s.tB t) false
    let s1 := s.setStep t { active := true, goal := nx, begin_ := b, endAt := e, follow := follow }
    if st = 4 then forAll (portsOf t) seqDown s1 else s1

/-- Start every step that is due (R169). -/
def kickRadio (s : State) : State :=
  let s1 := forAll (List.range 4) synthHold (kickDev s)
  forAll (List.range 4) synthStart (forAll (List.range 16) kickTile s1)

/-- Abandon an upward step of tile t that leads above its forced cap, or that followed a step of the device which is abandoned; pins
already raised return low in the down order (R172). -/
def abandonTile (t : Nat) (s : State) : State :=
  let x := s.stepOf t
  if x.active && s.rstate t < x.goal && (s.tileForced t < x.goal || (x.follow && s.devLevel < x.goal)) then
    forAll (portsOf t) seqDown (s.setStep t {})
  else s

/-- Dugout and forced caps act at once (R172): upward steps that lead above them are abandoned, and the descents start. A target or a
cap that the host has lowered abandons nothing (R169). -/
def forceRadio (s : State) : State :=
  let s1 := if s.radio.dev.active && s.rstate 16 < s.radio.dev.goal && s.flt.dugout && 3 < s.radio.dev.goal then
    (s.setStep 16 {}).put CLK_RSTAT_MOVING 0 else s
  kickRadio (forAll (List.range 16) abandonTile s1)

/-- Tile t reports RELAY when no sequenced port waits for its PA_EN any more (R171). A port whose FLT was cleared on the way up is
sequenced up now (R178). -/
def relayCheck (t : Nat) (s : State) : State :=
  let x := s.stepOf t
  if x.active && x.goal = 4 && x.biased && (portsOf t).all (fun n => (s.pa n).enAt.isNone) then
    let u := setRstate t 4 (s.setStep t {})
    forAll ((portsOf t).filter u.sequenced) seqUp u
  else s

/-- The device's step to RELAY completes once its time has passed and every tile that rises with it reports RELAY
(R169). -/
def relaySettle (s : State) : State :=
  let d := s.radio.dev
  if d.active && d.goal = 4 && d.endAt ≤ s.now &&
      (List.range 16).all (fun t => !((s.stepOf t).active && (s.stepOf t).goal = 4 && (s.stepOf t).follow)) then
    kickRadio (setRstate 16 4 ((s.setStep 16 {}).put CLK_RSTAT_MOVING 0))
  else s

/-! ### Dugout (R379) -/

/-- Enter Dugout for a cause: source and code. A device already there keeps its first cause (R380). -/
def enterDugout (src code : Nat) (s : State) : State :=
  if s.flt.dugout then s
  else
    let s1 := { s with flt := { s.flt with dugout := true, dgSrc := src, dgCode := code } }
    let s2 := emit ev_DUGOUT_ENTERED 380 (forceRadio s1) .none code src
    openShadow .dugout (startFlush s2)

/-- Report event `k`; a FATAL one that is not CONSEQUENT enters Dugout (R379). -/
def raise (k : EvKind) (src : Nat) (s : State) (a : Area := .none) (p0 p1 p2 p3 : Nat := 0) : State :=
  let c := s.covered src
  let t := emit k src s a p0 p1 p2 p3
  if k.cls = 3 && !c then enterDugout src k.code t else t

end Sys2Proof.Machine
end

