-- ==== Sys2Proof/Machine/PortOps.lean ====
section
/-!
DEFINITION. Sys2Proof/Machine/PortOps.lean: sampling ports and observation receivers (R31-R55, R428): range control, the
interleave merger and its bubbles, mute ramps, background correction and self-calibration. Unit u is port u for u < 96
and the observation receiver of tile u − 96 otherwise.
-/
namespace Sys2Proof.Machine
open Sys2Proof

/-! ### Units -/

/-- Tile of a unit (R12, R14). -/
def unitTile (u : Nat) : Nat := if u < 96 then u / 6 else u - 96

/-- The unit is an observation receiver. -/
def isOrx (u : Nat) : Bool := 96 ≤ u

/-- What the MQ96 keeps of a unit. -/
def State.unit (s : State) (u : Nat) : Unit := tabGet s.units u

/-- Change what the MQ96 keeps of a unit. -/
def State.modUnit (s : State) (u : Nat) (f : Unit → Unit) : State := { s with units := tabMod s.units u f }

/-- Event source of a unit: the port, or the tile of an ORx (R55). -/
def unitSrc (u : Nat) : Nat := u

/-- The unit a reaction of this receive unit acts on (R375). -/
def unitArea (u : Nat) : Area := if isOrx u then .tile (u - 96) else .port u

/-- CALFAC word `w` of a tile: as loaded or written, else the factory factor (R50, R52). -/
def State.calfac (s : State) (t w : Nat) : Word :=
  tabGetD (Config.factoryCalfac t w) s.regs.tile (regOff TILE_CALFAC t w)

/-- Put CALFAC word `w` of a tile. -/
def State.setCalfac (s : State) (t w : Nat) (v : Word) : State :=
  { s with regs := { s.regs with tile := tabInsert (regOff TILE_CALFAC t w) v s.regs.tile } }

/-- First CALFAC word of a unit (R50). -/
def facBase (u : Nat) : Nat := if isOrx u then 240 else 40 * (u % 6)

/-- CALFAC word `w` of a unit. -/
def State.ufac (s : State) (u w : Nat) : Word := s.calfac (unitTile u) (facBase u + w)

/-- Low half of a word as a signed number. -/
def loS (w : Word) : Int := signedOf 16 w.toNat
/-- High half of a word as a signed number. -/
def hiS (w : Word) : Int := signedOf 16 (w.toNat / 65536)

/-- SETTLE of a unit, converter samples (R38, R50). -/
def State.settle (s : State) (u : Nat) : Nat := (s.ufac u 7).toNat % 65536

/-- A CALFAC word of a unit is within the limits of R51 and has no reserved bit set (R50). -/
def facWordOk (orx : Bool) (w : Nat) (v : Word) : Bool :=
  let lo := loS v
  let hi := hiS v
  if w = 0 then lo.natAbs ≤ 512 && hi.natAbs ≤ 512
  else if w = 1 then
    let a := v.toNat % 65536
    let b := v.toNat / 65536
    891 * 32768 ≤ 1000 * a && 1000 * a ≤ 1122 * 32768 && 891 * 32768 ≤ 1000 * b && 1000 * b ≤ 1122 * 32768
  else if w = 2 then v.toNat / 65536 = 0 && lo.natAbs * 24414 ≤ 131072000
  else if w ≤ 6 then lo.natAbs ≤ 8192 && hi.natAbs ≤ 8192
  else if w = 7 then v.toNat / 65536 = 0 && 41 ≤ v.toNat && v.toNat ≤ 410
  else if w = 8 then !orx || v.toNat / 65536 = 0
  else if w ≤ 11 then lo.natAbs ≤ 512 && hi.natAbs ≤ 512
  else if w ≤ 14 then v.toNat = 0
  else if w = 15 then v.toNat / 2048 = 0 && v.toNat / 256 % 8 ≤ 5
  else if w ≤ 31 then
    (List.range 4).all (fun b =>
      let x := v.toNat / 256 ^ b % 256
      if w = 31 && b = 3 then x = 0 else (signedOf 8 x).natAbs ≤ 96)
  else v.toNat = 0

/-- CALFAC word i of a tile taken as a word of the port or ORx it belongs to (R50). -/
def tileWordOk (i : Nat) (v : Word) : Bool := if 240 ≤ i then facWordOk true (i - 240) v else facWordOk false (i % 40) v

/-- Effective attenuation of an attenuation code, 1/1,024 dB: the nominal values of the enabled sections plus their
calibrated errors (R37). -/
def State.aEff (s : State) (u code : Nat) : Int :=
  (List.range 6).foldl (fun a i =>
    if bitOf code i then
      a + 512 * (2 ^ i : Nat) + (if i % 2 = 0 then loS (s.ufac u (9 + i / 2)) else hiS (s.ufac u (9 + i / 2)))
    else a) 0

/-- Bit search for the largest r below 2^n above `r` with (2r − 1)^d ≤ lim. -/
def searchPow : Nat → Nat → Nat → Nat → Nat
  | 0, _, _, r => r
  | n + 1, d, lim, r =>
    let r' := r + 2 ^ n
    searchPow n d lim (if (2 * r' - 1) ^ d ≤ lim then r' else r)

/-- m · 10^(x/d) rounded to nearest, halves away from zero, for x ≥ 0 (R33). -/
def scaleExp (m : Int) (x d : Nat) : Int :=
  let g := max 1 (Nat.gcd x d)
  let r := searchPow 21 (d / g) ((2 * m.natAbs) ^ (d / g) * 10 ^ (x / g)) 0
  if m < 0 then -(r : Int) else (r : Int)

/-! ### GAP (R428) -/

/-- CFG enable of a receive unit: RX_EN or ORX_EN. -/
def State.rxEn (s : State) (u : Nat) : Bool :=
  if isOrx u then s.flag TILE_ORXCFG_ORX_EN (u - 96) else s.pflag TILE_PORTCFG_RX_EN u

/-- OUT_OF_SERVICE of a receive unit. -/
def State.outOfService (s : State) (u : Nat) : Bool :=
  if isOrx u then s.flag TILE_ORXSTAT_OUT_OF_SERVICE (u - 96) else s.pflag TILE_PORTSTAT_OUT_OF_SERVICE u

/-- The tile is under self-calibration (R49). -/
def State.calOn (s : State) (t : Nat) : Bool := s.cal.running && s.cal.group.contains t

/-- The synthesizer of a tile is locked and not calibrating. -/
def State.synthOk (s : State) (t : Nat) : Bool :=
  s.flag CLK_SYNSTAT_LOCK (t / 4) && !s.flag CLK_SYNSTAT_CAL_RUN (t / 4)

/-- Power domain d is on (R361). -/
def State.domainOn (s : State) (d : Nat) : Bool := s.bitAt PWR_DOMSTAT_ON d

/-- A cause of R428 stands for the unit, or it is out of service. -/
def State.gapCause (s : State) (u : Nat) : Bool :=
  let t := unitTile u
  !s.rxEn u || s.calOn t || (s.unit u).recalAt.isSome || !s.synthOk t || s.rstate t < 3 || !s.domainOn (3 * t) ||
  s.outOfService u

/-- Mark every unit for which a cause stands as GAP. -/
def syncGap (s : State) : State :=
  forAll (List.range 112) (fun u t =>
    if !(t.unit u).gap && t.gapCause u then t.modUnit u (fun x => { x with gap := true }) else t) s

/-- The first beat boundary at or after the present moment (R428). -/
def State.beatCeil (s : State) : Nat :=
  if (s.now - s.align) % Config.beat = 0 then s.now else s.nextBeat

/-- R428: samples return at the first beat boundary at or after the end of the last cause. -/
def rxGapEnd (u : Nat) (s : State) : State :=
  if (s.unit u).gap && !s.gapCause u then (s.moveTo s.beatCeil).modUnit u (fun x => { x with gap := false }) else s

/-- A slip of an island found in beat b marks what crosses into it in that beat (R19). -/
def State.slipIn (s : State) (island b : Nat) : Bool := s.fab.slips.any (fun x => x.1 = island && x.2 = b)

/-! ### Mute ramps (R45, R46) -/

/-- Position s of a mute ramp at tick t: one step per group of 16 samples, 400 ticks. -/
def Unit.ramp (x : Unit) (t : Nat) : Nat :=
  let k := (t - x.rampAt) / 400
  if x.rampDir = 1 then min 25600 (x.rampS + k) else if x.rampDir = 3 then x.rampS - k
  else if x.rampDir = 2 then 25600 else 0

/-- Position s of the mute ramp of port n now. -/
def State.rampPos (s : State) (n : Nat) : Nat := (s.unit n).ramp s.now

/-- A ramped mute source of R46 is active on port n. -/
def State.rampMuted (s : State) (n : Nat) : Bool :=
  !s.pflag TILE_DACCFG_TX_EN n || s.pflag TILE_PORTSTAT_BUBBLE_MUTE n || s.pflag TILE_PORTSTAT_OUT_OF_SERVICE n ||
  !s.inRelay (n / 6) || s.flt.dugout || s.txAllForbidden n || !s.bitAt PWR_DOMSTAT_ON (3 * (n / 6) + 1)

/-- First group boundary after the present moment. -/
def State.nextGroup (s : State) : Nat := s.align + ((s.now - s.align) / 400 + 1) * 400

/-- Set the ramp of port n, with PORTSTAT.RAMP. -/
def setRamp (n pos dir at_ : Nat) (s : State) : State :=
  (s.modUnit n (fun x => { x with rampS := pos, rampDir := dir, rampAt := at_ })).pput TILE_PORTSTAT_RAMP n dir

/-- Bring the DAC mute of port n in line with its sources: a hard mute sets s = 0 at once; otherwise the ramp turns from
its present position (R45). -/
def syncMute (n : Nat) (s : State) : State :=
  let x := s.unit n
  if (s.pa n).hard then
    if x.rampDir = 0 && s.pflag TILE_PORTSTAT_HARD n then s else setRamp n 0 0 s.now (s.pput TILE_PORTSTAT_HARD n 1)
  else
    let s0 := if s.pflag TILE_PORTSTAT_HARD n then s.pput TILE_PORTSTAT_HARD n 0 else s
    if s0.rampMuted n then
      if x.rampDir = 1 || x.rampDir = 2 then setRamp n (s.rampPos n) 3 s.nextGroup s0 else s0
    else
      if x.rampDir = 0 || x.rampDir = 3 then setRamp n (s.rampPos n) 1 s.nextGroup s0 else s0

/-- Bring every DAC mute in line with its sources. -/
def syncMutes (s : State) : State := forAll (List.range 96) syncMute s

/-- A mute ramp of port n ends (R45); after a ramp down on a tile that leaves RELAY, PA_EN goes low (R178). -/
def dacRampDone (n : Nat) (s : State) : State :=
  let x := s.unit n
  if x.rampDir = 1 then
    setRamp n 25600 2 s.now (s.moveTo (x.rampAt + (25600 - x.rampS) * 400))
  else if x.rampDir = 3 then
    let s1 := s.moveTo (x.rampAt + x.rampS * 400)
    let s2 := setRamp n 0 0 s1.now s1
    if (s2.pa n).en && !s2.inRelay (n / 6) then dropEn n s2 else s2
  else s

/-! ### Range control (R34-R40) -/

/-- Port n changes its attenuation to `code` at sample index D: the sections switch at D, the compensation at
C = D + SETTLE (R38). -/
def rangeChange (n code d : Nat) (s : State) : State :=
  (s.pput TILE_PORTSTAT_ATT_NOW n code).modUnit n (fun x =>
    { x with comp := x.comp ++ [(d + s.settle n, code)], quiet := 0 })

/-- The attenuation in effect changes to `code` at sample index c; the latest 256 changes are kept. -/
def noteAtt (c code : Nat) (x : Unit) : Unit :=
  { x with
    compAtt := code
    atts := (c, code) :: x.atts.take 255
    attBase := match x.atts[255]? with | some e => e.2 | none => x.attBase }

/-- The attenuation code in effect at sample index i: samples from C on use the new one (R38). -/
def Unit.attAt (x : Unit) (i : Nat) : Nat :=
  match (x.comp.reverse ++ x.atts).find? (fun e => e.1 ≤ i) with
  | some e => e.2
  | none => x.attBase

/-- The compensation gain switches at the next C, and RANGEIDX reports it (R38, R39). -/
def compSwitch (n : Nat) (s : State) : State :=
  match (s.unit n).comp with
  | [] => s
  | (c, code) :: rest =>
    ((s.moveTo (s.align + c * Config.convSample)).modUnit n (fun x =>
      { noteAtt c code x with comp := rest, seams := (c, code) :: x.seams.take 255 })).put
        TILE_RANGEIDX_C (c % 2 ^ 32) (n / 6) (n % 6)

/-- 20 log10(m / 2,048) ≤ −0.5·t + 0.5·k dB, exactly: m^40 · 10^t ≤ 2,048^40 · 10^k (R36). -/
def peakLe (m t k : Nat) : Bool := m ^ 40 * 10 ^ t ≤ 2048 ^ 40 * 10 ^ k

/-- ARC steps the port: ARC_EN and RX_EN are 1 and its tile is not under self-calibration (R36, R40). -/
def State.arcActive (s : State) (n : Nat) : Bool :=
  s.pflag TILE_PORTCFG_ARC_EN n && s.pflag TILE_PORTCFG_RX_EN n && !s.calOn (n / 6)

/-- The step ARC decides, in 0.5 dB, and the new quiet count (R36). -/
def arcStep (s : State) (n : Nat) (ovr : Bool) (m : Nat) (q : Nat) : Int × Nat :=
  let up := s.pget TILE_ARCCFG_UP_THR n
  let tg := s.pget TILE_ARCCFG_TARGET n
  let dn := s.pget TILE_ARCCFG_DN_THR n
  let below := m ^ 40 * 10 ^ dn < 2048 ^ 40
  let q0 := if below then q else 0
  if ovr then (12, q0)
  else if !peakLe m up 0 then (((List.range 12).find? (fun k => peakLe m tg k)).getD 12, 0)
  else if below then
    if s.pget TILE_ARCCFG_DN_HOLD n + 1 ≤ q + 1 then
      (-(((List.range 13).reverse.find? (fun k => peakLe m (tg + k) 0)).getD 0 : Int), q + 1)
    else (0, q + 1)
  else (0, 0)

/-- One whole beat has passed without the thing since its latest beat. -/
def quietBeat (last : Option Nat) (b : Nat) : Bool := match last with
  | none => true
  | some x => x + 2 ≤ b

/-- The end of an ARC interval of 1 µs, 40,960 samples (R36). While ARC does not step the port (R40), and at ARC_EN 0 to 1, the
quiet count stays as it is (DESIGN CHOICE, log 134). -/
def arcInterval (n : Nat) (s : State) : State :=
  let x := s.unit n
  let k := max x.arcK (((s.now - s.align) / Config.convSample + 40959) / 40960 - 1)
  let d := 40960 * (k + 1)
  let s1 := (s.moveTo (s.align + d * Config.convSample)).modUnit n (fun y =>
    { y with arcK := k + 1, arcMax := none, arcSkip := false })
  if !s.arcActive n then s1
  else if x.arcSkip then s1.modUnit n (fun y => { y with quiet := 0 })
  else
    match x.arcMax with
    | none => s1
    | some m =>
      let ovr := x.ovr.any (fun g => 2560 * k ≤ g && g < 2560 * (k + 1))
      let (st, q) := arcStep s n ovr m x.quiet
      let a := s.pget TILE_PORTSTAT_ATT_NOW n
      let a' := (clampI (s.pget TILE_PORTCFG_ATT_MIN n) (s.pget TILE_PORTCFG_ATT_MAX n) ((a : Int) + st)).toNat
      let s2 := s1.modUnit n (fun y => { y with quiet := q })
      if a' ≠ a then rangeChange n a' d s2
      else if 0 < st && (s.unit n).atMaxBeat ≠ some s1.beatNow then
        emit ev_ARC_AT_MAX n (s2.modUnit n (fun y => { y with atMaxBeat := some s1.beatNow }))
      else s2

/-- Groups of OVR a unit keeps behind the latest: two fine transforms with their windows (R75, R140). -/
def keepOvr : Nat := 524288

/-- The input passes OVR_THR in group g: OVR is set on the group, the two before and the four after (R44). -/
def ovrDetect (u g : Nat) (s : State) : State :=
  let x := s.unit u
  let all := (List.range 7).filterMap (fun i => if g + i < 2 then none else some (g + i - 2))
  let gs := all.filter (fun i => !x.ovr.contains i)
  let beat := fun i : Nat => i * 16 / 1048576
  let s1 := s.modUnit u (fun y =>
    { y with ovr := y.ovr.filter (fun i => g ≤ i + keepOvr) ++ gs, ovrBeat := some (max (beat (g + 4)) (y.ovrBeat.getD 0)) })
  let s2 := if isOrx u then s1.put TILE_ORXSTAT_OVR 1 (u - 96) else
    (s1.pput TILE_PORTSTAT_OVR u 1).count TILE_OVRCNT_GROUPS (u / 6) (u % 6) gs.length
  match gs with
  | [] => s2
  | i :: _ =>
    if quietBeat x.ovrBeat (beat i) then emit (if isOrx u then ev_ORX_OVERRANGE else ev_OVERRANGE) (unitSrc u) s2 else s2

/-! ### Bubbles and storms (R41, R42, R48) -/

/-- Put a receive unit out of service. -/
def setOutOfService (u : Nat) (s : State) : State :=
  if isOrx u then s.put TILE_ORXSTAT_OUT_OF_SERVICE 1 (u - 96) else s.pput TILE_PORTSTAT_OUT_OF_SERVICE u 1

/-- The unit is put out of service and the event of its kind is raised (R42, R48). -/
def outOfServiceEvent (u : Nat) (s : State) : State :=
  react (if isOrx u then ev_ORX_OUT_OF_SERVICE else ev_PORT_OUT_OF_SERVICE) (unitSrc u) (unitArea u)
    (setOutOfService u) s

/-- The latest storm of the unit came less than 60 s after the storm two before it (R42, R48). -/
def State.thirdStorm (s : State) (u : Nat) : Bool := match (s.unit u).storms with
  | a :: _ :: c :: _ => decide (a < c + 60 * Config.sec)
  | _ => false

/-- Report a bubble storm and take its reaction: GAP, a muted DAC and an 80 ms recalibration, or out of service on the third
storm within 60 s (R42, R48). A storm whose reaction a shadow withholds is remembered with its oldest bubble (R377). -/
def stormReact (u oldest : Nat) (s : State) : State :=
  let c := s.covered (unitSrc u)
  let third := s.thirdStorm u
  let t := react (if isOrx u then ev_ORX_BUBBLE_STORM else ev_BUBBLE_STORM) (unitSrc u) (unitArea u)
    (fun t =>
      let t1 := if isOrx u then t else t.pput TILE_PORTSTAT_BUBBLE_MUTE u 1
      let t2 := t1.modUnit u (fun y => { y with gap := true, recalAt := if third then none else some (t1.now + 80 * Config.ms) })
      if third then
        emit (if isOrx u then ev_ORX_OUT_OF_SERVICE else ev_PORT_OUT_OF_SERVICE) (unitSrc u) (setOutOfService u t2) (unitArea u)
      else t2) s
  t.modUnit u (fun y => { y with stormFrom := if c then some oldest else none })

/-- A bubble storm: counted, its time kept, reported (R42, R48). `oldest` is the tick of the first of its 17 bubbles. -/
def storm (u oldest : Nat) (s : State) : State :=
  let s1 := s.modUnit u (fun y => { y with storms := s.now :: y.storms.take 2 })
  stormReact u oldest (if isOrx u then s1 else s1.count TILE_BUBCNT_STORMS (u / 6) (u % 6))

/-- Bubbles of the unit are counted now (R34, R42). -/
def State.bubblesCount (s : State) (u : Nat) : Bool :=
  s.rxEn u && !s.calOn (unitTile u) && (s.unit u).recalAt.isNone && s.synthOk (unitTile u)

/-- One counted bubble (R41, R42). -/
def noteBubble (u : Nat) (s : State) : State :=
  let s0 := s.put GLB_XSTAT_BUBBLE 1
  if !s.bubblesCount u then s0
  else
    let s1 := if isOrx u then s0.put TILE_ORXSTAT_BUBBLE 1 (u - 96)
      else (s0.pput TILE_PORTSTAT_BUBBLE u 1).count TILE_BUBCNT_BUBBLES (u / 6) (u % 6)
    let s2 := emit (if isOrx u then ev_ORX_BUBBLE else ev_BUBBLE) (unitSrc u) s1
    let h := (s.unit u).history
    let full := h.length = 16 && s.now < h.getD 15 0 + Config.sec
    let s3 := s2.modUnit u (fun y => { y with history := (s.now :: h).take 16 })
    if full && !s3.outOfService u then storm u (h.getD 15 0) s3 else s3

/-- One stale burst (R41). The spec gives an ORx no register, counter or event for it: the burst is only discarded (DESIGN CHOICE,
log 135). -/
def noteStale (u : Nat) (s : State) : State :=
  if isOrx u then s
  else emit ev_STALE_BURST u ((s.pput TILE_PORTSTAT_STALE u 1).count TILE_BUBCNT_STALE (u / 6) (u % 6))

/-- Take the burst of slot n from a FIFO: the number of stale bursts dropped, the codes of the slot if present, and the
FIFO after (R41). -/
def takeBurst (n : Nat) : List (Nat × List Int) → Nat × Option (List Int) × List (Nat × List Int)
  | [] => (0, none, [])
  | (tag, codes) :: rest =>
    if signedOf 16 ((tag + 65536 - n % 65536) % 65536) < 0 then
      let (k, r, f) := takeBurst n rest
      (k + 1, r, f)
    else if tag = n % 65536 then (0, some codes, rest)
    else (0, none, (tag, codes) :: rest)

/-- The correction is neutral: offsets 0, gains 1, skew and taps 0, residuals 0. -/
def neutral (fac : List Word) (resid : List Int) : Bool :=
  fac = [0, 0x80008000, 0, 0, 0, 0, 0] && resid.all (fun r => r = 0)

/-- The residual set in use by a unit (R43). -/
def State.bgcSet (s : State) (u : Nat) : BgcSet := tabGet (s.unit u).bgc (s.pget TILE_PORTSTAT_TBAND u)

/-- Residual set of an ORx: the set of its tile's band; a port shows the set in PORTSTAT.TBAND. -/
def State.unitBand (s : State) (u : Nat) : Nat :=
  if isOrx u then s.get TILE_PORTSTAT_TBAND (u - 96) 0 else s.pget TILE_PORTSTAT_TBAND u

/-- Code j of a core after interleave correction. The zero codes that stand for a missing burst pass through it like any other
(DESIGN CHOICE, log 136). -/
def State.corrected (s : State) (u core : Nat) (codes : List Int) (j : Nat) : Int :=
  let fac := (List.range 7).map (s.ufac u)
  let res := (tabGet (s.unit u).bgc (s.unitBand u)).resid
  codes.getD j 0 + (if neutral fac res then 0 else Config.mismatch fac res core codes j)

/-- The word of the corrected code of sample index i, referred to the land with the attenuation in effect there (R33, R38). -/
def State.landWord (s : State) (u i : Nat) (c : Int) : Int := scaleExp (4 * c) (s.aEff u ((s.unit u).attAt i)).toNat 20480

/-- How many merged words a unit keeps: one fine transform, the longest latency and one analysis window (R60, R136). -/
def keepWords : Nat := 4194304

/-- The converters of the unit run (R31). -/
def State.converting (s : State) (u : Nat) : Bool :=
  s.domainOn (3 * unitTile u) && s.flag CLK_SYNSTAT_LOCK (unitTile u / 4)

/-- One burst slot of the merger (R41): the bursts that arrived are queued, stale ones discarded, missing ones replaced by
zeros with GAP; so is a slot that crosses into the tile in a beat in which a slip is found (R19). -/
def mergerSlot (u : Nat) (a b : List (Nat × List Int)) (s : State) : State :=
  if !s.converting u then s
  else
    let x := s.unit u
    let n := max x.slotN ((s.now - s.align + 3199) / 3200)
    let s1 := s.moveTo (s.align + n * 3200)
    let (ka, ra, fa) := takeBurst n (x.fifoA ++ a)
    let (kb, rb, fb) := takeBurst n (x.fifoB ++ b)
    let ca := ra.getD (List.replicate 64 0)
    let cb := rb.getD (List.replicate 64 0)
    let hole := ra.isNone || rb.isNone
    let mute := x.gap || s1.slipIn (unitTile u) (n / 8192)
    let gap := hole || mute
    let codes := if mute then List.replicate 128 0 else
      ((List.range 64).map (fun j => [s1.corrected u 0 ca j, s1.corrected u 1 cb j])).flatten
    let words := codes.zipIdx.map (fun e => s1.landWord u (128 * n + e.2) e.1)
    let peak := (ca ++ cb).foldl (fun m c => max m c.natAbs) 0
    let s2 := s1.modUnit u (fun y => { y with
      slotN := n + 1, fifoA := fa, fifoB := fb, codes := codes
      words := (words.reverse ++ (if n = x.slotN then y.words else [])).take keepWords
      gapSlots := if gap then (n :: y.gapSlots).take 32768 else y.gapSlots
      arcMax := if gap then y.arcMax else some (max peak (y.arcMax.getD 0)) })
    let s3 := forAll (List.replicate (ka + kb) u) noteStale s2
    forAll (List.replicate (bit ra.isNone + bit rb.isNone) u) noteBubble s3

/-- The tile's factor words 0-8 measured by a storm recalibration are within the limits (R42, R51). -/
def recalOk (u : Nat) (m : List Word) : Bool :=
  (List.range 9).all (fun w => facWordOk (isOrx u) w (m.getD w 0))

/-- A rejected factor: the old factors stay, CAL_FAIL is set and the unit is out of service (R51). -/
def calReject (u : Nat) (s : State) : State :=
  if isOrx u then
    react ev_ORX_OUT_OF_SERVICE (unitSrc u) (unitArea u) (setOutOfService u) (s.put TILE_ORXSTAT_CAL_FAIL 1 (u - 96))
  else
    let was := s.outOfService u
    let s1 := react ev_PORT_CAL_FAIL u (.port u) (setOutOfService u) (s.pput TILE_PORTSTAT_CAL_FAIL u 1)
    if !was && s1.outOfService u then emit ev_PORT_OUT_OF_SERVICE u s1 (.port u) else s1

/-- Factors of a calibration apply at the next beat boundary: the latencies of a port are due there, and its 18 zeroed samples
where its receive pipeline delay changed (R49, R59, R73). -/
def latencyDue (u : Nat) (rx : Bool) (s : State) : State :=
  if isOrx u then s else { s with fab := { s.fab with latDue := (s.fab.latDue.filter (fun x => x.1 ≠ u)) ++ [(u, rx)] } }

/-- The end of an 80 ms storm recalibration; one that comes due while its tile is calibrated is absorbed into that calibration
(R42, R49). -/
def stormRecalDone (u : Nat) (meas : Option (List Word)) (s : State) : State :=
  match (s.unit u).recalAt with
  | none => s
  | some e =>
    if s.calOn (unitTile u) then s
    else
      let s1 := (s.moveTo e).modUnit u (fun y => { y with recalAt := none })
      match meas with
      | none => outOfServiceEvent u (if isOrx u then s1.put TILE_ORXSTAT_CAL_FAIL 1 (u - 96) else s1.pput TILE_PORTSTAT_CAL_FAIL u 1)
      | some m =>
        if recalOk u m then
          let s2 := forAll (List.range 9) (fun w t => t.setCalfac (unitTile u) (facBase u + w) (m.getD w 0)) s1
          (latencyDue u (loS (s.ufac u 8) ≠ loS (m.getD 8 0)) s2).modUnit u (fun y => { y with history := [] })
        else calReject u s1

/-- A write of 1 to PORTSTAT.BUBBLE_MUTE releases the storm mute (R42, R54). -/
def bubbleMuteRelease (n : Nat) (s : State) : State := s.pput TILE_PORTSTAT_BUBBLE_MUTE n 0

/-! ### The observation input switch (R48) -/

/-- First converter sample at or after the present moment. -/
def State.convNow (s : State) : Nat := (s.now - s.align + Config.convSample - 1) / Config.convSample

/-- Switch the ORx of tile t to input i: 200 ns of settling, 8,192 samples marked GAP (R48). The marked samples keep their
converted values (DESIGN CHOICE, log 137). -/
def orxSwitch (t i : Nat) (s : State) : State :=
  let d := s.convNow
  ((s.put TILE_ORXSTAT_INPUT i t).put TILE_ORXSTAT_SETTLING 1 t).modUnit (96 + t) (fun y =>
    { noteAtt d (s.get TILE_ORXATT_ATT t i) y with
      settleAt := some (s.now + 200 * Config.ticksPerNs), spans := (d, d + 8191) :: y.spans.take 1023 })

/-- The switch window of an ORx ends (R48). -/
def orxSettleEnd (t : Nat) (s : State) : State :=
  match (s.unit (96 + t)).settleAt with
  | none => s
  | some e => ((s.moveTo e).put TILE_ORXSTAT_SETTLING 0 t).modUnit (96 + t) (fun y => { y with settleAt := none })

/-! ### Background correction (R43) -/

/-- CALFAC value a residual factor is added to, in the encoding of the factor (R50). -/
def State.facOf (s : State) (u f : Nat) : Int :=
  if f = 0 then loS (s.ufac u 0) else if f = 1 then hiS (s.ufac u 0)
  else if f = 2 then ((s.ufac u 1).toNat % 65536 : Nat) else if f = 3 then ((s.ufac u 1).toNat / 65536 : Nat)
  else if f = 4 then loS (s.ufac u 2)
  else if f % 2 = 1 then loS (s.ufac u (3 + (f - 5) / 2)) else hiS (s.ufac u (3 + (f - 5) / 2))

/-- Lowest and highest value of the sum of factor and residual (R43, R51). -/
def facRange (f : Nat) : Int × Int :=
  if f < 2 then (-512, 512) else if f < 4 then (29197, 36765) else if f = 4 then (-5368, 5368) else (-8192, 8192)

/-- The limit of a residual update for BGC_CONV, a quarter of the factor's limit (R43, R51). The gain limit is not symmetric: a
quarter of its lower side is taken, (1 - 0.891) / 4 (DESIGN CHOICE, log 138). -/
def facQuarter (f : Nat) : Nat := if f < 2 then 128 else if f < 4 then 893 else if f = 4 then 1342 else 2048

/-- Background residuals of the unit are updated: never while a cause of GAP stands (DESIGN CHOICE, log 139) nor, on a port,
with BGC_EN = 0 (R34, R43). -/
def State.bgcRuns (s : State) (u : Nat) : Bool := (isOrx u || s.pflag TILE_PORTCFG_BGC_EN u) && !s.gapCause u

/-- One update of a background residual at a beat boundary: held at its limit with BGC_LIMIT (R43). An ORx raises it from its tile
source (DESIGN CHOICE, log 140: R55 lists the port only). -/
def bgcUpdate (u f : Nat) (delta : Int) (s : State) : State :=
  if !s.bgcRuns u then s
  else
    let band := s.unitBand u
    let set := tabGet (s.unit u).bgc band
    let old := set.resid.getD f 0
    let (lo, hi) := facRange f
    let fac := s.facOf u f
    let want := fac + old + delta
    let got := clampI lo hi want
    let resid := (List.range 13).map (fun i => if i = f then got - fac else set.resid.getD i 0)
    let s1 := s.modUnit u (fun y => { y with bgc := tabSet y.bgc band { set with resid := resid, trained := true } })
    if got ≠ want then emit ev_BGC_LIMIT (unitSrc u) s1 else s1

/-- Show BGC_CONV of a port (R43, R54). -/
def showConv (u : Nat) (s : State) : State :=
  if isOrx u then s else s.pput TILE_PORTSTAT_BGC_CONV u (bit (tabGet (s.unit u).bgc (s.unitBand u) : BgcSet).conv)

/-- Count a beat of unit u towards convergence: one whose updates, with their changes, were all within a quarter of the limit; a
large one, or a beat without an update, starts the count again (R43). -/
def bgcBeat (u : Nat) (deltas : List (Nat × Int)) (s : State) : State :=
  let band := s.unitBand u
  let set := tabGet (s.unit u).bgc band
  let small := deltas.all (fun d => d.2.natAbs ≤ facQuarter d.1)
  let n := if !s.bgcRuns u || deltas = [] || !small then 0 else set.beats + 1
  let conv := set.conv && (small || !s.bgcRuns u)
  if n = set.beats && conv = set.conv then s
  else showConv u (s.modUnit u (fun y => { y with bgc := tabSet y.bgc band { set with beats := n, conv := conv } }))

/-- The updates of one beat boundary (R43). -/
def bgcBeats (resid : List BgcUpdate) (s : State) : State :=
  let s1 := forAll resid (fun r t => bgcUpdate r.unit r.factor r.delta t) s
  let named := (resid.map (fun r => r.unit.val)).eraseDups
  let others := (s.units.filter (fun e => e.2.bgc ≠ [] && !named.contains e.1)).map Prod.fst
  forAll (named ++ others) (fun u t =>
    bgcBeat u ((resid.filter (fun r => r.unit.val = u)).map (fun r => (r.factor.val, r.delta))) t) s1

/-- 64 consecutive beats of small updates set BGC_CONV (R43). -/
def bgcConverged (u : Nat) (s : State) : State :=
  let band := s.unitBand u
  let set := tabGet (s.unit u).bgc band
  if set.conv || set.beats < 64 then s
  else showConv u (s.modUnit u (fun y => { y with bgc := tabSet y.bgc band { set with conv := true } }))

/-- Port or ORx u switches to the residual set of a band, whose count starts again (R43). -/
def bandSwitch (band u : Nat) (s : State) : State :=
  let set := tabGet (s.unit u).bgc band
  let s1 := s.modUnit u (fun y => { y with bgc := tabSet y.bgc band { set with beats := 0 } })
  if isOrx u then s1
  else (s1.pput TILE_PORTSTAT_TBAND u band).pput TILE_PORTSTAT_BGC_CONV u (bit set.conv)

/-- A tile's band change takes effect at its next beat boundary (R43, R355). -/
def tbandSet (t : Nat) (s : State) : State :=
  let band : Nat := tabGet s.therm.bands t
  if s.get PWR_TILE_TBAND t = band then s
  else
    let s1 := (s.moveTo s.beatCeil).put PWR_TILE_TBAND band t
    emit ev_TBAND_SET (96 + t) (forAll (portsOf t ++ [96 + t]) (bandSwitch band) s1)

/-- Drop every residual set of a unit: after its calibration or a factory load each starts from zero, not converged (R43). -/
def clearBgc (u : Nat) (s : State) : State := showConv u (s.modUnit u (fun y => { y with bgc := [] }))

/-! ### Self-calibration (R49-R53) -/

/-- Start the next group of up to four tiles (R49). -/
def calNextGroup (s : State) : State :=
  let g := s.cal.rest.take 4
  let s1 := { s with cal := { s.cal with group := g, rest := s.cal.rest.drop 4, endAt := s.now + 450 * Config.ms } }
  forAll g (fun t y => y.put TILE_CALSTAT_STATE 2 t) s1

/-- Start a calibration of the tiles of a mask (R49). -/
def calStart (mask : Nat) (save startup : Bool) (cmd : Option Defer) (s : State) : State :=
  let l := (List.range 16).filter (fun t => bitOf mask t)
  let s1 := forAll l (fun t y => y.put TILE_CALSTAT_STATE 1 t) s
  calNextGroup { s1 with cal := { running := true, startup := startup, rest := l, save := save, cmd := cmd } }

/-- Units calibrated with a tile, in the order of the measured lists: ports 0-5, then the ORx (R49). -/
def calUnits (t : Nat) : List Nat := portsOf t ++ [96 + t]

/-- Words of factors a unit owns (R50). -/
def facWords (u : Nat) : Nat := if isOrx u then 16 else 40

/-- Temperature of tile t as CALSTAT and factor word 15 show it: whole °C, signed (R50, R53, R352). -/
def State.tileDegree (s : State) (t : Nat) : Nat :=
  codeOf 8 (clampI (-128) 127 (roundDiv (tabGet s.therm.tile t : Int) 128))

/-- Accept or reject the measured factors of one unit (R49, R51); word 15 takes the tile's temperature and band. A unit whose
factors are accepted has calibrated successfully, whatever the other units of the command (DESIGN CHOICE, log 141): it returns to
service and its storm times go, and its bubble history where a storm recalibration was absorbed (R42, R49). -/
def calUnit (u : Nat) (m : List Word) (s : State) : State :=
  let t := unitTile u
  let stamp : Word := BitVec.ofNat 32 (s.tileDegree t + 256 * s.get PWR_TILE_TBAND t)
  let word := fun w => if w = 15 then stamp else m.getD w 0
  let s0 := s.modUnit u (fun y => { y with recalAt := none })
  if (List.range (facWords u)).all (fun w => facWordOk (isOrx u) w (word w)) then
    let s1 := forAll (List.range (facWords u)) (fun w y => y.setCalfac t (facBase u + w) (word w)) s0
    let s2 := if isOrx u then (s1.put TILE_ORXSTAT_CAL_FAIL 0 t).put TILE_ORXSTAT_OUT_OF_SERVICE 0 t
      else (s1.pput TILE_PORTSTAT_CAL_FAIL u 0).pput TILE_PORTSTAT_OUT_OF_SERVICE u 0
    let due := (s.unit u).recalAt.isSome
    (clearBgc u (latencyDue u (loS (s.ufac u 8) ≠ loS (word 8)) s2)).modUnit u (fun y =>
      { y with storms := [], stormFrom := none, history := if due then [] else y.history })
  else
    let s1 := s0.put TILE_CALSTAT_FAIL_MASK (s0.get TILE_CALSTAT_FAIL_MASK t ||| 2 ^ (if isOrx u then 6 else u % 6)) t
    calReject u { s1 with cal := { s1.cal with fails := s1.cal.fails ||| 2 ^ t } }

/-- A calibration ends: the command completes with the mask of failed tiles, starts its bank save, or completes; the
start-up calibration sets STARTCAL_DONE and releases the hold (R49, R52, R396). -/
def calFinish (s : State) : State :=
  let c := s.cal
  let s1 := { s with cal := { c with running := false } }
  if c.startup then
    let s2 := s1.put GLB_BOOTSTAT_STARTCAL_DONE 1
    if c.save && c.fails = 0 then { s2 with cal := { saving := true, save := true } }.put PST_STAT_CAL_SAVING 1
    else { s2 with cal := {} }
  else
    match c.cmd with
    | none => { s1 with cal := {} }
    | some d =>
      if c.fails ≠ 0 then completeDefer d stCAL_PARTIAL { s1 with cal := {} } c.fails
      else if c.save then { s1 with cal := { c with running := false, saving := true } }.put PST_STAT_CAL_SAVING 1
      else completeDefer d stSUCCESS { s1 with cal := {} }

/-- A tile's 450 ms calibration ends with the limit checks (R49, R51, R53). -/
def calDone (t : Nat) (meas : List (List Word)) (s : State) : State :=
  if !s.calOn t then s
  else
    let s1 := (s.moveTo s.cal.endAt).put TILE_CALSTAT_FAIL_MASK 0 t
    let s2 := forAll (List.range 7) (fun i y => calUnit ((calUnits t).getD i 0) (meas.getD i []) y) s1
    let s3 := (s2.put TILE_CALSTAT_FAIL (bit (s2.get TILE_CALSTAT_FAIL_MASK t ≠ 0)) t).put TILE_CALSTAT_STATE 3 t
    let s4 := (s3.put TILE_CALSTAT_TEMP (s.tileDegree t) t).put
      TILE_CALSTAT_TBAND (s.get PWR_TILE_TBAND t) t
    let s5 := emit ev_CAL_DONE (96 + t) s4
    let s6 := { s5 with cal := { s5.cal with group := s5.cal.group.filter (fun x => x ≠ t) } }
    if s6.cal.group = [] then (if s6.cal.rest = [] then calFinish s6 else calNextGroup s6) else s6

/-- CONV_CAL (R49): WRONG_STATE when a selected tile is in SLEEP, STANDBY or RELAY, BUSY when another runs. With no tile selected
it completes at once with SUCCESS and saves no bank (DESIGN CHOICE, log 142). -/
def convCal (r tag mask : Nat) (save : Bool) (s : State) : State :=
  let sel := (List.range 16).filter (fun t => bitOf mask t)
  if sel.any (fun t => s.rstate t ≤ 1 || s.rstate t = 4) then completeCmd r tag stWRONG_STATE s
  else if s.cal.running || s.cal.saving then completeCmd r tag stBUSY s
  else if sel = [] then completeCmd r tag stSUCCESS s
  else calStart mask save false (some (s.defer r tag)) s

end Sys2Proof.Machine
end

