-- ==== Sys2Proof/Machine/FabricOps.lean ====
section
/-!
DEFINITION. Sys2Proof/Machine/FabricOps.lean: band paths: their records, streams, latencies, states, mutes and gains
(R72-R104), and the quiet entries that cover an output sub-band (R181-R184).
-/
namespace Sys2Proof.Machine
open Sys2Proof

/-! ### Records and streams -/

/-- The record of path b and the output set it names, as the registers hold them (R86, R87). -/
def State.route (s : State) (b : Nat) : Route :=
  let w0 := s.word FAB_PCFG0 b
  let o := getBits w0 24 7
  { w0 := w0, w1 := s.word FAB_PCFG1 b, w2 := s.word FAB_PCFG2 b, w3 := s.word FAB_PCFG3 b,
    o0 := s.word FAB_OSET o 0, o1 := s.word FAB_OSET o 1, o2 := s.word FAB_OSET o 2 }

/-- ENABLE of a record. -/
def Route.en (r : Route) : Bool := getBits r.w0 0 1 = 1
/-- CLASS is UPLINK. -/
def Route.uplink (r : Route) : Bool := getBits r.w0 1 1 = 1
/-- LOOP_EN. -/
def Route.loopEn (r : Route) : Bool := getBits r.w0 2 1 = 1
/-- LOOP. -/
def Route.loop (r : Route) : Nat := getBits r.w0 3 9
/-- GAIN, 0.05 dB. -/
def Route.gain (r : Route) : Int := signedOf 12 (getBits r.w0 12 12)
/-- OSET. -/
def Route.oset (r : Route) : Nat := getBits r.w0 24 7
/-- K_IN. -/
def Route.kIn (r : Route) : Nat := getBits r.w1 0 10
/-- K_OUT. -/
def Route.kOut (r : Route) : Nat := getBits r.w1 10 10
/-- W. -/
def Route.width (r : Route) : Nat := getBits r.w1 20 8 + 1

/-- One input field: port, SID, VALID. -/
def inField (w : Word) (lo : Nat) : Nat × Nat × Bool := (getBits w lo 7, getBits w (lo + 7) 2, getBits w (lo + 9) 1 = 1)

/-- The valid inputs of a record: position, port, SID. -/
def Route.inputs (r : Route) : List (Nat × Nat × Nat) :=
  ([(0, inField r.w2 0), (1, inField r.w2 16), (2, inField r.w3 0), (3, inField r.w3 16)].filter
    (fun x => x.2.2.2)).map (fun x => (x.1, x.2.1, x.2.2.1))

/-- The output ports of a record, in rising order (R87). -/
def Route.outPorts (r : Route) : List Nat :=
  (List.range 96).filter (fun o =>
    bitOf (if o < 32 then r.o0.toNat else if o < 64 then r.o1.toNat else r.o2.toNat) (o % 32))

/-- The record routes to sub-band K of port o. -/
def Route.routes (r : Route) (o k : Nat) : Bool := r.kOut ≤ k && k < r.kOut + r.width && r.outPorts.contains o

/-- Output sub-bands of a record. -/
def Route.outSubs (r : Route) : List Nat := (List.range r.width).map (fun j => r.kOut + j)

/-- The link streams a route takes on device `own`: SID, port, sub-band (R97). -/
def Route.remote (own : Nat) (r : Route) : List (Nat × Nat × Nat) :=
  ((r.inputs.filter (fun x => x.2.2 ≠ own)).map (fun x => (List.range r.width).map (fun j => (x.2.2, x.2.1, r.kIn + j)))).flatten

/-- Path b beside its record. -/
def State.path (s : State) (b : Nat) : Path := tabGet s.fab.paths b

/-- Change path b. -/
def State.modPath (s : State) (b : Nat) (f : Path → Path) : State :=
  { s with fab := { s.fab with paths := tabMod s.fab.paths b f } }

/-- The governor of path b. -/
def State.gov (s : State) (b : Nat) : Gov := tabGet s.iso.govs b

/-- Change the governor of path b. -/
def State.modGov (s : State) (b : Nat) (f : Gov → Gov) : State :=
  { s with iso := { s.iso with govs := tabMod s.iso.govs b f } }

/-- Paths that are not DISABLED. -/
def State.livePaths (s : State) : List Nat := (s.fab.paths.filter (fun e => e.2.st ≠ 0)).map Prod.fst

/-- Key of a stream. -/
def skey (port k : Nat) : Nat := port * 1024 + k

/-- The device's own STACK_ID (R248). -/
def State.ownSid (s : State) : Nat := s.get QLK_STACKSTAT_STACK_ID

/-- The device is a master: stack ID 0, or no member link up (R248). -/
def State.isMaster (s : State) : Bool :=
  s.ownSid = 0 || (List.range 3).all (fun l => s.get QLK_LINKSTAT_STATE l ≠ 3)

/-- The Quirov link from this device to stack ID j (R249). -/
def State.linkTo (s : State) (j : Nat) : Nat := (j + 7 - s.ownSid) % 4

/-- Quadrant of the lowest-numbered output port (R104). -/
def State.pathQuad (s : State) (b : Nat) : Nat := (s.route b).outPorts.headD 0 / 24

/-- Tile of the lowest-numbered output port (R135). -/
def State.pathTile (s : State) (b : Nat) : Nat := (s.route b).outPorts.headD 0 / 6

/-! ### Moving weights -/

/-- The sample tick before the next sample: a change made now takes its first step at the next sample. -/
def State.sampleBase (s : State) : Nat :=
  s.align + ((s.now - s.align + Config.subSample - 1) / Config.subSample) * Config.subSample - Config.subSample

/-- Position of a fade at tick t (R76, R94). -/
def Fade.pos (f : Fade) (t : Nat) : Nat :=
  let n := (t - f.since) / Config.subSample
  if f.up then min 40 (f.j + n) else f.j - n

/-- Turn a fade up or down from its present position (R94). -/
def Fade.turn (f : Fade) (up : Bool) (base : Nat) : Fade :=
  if f.up = up then f else { j := f.pos base, since := base, up := up }

/-- Applied gain of a path at tick t: at most 0.05 dB per sub-band sample (R94). -/
def Path.gainAt (p : Path) (t : Nat) : Int :=
  let n : Int := ((t - p.gSince) / Config.subSample : Nat)
  if p.gFrom ≤ p.gTo then min p.gTo (p.gFrom + n) else max p.gTo (p.gFrom - n)

/-- G_app of path b now. -/
def State.gApp (s : State) (b : Nat) : Int := (s.path b).gainAt s.now

/-! ### Crossfades -/

/-- The crossfade entry in use that a path belongs to (R99). -/
def State.xfOf (s : State) (b : Nat) : Option Nat :=
  (List.range 64).find? (fun x => s.flag FAB_XFCTL_EN x && (s.get FAB_XFPATH_NEW x = b || s.get FAB_XFPATH_OLD x = b))

/-- Length of crossfade x in samples. -/
def State.xfLen (s : State) (x : Nat) : Nat := 1024 * (s.get FAB_XFCTL_BEATS_M1 x + 1)

/-- Position k of crossfade x at tick t (R100, R101). -/
def State.xfPos (s : State) (x t : Nat) : Nat :=
  let e : Xfade := tabGet s.fab.xfs x
  let n := (t - e.since) / Config.subSample
  match s.get FAB_XFSTAT_PHASE x with
  | 2 => min (s.xfLen x) (e.k + n)
  | 3 => e.k - n
  | _ => 0

/-- Crossfade weight of path b at tick t, in units of 2^−64 (R100). -/
def State.xfWeight (s : State) (b t : Nat) : Nat :=
  match s.xfOf b with
  | none => 2 ^ 64
  | some x =>
    let w := halfCos (s.xfPos x t) (s.xfLen x)
    if s.get FAB_XFPATH_OLD x = b then w else 2 ^ 64 - w

/-! ### Latency (R72, R102) -/

/-- N_RX and N_TX of port p by R72, from CALFAC word 8 and the prototypes. -/
def State.nRxTx (s : State) (p : Nat) : Nat × Nat :=
  let w := (s.ufac p 8).toNat
  let ga := if s.pget TILE_BANKCFG_RX_PROTO p = 1 then 10240 else 8192
  let gs := if s.pget TILE_BANKCFG_TX_PROTO p = 1 then 10240 else 8192
  ((w % 65536 + ga + 5120 + 1023) / 1024, (w / 65536 + gs + 4096 + 1023) / 1024)

/-- N_RX of a remote port as its samples last told it; its reset value before any has come (log 8). -/
def State.remoteNRx (s : State) (sid port : Nat) : Nat := tabGetD 16 s.fab.farRx (sid * 96 + port)

/-- Arrival A of an input: its receive side and, for a remote one, the link transit (R102). -/
def State.arrival (s : State) (port sid : Nat) : Nat :=
  if sid = s.ownSid then s.pget TILE_BANKSTAT_N_RX port
  else s.remoteNRx sid port + (tabGet s.qlk.links (s.linkTo sid)).transit

/-- N_FRONT of a record (R102). -/
def State.nFront (s : State) (r : Route) : Nat :=
  r.inputs.foldl (fun a x => max a (s.arrival x.2.1 x.2.2)) 0 + 8

/-- Smallest and largest N over the output set (R102). -/
def State.nMinMax (s : State) (r : Route) : Nat × Nat :=
  let l := r.outPorts.map (fun o => s.nFront r + s.pget TILE_BANKSTAT_N_TX o)
  (l.foldl min (l.headD 0), l.foldl max 0)

/-- Recompute the latencies of path b; a change on a live path raises PATH_LATENCY unless `quiet` (R102). -/
def pathLatency (quiet : Bool) (b : Nat) (s : State) : State :=
  let p := s.path b
  let r := s.route b
  let nf := if p.st = 0 then 0 else s.nFront r
  let (lo, hi) := if p.st = 0 then (0, 0) else s.nMinMax r
  if p.nFront = nf && p.nMin = lo && p.nMax = hi then s
  else
    let t := s.modPath b (fun x => { x with nFront := nf, nMin := lo, nMax := hi })
    if quiet then t else emit ev_PATH_LATENCY (112 + s.pathQuad b) t .none b

/-- Recompute the latencies of every live path. -/
def pathLatencies (s : State) : State := forAll s.livePaths (pathLatency false) s

/-- Bank settings of port p as the registers hold them, from sample m on. -/
def State.bankNow (s : State) (p m : Nat) : BankSet :=
  { start := m, sharp := s.pget TILE_BANKCFG_RX_PROTO p = 1, shift := s.pget TILE_BANKCFG_SBSHIFT p
    nRx := s.pget TILE_BANKSTAT_N_RX p }

/-- Note a change of the bank settings of port p, from the present sample on; `s0` still holds the old ones (R23, R63). -/
def noteBank (s0 : State) (p : Nat) (s : State) : State :=
  let old := s0.bankNow p 0
  let new := s.bankNow p s.subNow
  if { old with start := new.start } = new then s
  else s.modUnit p (fun x => { x with banks := (new :: (if x.banks = [] then [old] else x.banks)).take 64 })

/-- Put N_RX and N_TX of port p; a change raises LAT_CHANGE (R73, R82). -/
def setLat (p rx tx : Nat) (s : State) : State :=
  let orx := s.pget TILE_BANKSTAT_N_RX p
  let otx := s.pget TILE_BANKSTAT_N_TX p
  if orx = rx && otx = tx then s
  else emit ev_LAT_CHANGE p (noteBank s p ((s.pput TILE_BANKSTAT_N_RX p rx).pput TILE_BANKSTAT_N_TX p tx)) .none
    (pack2 orx rx) (pack2 otx tx)

/-- Recompute the latency terms of port p; the receive side waits while a prototype change zeroes samples (R63, R73). -/
def relat (p : Nat) (s : State) : State :=
  let (rx, tx) := s.nRxTx p
  setLat p (if (s.unit p).zeroFrom.isSome then s.pget TILE_BANKSTAT_N_RX p else rx) tx s

/-- The 18 zeroed samples of a prototype or pipeline change are past: the new N_RX applies from the nineteenth (R63, R73). -/
def protoSwitchEnd (p : Nat) (s : State) : State :=
  match (s.unit p).zeroFrom with
  | none => s
  | some z =>
    let s1 := (s.moveTo (s.align + (z + 18) * Config.subSample)).modUnit p (fun x => { x with zeroFrom := none })
    pathLatencies (relat p s1)

/-- Start the 18 zeroed samples at the present sample (R63). -/
def protoSwitch (p : Nat) (s : State) : State :=
  s.modUnit p (fun x => { x with zeroFrom := some s.subNow, zeros := s.subNow :: x.zeros.take 15 })

/-- Factors that a calibration measured apply at this beat boundary: a changed receive pipeline delay zeroes 18 samples, and the
latencies follow (R49, R59, R73). -/
def latencyApply (p : Nat) (rx : Bool) (s : State) : State :=
  pathLatencies (relat p (if rx then protoSwitch p s else s))

/-! ### Active sub-bands (R79) -/

/-- Sub-band K of port o is active: a path that is not DISABLED routes to it. -/
def State.activeSub (s : State) (o k : Nat) : Bool := s.livePaths.any (fun b => (s.route b).routes o k)

/-- BANKSTAT.ACTIVE of port o. -/
def State.activeCount (s : State) (o : Nat) : Nat := ((List.range 1024).filter (s.activeSub o)).length

/-! ### Quiet entries (R181-R184) -/

/-- Quiet entry e covers sub-band K of port o. -/
def State.quietCovers (s : State) (e o k : Nat) : Bool :=
  bitOf (s.word CLK_QPORT e (o / 32)).toNat (o % 32) && bitOf (s.word CLK_QSB e (k / 32)).toNat (k % 32)

/-- Quiet entry e beside its registers. -/
def State.quiet (s : State) (e : Nat) : Quiet := tabGet s.radio.quiets e

/-- An outbound entry covers an output sub-band of path b. -/
def State.quietCoversPath (s : State) (e b : Nat) : Bool :=
  let r := s.route b
  r.outPorts.any (fun o => r.outSubs.any (fun k => s.quietCovers e o k))

/-- The probe of path b waits: an outbound PROBE entry that covers one of its sub-bands has no grant (R128, R183). -/
def State.probeWaits (s : State) (b : Nat) : Bool :=
  (List.range 4).any (fun i =>
    let e := 4 + i
    s.flag CLK_QCTL_EN e && !s.flag CLK_QCTL_MODE e && s.quietCoversPath e b && !(s.quiet e).gnt)

/-! ### States, hold and mute -/

/-- Change the state of path b; PATH_STATE carries the old and the new code (R90, R91, R104). -/
def setPath (b st : Nat) (s : State) : State :=
  let old := (s.path b).st
  if old = st then s
  else emit ev_PATH_STATE (112 + s.pathQuad b) (s.modPath b (fun p => { p with st := st })) .none b (pack2 old st)

/-- A hold condition of R92 stands for path b. -/
def State.holdCause (s : State) (b : Nat) : Bool :=
  s.flt.dugout || (s.route b).outPorts.any (fun o =>
    s.rstate (o / 6) < 4 || !s.domainOn (64 + o / 24) || s.fab.dead.contains (o / 24))

/-- The host-lost policy mutes (R233). -/
def State.hostMute (s : State) : Bool := s.hif.lost && s.limHostLost

/-- Mute causes of path b (R122). -/
def State.muteCauses (s : State) (b : Nat) : Nat :=
  (s.gov b).causes % 2 + bit (s.flag ISO_PGOV_MUTE b) * 2 + (s.gov b).causes / 4 % 2 * 4 + bit s.hostMute * 8

/-- Path b is muted (R94). -/
def State.pathMuted (s : State) (b : Nat) : Bool := (s.path b).st = 4 || (s.path b).held || s.muteCauses b ≠ 0

/-! ### Gain (R28, R94, R114) -/

/-- M_eff of path b, 0.05 dB (R114). -/
def State.mEff (s : State) (b : Nat) : Int := (max (s.get ISO_PGOV_MARGIN b) s.limMinMargin : Nat)

/-- ISO_b, 0.05 dB: 150 dB without an exposed stream (R112). -/
def State.isoB (s : State) (b : Nat) : Int := ((s.gov b).iso.getD 3000 : Nat)

/-- The limits of the governor present on path b, with their codes (R114). -/
def State.govLimits (s : State) (b : Nat) : List (Nat × Int) :=
  let g := s.gov b
  let up := (s.route b).uplink
  [(0, s.isoB b - s.mEff b)] ++
  (match g.cold with | some c => if (s.path b).st = 1 then [(1, c)] else [] | none => []) ++
  (match g.back with | some c => [(2, c)] | none => []) ++
  (if up && g.squelched then [(3, (s.route b).gain - 600)] else []) ++
  (match g.nr with | some c => if up then [(4, c)] else [] | none => [])

/-- The lowest entry of a list of limits; the lowest code on ties. -/
def lowest (d : Nat × Int) (l : List (Nat × Int)) : Nat × Int := l.foldl (fun a x => if x.2 < a.2 then x else a) d

/-- Shedding reduction of a path, 0.05 dB (R347). -/
def State.shedRed (s : State) (uplink : Bool) : Int :=
  20 * ((if uplink then s.rps.ulNow else s.rps.dlNow : Nat) : Int)

/-- Effective gain of path b under R28 with its source (R102), without the governor limit of code `skip`. -/
def State.gEff (s : State) (b : Nat) (skip : Nat := 9) : Nat × Int :=
  let r := s.route b
  let host := r.gain
  let loop := match (s.path b).loop with | some g => if r.loopEn then [(1, g)] else [] | none => []
  let gov := ((s.govLimits b).filter (fun x => x.1 ≠ skip)).map (fun x => (2, x.2))
  let lock := if r.uplink then [(4, s.limUlGain)] else []
  let base := lowest (0, host) (loop ++ gov ++ lock)
  let red := s.shedRed r.uplink
  if red = 0 then base else (3, base.2 - red)

/-- GOV_SRC of path b: the limit that binds, 7 when none is below the host target (R114). -/
def State.govSrc (s : State) (b : Nat) : Nat := (lowest (7, (s.route b).gain) (s.govLimits b)).1

/-- Bring the mute weight and the applied gain of path b in line with their sources (R94). -/
def syncPath (b : Nat) (s : State) : State :=
  let base := s.sampleBase
  let (src, g) := s.gEff b
  let goal := max (-1200) g
  let muted := s.pathMuted b
  let gs := s.govSrc b
  let law := s.isoB b - s.mEff b
  let t := s.modPath b (fun p =>
    { p with
      mute := p.mute.turn muted base
      limit := src
      gFrom := if p.gTo = goal then p.gFrom else p.gainAt base
      gSince := if p.gTo = goal then p.gSince else base
      gTo := goal })
  t.modGov b (fun x =>
    { x with
      src := gs
      limSince := match x.cold with
        | some c => if x.training && law < c then some (x.limSince.getD s.now) else none
        | none => none })

/-- A path that is being disabled leaves its fade-out tail behind, with the record in force before (R88, R91). -/
def leaveTail (b : Nat) (old : Route) (s : State) : State :=
  let base := s.sampleBase
  s.modPath b (fun p =>
    let m := p.mute.turn true base
    { p with
      mute := m
      tail := some { route := old, nFront := p.nFront, run := p.run, gFrom := p.gFrom, gTo := p.gTo, gSince := p.gSince
                     mute := m, till := base + 41 * Config.subSample } })

/-! ### Settings by sample (R23) -/

/-- The settings of the data path now, as those of sub-band sample n. -/
def State.pastNow (s : State) (n : Nat) : Past :=
  { n := n, regs := s.regs, paths := s.fab.paths, xfs := s.fab.xfs, links := s.iso.links, govs := s.iso.govs }

/-- The state with the settings of a sample in force. -/
def State.under (s : State) (p : Past) : State :=
  { s with regs := p.regs, fab := { s.fab with paths := p.paths, xfs := p.xfs }
           iso := { s.iso with links := p.links, govs := p.govs } }

/-- The state with the settings of sample m in force, where they are still held. -/
def State.asOf (s : State) (m : Nat) : State := match s.past.find? (fun p => p.n = m) with
  | some p => s.under p
  | none => s

/-- Samples whose settings are held: more than the longest N_FRONT. -/
def keepPast : Nat := 512

/-- Note the settings of sample n. -/
def notePast (n : Nat) (s : State) : State := { s with past := (s.pastNow n :: s.past.filter (fun p => p.n ≠ n)).take keepPast }

/-- A change that holds from sample m on takes its place in the settings of the samples from there on (R23). -/
def refreshPast (m : Nat) (s : State) : State :=
  { s with past := s.past.map (fun p => if m ≤ p.n then s.pastNow p.n else p) }

end Sys2Proof.Machine
end

