-- ==== Sys2Proof/Machine/IsoOps.lean ====
section
/-!
DEFINITION. Sys2Proof/Machine/IsoOps.lean: cancel links and their estimates, the governor, oscillation backoff and
shutdown, uplink protection, mutes, cold start and coupling seeds (R105-R135).
-/
namespace Sys2Proof.Machine
open Sys2Proof

/-! ### Cancel links (R105) -/

/-- Link l beside its register. -/
def State.link (s : State) (l : Nat) : Link := tabGet s.iso.links l

/-- Change link l. -/
def State.modLink (s : State) (l : Nat) (f : Link → Link) : State :=
  { s with iso := { s.iso with links := tabMod s.iso.links l f } }

/-- Enabled links. -/
def State.liveLinks (s : State) : List Nat := (s.iso.links.filter (fun e => e.2.st ≠ 0)).map Prod.fst

/-- Victim port of link l. -/
def State.lVictim (s : State) (l : Nat) : Nat := 12 * (l / 2048) + s.get ISO_LCFG_VICTIM l
/-- Victim sub-band of link l. -/
def State.lK (s : State) (l : Nat) : Nat := s.get ISO_LCFG_K l
/-- Source port of link l. -/
def State.lSrc (s : State) (l : Nat) : Nat := s.get ISO_LCFG_SRC_PORT l
/-- Source sub-band K_S of link l. -/
def State.lKs (s : State) (l : Nat) : Nat :=
  let d := s.get ISO_LCFG_DELTA l
  if d = 1 then s.lK l + 1 else if d = 3 then s.lK l - 1 else s.lK l
/-- DLY of link l. -/
def State.lDly (s : State) (l : Nat) : Nat := s.get ISO_LCFG_DLY l
/-- SBSHIFT of the victim port of link l. -/
def State.lShift (s : State) (l : Nat) : Nat := s.pget TILE_BANKCFG_SBSHIFT (s.lVictim l)

/-- ISO_RES of a link, 0.05 dB: 150 dB until its first update (R111). -/
def State.isoRes (s : State) (l : Nat) : Nat :=
  if !(s.link l).updated then 3000
  else (dbFloor 200 (2 ^ 96) ((s.link l).rhobar * 4 ^ s.lShift l) 0 3000).toNat

/-- Σ |h|² of a link, in units of 2^−60. -/
def tapPower (l : Link) : Nat := l.taps.foldl (fun a h => a + (h.1 * h.1 + h.2 * h.2).toNat) 0

/-- ISO_PRE of a link, 0.05 dB (R111). -/
def State.isoPre (s : State) (l : Nat) : Nat :=
  (dbFloor 200 (2 ^ 60) (tapPower (s.link l) * 4 ^ s.lShift l) 0 3000).toNat

/-! ### Isolation of a path (R112) -/

/-- Exposed input streams of a record: SID, port, sub-band. -/
def Route.exposed (r : Route) : List (Nat × Nat × Nat) :=
  if r.outPorts = [] then []
  else
    (r.inputs.map (fun x => ((List.range r.width).map (fun j => r.kIn + j)).filterMap (fun k =>
      if r.kOut ≤ k + 1 && k ≤ r.kOut + r.width then some (x.2.2, x.2.1, k) else none))).flatten

/-- Exposed input streams of path b. -/
def State.exposed (s : State) (b : Nat) : List (Nat × Nat × Nat) := (s.route b).exposed

/-- Link l covers a path of record r on the exposed stream (port, k). -/
def State.coversOn (s : State) (l : Nat) (r : Route) (port k : Nat) : Bool :=
  s.lVictim l = port && s.lK l = k && r.routes (s.lSrc l) (s.lKs l)

/-- Links that cover a path of record r (R112). -/
def State.coveringOf (s : State) (r : Route) : List Nat :=
  s.liveLinks.filter (fun l => r.exposed.any (fun e => e.1 = s.ownSid && s.coversOn l r e.2.1 e.2.2))

/-- Links that cover path b (R112). -/
def State.covering (s : State) (b : Nat) : List Nat := s.coveringOf (s.route b)

/-- A link covers a path that is not DISABLED. -/
def State.coversLive (s : State) (l : Nat) : Bool := s.livePaths.any (fun b => (s.covering b).contains l)

/-- Isolation of one exposed stream: its value in 0.05 dB and whether it is ISO_DECL. -/
def State.streamIso (s : State) (b : Nat) (e : Nat × Nat × Nat) : Nat × Bool :=
  let ls := if e.1 = s.ownSid then s.liveLinks.filter (fun l => (s.link l).updated && s.coversOn l (s.route b) e.2.1 e.2.2) else []
  if ls = [] then (s.get ISO_PGOV_ISO_DECL b, true)
  else ((dbFloor 200 (2 ^ 64) (ls.foldl (fun a l => a + antiDb (-(s.isoRes l : Int))) 0) 0 3000).toNat, false)

/-- Update ISO_b (R112). -/
def updateIso (b : Nat) (s : State) : State :=
  match (s.exposed b).map (s.streamIso b) with
  | [] => s.modGov b (fun g => { g with iso := none, decl := false })
  | x :: xs =>
    let m := xs.foldl (fun a y => if y.1 < a.1 then y else a) x
    s.modGov b (fun g => { g with iso := some m.1, decl := m.2 })

/-! ### Block ends (R111) -/

/-- End block j of link l: rhobar follows rho where the block counts (R111). A block taken at another SBSHIFT than the present
one counts at the present scale, as R110 rescales what rhobar holds. -/
def linkBlock (j l : Nat) (s : State) : State :=
  s.modLink l (fun x =>
    let k : LinkBlk := tabGet x.blocks j
    let y := { x with blocks := x.blocks.filter (fun e => j < e.1) }
    if x.st = 0 || x.st = 4 || x.st = 5 || k.n < 64 then y
    else if k.py < 16 * k.n then { y with quiet := true }
    else
      let rr := k.r.foldl (fun a h => a + (h.1 * h.1 + h.2 * h.2).toNat) 0
      let rho : Nat := (k.n * rr - 32 * k.pe * k.py) * 2 ^ 96 * 4 ^ k.shift / (k.n * k.py * k.py * 4 ^ s.lShift l)
      let nb := ((x.rhobar : Int) + ((rho : Int) - (x.rhobar : Int)) / 4).toNat
      { y with rhobar := nb, updated := true, quiet := false, hourUpd := true })

/-- Headroom H of path b, 0.05 dB (R115). -/
def State.headroom (s : State) (b : Nat) : Int := s.isoB b - s.gApp b

/-- The comb detector cannot hold for path b: no exposed local input whose watch slice is on (R115). -/
def State.combUnavail (s : State) (b : Nat) : Bool :=
  !(s.exposed b).any (fun e => e.1 = s.ownSid && s.domainOn (48 + e.2.1 / 12))

/-- A condition of R116 holds on path b. -/
def State.oscCond (s : State) (b : Nat) : Bool :=
  s.headroom b < s.mEff b || (s.flag ISO_OSCCFG_COMB_EN && (s.gov b).combHi && !s.combUnavail b)

/-! ### Cold start (R126-R129) -/

/-- Links that cover a path of record r and are PROBING or SEEDED become TRACKING when the path leaves TRAINING or stops its
probe (R113, R116). -/
def tracking (r : Route) (probingOnly : Bool) (s : State) : State :=
  forAll (s.coveringOf r) (fun l t =>
    if (t.link l).st = 1 || (!probingOnly && (t.link l).st = 2) then t.modLink l (fun x => { x with st := 3 }) else t) s

/-- Key of a seed record for link l: ISO_LCFG bits [26:0] and the slice (R130). -/
def State.seedKey (s : State) (l : Nat) : Nat := getBits (s.word ISO_LCFG l) 0 27 + l / 2048 * 2 ^ 27

/-- Temperature band of the victim's tile. -/
def State.lBand (s : State) (l : Nat) : Nat := s.get PWR_TILE_TBAND (s.lVictim l / 6)

/-- A bit field of a byte list taken as a little-endian number. -/
def bytesField (l : List Nat) (from_ n lo width : Nat) : Nat := ofLe ((l.drop from_).take n) / 2 ^ lo % 2 ^ width

/-- Bytes of a seed record (R130), its CRC-32C at the end. -/
def seedBytes (r : Seed) : List Nat :=
  let body := leBytes 4 r.key ++ leBytes 4 r.sec ++ [r.band + bit r.valid * 128, r.exp + r.shift * 8] ++ leBytes 2 r.iso ++
    leBytes 4 r.innings ++ (r.taps.map (fun h => leBytes 3 (codeOf 12 h.1 + codeOf 12 h.2 * 4096))).flatten ++ List.replicate 12 0
  body ++ leBytes 4 (crc32c body)

/-- The record a slot of 128 bytes holds (R130). -/
def parseSeed (l : List Nat) : Seed :=
  { good := ofLe (l.drop 124) = crc32c (l.take 124), key := bytesField l 0 4 0 30, sec := bytesField l 4 4 0 32
    band := bytesField l 8 1 0 3, valid := bytesField l 8 1 7 1 = 1, exp := bytesField l 9 1 0 3, shift := bytesField l 9 1 3 3
    iso := bytesField l 10 2 0 16, innings := bytesField l 12 4 0 32
    taps := (List.range 32).map (fun k =>
      let v := bytesField l (16 + 3 * k) 3 0 24
      (signedOf 12 (v % 4096), signedOf 12 (v / 4096))) }

/-- Route of the record in a slot; none in a slot that has never been written. -/
def seedKeyOf (l : List Nat) : Option Nat := if l = [] then none else some (bytesField l 0 4 0 30)

/-- The first usability condition of R126 a matched record fails: 0 band, 1 validity of device time, 2 age, 3 CRC. -/
def State.seedFails (s : State) (l : Nat) (r : Seed) : Option Nat :=
  let age := (s.devTime / 2 ^ 32 + 2 ^ 32 - r.sec) % 2 ^ 32
  if r.band ≠ s.lBand l then some 0
  else if !(s.flag TIM_STAT_VALID && r.valid) then some 1
  else if 86400 ≤ age then some 2
  else if !r.good then some 3
  else none

/-- The records that match link l: one presented from an epoch first, then its slot of the store (R126, R274). -/
def State.seedFor (s : State) (l : Nat) : Option Seed :=
  match s.pst.epochSeeds.find? (fun r => r.key = s.seedKey l) with
  | some r => some r
  | none => (s.pst.seeds.find? (fun e => seedKeyOf e.2.bytes = some (s.seedKey l))).map (fun e => parseSeed e.2.bytes)

/-- Limit of a tap component: ±2.0 in units of 2^−30 (R108). -/
def clampTap (x : Int) : Int := clampI (-(2 ^ 31)) (2 ^ 31 - 1) x

/-- Multiply by 2^d (R110). -/
def scale2 (d : Int) (x : Int) : Int := if 0 ≤ d then x * 2 ^ d.toNat else x / 2 ^ (-d).toNat

/-- Load a seed record into link l (R110, R127). A FROZEN link holds its taps and a LOST one subtracts nothing: neither takes a
seed (R113). -/
def loadSeed (l : Nat) (r : Seed) (s : State) : State :=
  let d : Int := (r.shift : Int) - (s.lShift l : Int)
  s.modLink l (fun x =>
    if 4 ≤ x.st then x
    else
      { x with
        st := 2
        taps := r.taps.map (fun h => (clampTap (scale2 (d + r.exp + 16) h.1), clampTap (scale2 (d + r.exp + 16) h.2)))
        rhobar := antiDb (-(r.iso : Int)) * 2 ^ 32 / 4 ^ s.lShift l
        updated := true, blocks := [] })

/-- Start the probe start of path b: cold-start limit 40 dB below the host target (R128). -/
def probeStart (b : Nat) (s : State) : State :=
  let r := s.route b
  let n := r.outPorts.length * r.width
  s.modGov b (fun g =>
    { g with
      cold := some (r.gain - 800), seeded := false, probe := true
      prbs := (List.range n).map (fun i => (i, (1 + 256 * b + i) % 2 ^ 23)) })

/-- The squelch of path b ends (R121). -/
def unsquelch (b : Nat) (s : State) : State :=
  if (s.gov b).squelched then
    emit ev_SQUELCH (128 + s.pathTile b) (s.modGov b (fun x => { x with squelched := false, signal := false, idle := 0 })) .none b 0
  else s.modGov b (fun x => { x with idle := 0 })

/-- Begin cold start of path b, which has just entered TRAINING or left the hold (R92, R126-R128). `restart`: the path
restarts under R118. -/
def coldStart (restart : Bool) (b : Nat) (s : State) : State :=
  let ls := s.covering b
  let need := ls.filter (fun l => (s.link l).st ≠ 3)
  let check := need.map (fun l => (l, if s.flag ISO_LCFG_SEED l then s.seedFor l else none))
  let s1 := forAll check (fun x t =>
    match x.2 with
    | none => t
    | some r =>
      match t.seedFails x.1 r with
      | some c => emit ev_SEED_REJECT (116 + x.1 / 2048) t .none x.1 c
      | none => t) (unsquelch b s)
  let usable := check.all (fun x => match x.2 with
    | none => false
    | some r => (s.seedFails x.1 r).isNone)
  let s2 := s1.modGov b (fun g =>
    { g with training := true, entry := s.now, points := 0, good := 0, failed := false, back := none, nr := none,
             gainLimited := false, limSince := none, hrRun := 0, combRun := 0, combHi := false })
  let s3 :=
    if !restart && usable then
      let t := forAll check (fun x t => match x.2 with | some r => loadSeed x.1 r t | none => t) s2
      let t1 := updateIso b t
      t1.modGov b (fun g => { g with cold := some (t1.isoB b - t1.mEff b), seeded := true, seededShow := true,
                                     probe := false })
    else (probeStart b (updateIso b s2)).modGov b (fun g => { g with seededShow := false })
  let g := max (-1200) (s3.gEff b).2
  (s3.modPath b (fun p => { p with gFrom := g, gTo := g, gSince := s.sampleBase })).modGov b
    (fun x => { x with startGain := g })

/-- Path b enters TRAINING: cold start begins, or waits for the end of the hold (R91, R92). -/
def enterTraining (restart : Bool) (b : Nat) (s : State) : State :=
  let held := s.holdCause b
  let s1 := (setPath b 1 s).modGov b (fun g => { g with training := false, probe := false, cold := none, back := none })
  let s2 := s1.modPath b (fun p => { p with held := held })
  let s3 := if held && !(s.path b).held then emit ev_PATH_HELD (112 + s.pathQuad b) s2 .none b 1 else s2
  if held then s3.modGov b (fun g => { g with entry := bit restart }) else coldStart restart b s3

/-- Cold start of path b is complete: the path becomes ACTIVE and the probe stops (R127, R129). -/
def trained (b : Nat) (k : EvKind) (s : State) : State :=
  let s1 := s.modGov b (fun g =>
    { g with training := false, probe := false, cold := none, limSince := none,
             gainLimited := g.gainLimited || k.code = ev_TRAIN_LIMITED.code })
  let s2 := setPath b 2 (tracking (s.route b) false s1)
  let g := s2.gov b
  emit k (124 + s.pathQuad b) s2 .none b (pack2 (codeOf 16 g.startGain) (codeOf 16 (s.gApp b))) (bit g.seeded)

/-- The limits of R28 beside the governor's that path b has: host target, loop result, locked maximum. -/
def State.otherLimits (s : State) (b : Nat) : List Int :=
  let r := s.route b
  [r.gain] ++ (match (s.path b).loop with | some g => if r.loopEn then [g] else [] | none => []) ++
    (if r.uplink then [s.limUlGain] else [])

/-- A 10 ms point of the cold start of path b (R129). "Every other limit of R28" is read as the sources of R28 beside the
governor, which holds the cold-start limit itself; while the probe waits, neither ramp nor completion (DEDUCED, log 143). -/
def coldStartStep (b : Nat) (s : State) : State :=
  let g := s.gov b
  match g.cold with
  | none => s
  | some c =>
    if !g.training || (s.path b).st ≠ 1 then s
    else
      let s1 := (s.moveTo (g.entry + (g.points + 1) * 10 * Config.ms)).modGov b (fun x => { x with points := x.points + 1 })
      if g.probe && s1.probeWaits b then s1
      else
        let c' := if s1.gApp b + s1.mEff b ≤ s1.isoB b then c + 20 else c
        let s2 := s1.modGov b (fun x => { x with cold := some c' })
        if (s2.otherLimits b).all (fun v => v ≤ c') then trained b ev_TRAIN_DONE s2 else s2

/-- The law limit has been below the cold-start limit for 500 ms (R129). -/
def trainLimited (b : Nat) (s : State) : State :=
  let g := s.gov b
  match g.limSince with
  | none => s
  | some t => if g.training && (s.path b).st = 1 then trained b ev_TRAIN_LIMITED (s.moveTo (t + 500 * Config.ms)) else s

/-! ### Oscillation (R115-R118) -/

/-- The governor detects oscillation of path b: 3 dB below G_app (R115, R116). -/
def oscDetect (b cond : Nat) (s : State) : State :=
  let g := s.gApp b
  let s1 := tracking (s.route b) true (s.modGov b (fun x =>
    { x with back := some (g - 60), cold := none, training := false, probe := false, m0 := s.now, steps := 0, clearAt := none,
             hrRun := 0, combRun := 0, limSince := none }))
  emit ev_OSC_DETECT (124 + s.pathQuad b) (tracking (s.route b) false (setPath b 3 s1)) .none b cond

/-- A 100 µs point of path b in BACKOFF (R116). -/
def backoffStep (b : Nat) (s : State) : State :=
  let g := s.gov b
  if (s.path b).st ≠ 3 || 19 ≤ g.steps then s
  else
    let s1 := (s.moveTo (g.m0 + (g.steps + 1) * 4000 * Config.subSample)).modGov b (fun x => { x with steps := x.steps + 1 })
    if s1.oscCond b then s1.modGov b (fun x => { x with back := x.back.map (fun v => v - 60), clearAt := none }) else s1

/-- Path b in BACKOFF has been clear for 8,000 samples (R117). -/
def backoffRecovered (b : Nat) (s : State) : State :=
  let g := s.gov b
  match g.clearAt with
  | none => s
  | some t =>
    if (s.path b).st ≠ 3 || s.oscCond b || g.m0 + 80000 * Config.subSample < t + 8000 * Config.subSample then s
    else
      let s1 := s.moveTo (t + 8000 * Config.subSample)
      emit ev_BACKOFF_RECOVERED (124 + s.pathQuad b)
        (setPath b 2 (s1.modGov b (fun x => { x with relAt := s1.now, relN := 0 }))) .none b

/-- A limit v of code c lies above every other limit of R114 present on path b (R117, R120). -/
def State.aboveGov (s : State) (b c : Nat) (v : Int) : Bool := (s.govLimits b).all (fun x => x.1 = c || x.2 < v)

/-- A 10 ms point after the recovery of path b: the backoff limit rises by 1 dB, and is released above every other limit
(R117). -/
def backoffRelease (b : Nat) (s : State) : State :=
  let g := s.gov b
  match g.back with
  | none => s
  | some v =>
    if (s.path b).st ≠ 2 then s
    else
      let s1 := (s.moveTo (g.relAt + (g.relN + 1) * 10 * Config.ms)).modGov b (fun x => { x with relN := x.relN + 1 })
      let v' := if s1.mEff b ≤ s1.headroom b then v + 20 else v
      s1.modGov b (fun x => { x with back := if s1.aboveGov b 2 v' then none else some v' })

/-- Shutdown history of path b. -/
def State.hist (s : State) (b : Nat) : Hist := tabGet s.iso.hist b

/-- Replace the shutdown history of path b. -/
def State.setHist (s : State) (b : Nat) (h : Hist) : State :=
  { s with iso := { s.iso with hist := tabSet s.iso.hist b h } }

/-- Shutdowns of path b in the locked window (R118). -/
def State.shutCount (s : State) (b : Nat) : Nat :=
  ((s.hist b).times.filter (fun t => s.opTime < t + s.limOscWindow * 60 * 65536)).length

/-- Path b enters SHUTDOWN, with its hold-off or lock-out (R118). -/
def shutPath (b : Nat) (s : State) : State :=
  let h := s.hist b
  let s1 := s.setHist b { h with times := (s.opTime :: h.times).take 16 }
  let n := s1.shutCount b
  let locked : Bool := s.limOscCount ≤ n
  let s2 := s1.setHist b { s1.hist b with
    holdEnd := if locked then none else some (s1.opTime + s.limOscBase * 65536 * 2 ^ (n - 1)), lockout := locked }
  let s3 := setPath b 4 (s2.modGov b (fun x => { x with back := none, clearAt := none }))
  if locked then emit ev_PATH_LOCKOUT (124 + s.pathQuad b) s3 .none b else s3

/-- Path b is not recovered 2 ms after the detection: SHUTDOWN (R118), which is withheld from a CONSEQUENT report (R376). -/
def pathShutdown (b : Nat) (s : State) : State :=
  if (s.path b).st ≠ 3 then s
  else react ev_PATH_SHUTDOWN (124 + s.pathQuad b) .none (shutPath b) (s.moveTo ((s.gov b).m0 + 80000 * Config.subSample)) b

/-- The restart hold-off of path b expires (R118). A path that has been disabled meanwhile only loses its hold-off. -/
def pathRestart (b : Nat) (s : State) : State :=
  match (s.hist b).holdEnd with
  | none => s
  | some e =>
    let s1 := s.moveTo (s.now + (e - s.opTime) * (Config.sec / 65536))
    let s2 := s1.setHist b { s1.hist b with holdEnd := none }
    if (s.path b).st ≠ 4 then s2
    else emit ev_PATH_RESTART (124 + s.pathQuad b) (enterTraining true b s2) .none b

/-- A lock-out of path b is cleared (R119): the history goes, and a path still in SHUTDOWN enters TRAINING. -/
def clearLockout (b : Nat) (s : State) : State :=
  if !(s.hist b).lockout then s
  else
    let s1 := s.setHist b {}
    if (s.path b).st = 4 then enterTraining false b s1 else s1

/-- The Offside mute of path b is released (R119, R124). -/
def clearOffside (b : Nat) (s : State) : State := s.modGov b (fun g => { g with causes := g.causes / 2 * 2 })

/-! ### Mute causes (R122, R124) -/

/-- Latch mute cause 2 (R122). -/
def latchCause2 (g : Gov) : Gov := { g with causes := g.causes % 4 + 4 + g.causes / 8 * 8 }

/-- Latch mute cause 2 on every live path that link l covers (R122). -/
def latchLost (l : Nat) (s : State) : State :=
  forAll s.livePaths (fun b t => if (s.covering b).contains l then t.modGov b latchCause2 else t) s

/-- The links of slice c are LOST: no subtraction, taps cleared (R113). -/
def loseSlice (c : Nat) (s : State) : State :=
  forAll (s.liveLinks.filter (fun l => l / 2048 = c)) (fun l t =>
    (latchLost l t).modLink l (fun x =>
      { x with st := 5, taps := [], rhobar := 0, updated := false, blocks := [] }))
    ({ s with iso := { s.iso with lost := (s.iso.lost.filter (fun x => x ≠ c)) ++ [c] } }.put ISO_SLICESTAT_LOST 1 c)

/-- Report the loss of slice c, with its reaction (R135). -/
def sliceLost (c : Nat) (s : State) : State :=
  react ev_CXL_SLICE_LOST (116 + c) (.slice c) (loseSlice c) s

/-- A reloaded slice whose domain is on returns its links to TRACKING at the next beat boundary, with zero taps (R113). -/
def sliceReload (c : Nat) (s : State) : State :=
  if !s.domainOn (56 + c) || !(s.iso.lost.contains c || s.liveLinks.any (fun l => l / 2048 = c && (s.link l).st = 5)) then s
  else
    let s1 := s.moveTo s.beatCeil
    forAll (s1.liveLinks.filter (fun l => l / 2048 = c && (s1.link l).st = 5)) (fun l t =>
      t.modLink l (fun x => { x with st := if t.flag ISO_SLICECFG_FREEZE c then 4 else 3 }))
      { s1 with iso := { s1.iso with lost := s1.iso.lost.filter (fun x => x ≠ c) } }

/-- Set the Offside mute of a path: latched, OFFSIDE_MUTE once per path (R124). -/
def offsideMute (port k b : Nat) (s : State) : State :=
  if (s.gov b).causes % 2 = 1 then s
  else
    react ev_OFFSIDE_MUTE (128 + port / 6) .none
      (fun u => u.modGov b (fun g => { g with causes := g.causes + 1 - g.causes % 2 })) s b (pack2 port k)

/-- Mute the paths a violation on (port, k) concerns (R124). -/
def offsideMutes (port k : Nat) (s : State) : State :=
  let direct := s.livePaths.filter (fun b => (s.route b).routes port k)
  let ps := if direct ≠ [] then direct else s.livePaths.filter (fun b => (s.route b).outPorts.contains port)
  forAll ps (offsideMute port k) s

/-! ### Uplink protection (R120, R121) -/

/-- Mean power of a sum over a beat: 0 when the beat holds no sample. -/
def levelPower (x : Nat × Nat) : Nat × Nat := if x.2 = 0 then (0, 1) else x

/-- Compare two ratios. -/
def ratLe (a b : Nat × Nat) : Bool := a.1 * b.2 ≤ b.1 * a.2

/-- The least of the last 16 beats (R120, R128). -/
def Level.low (l : Level) : Nat × Nat :=
  match l.past with
  | [] => (0, 1)
  | x :: xs => xs.foldl (fun a y => if ratLe (levelPower y) a then levelPower y else a) (levelPower x)

/-- The excess X of path b, in 0.05 dB rounded up, at most 150 dB below zero (R120): level −2 + 10 log10(mean |Z|²/16,384²) dBm
against NFLOOR = −150 + 0.1·code dBm and the locked limit. -/
def State.noiseExcess (s : State) (b : Nat) : Int :=
  let r := s.route b
  let base : Int := -3000 + 2 * (s.get ISO_PUL_NFLOOR b : Int) + 2 * (s.limNr : Int)
  (r.outPorts.map (fun o => r.outSubs.map (fun k =>
    let p := (tabGet s.fab.outLevel (skey o k) : Level).low
    dbCeil 200 p.1 (p.2 * 16384 ^ 2) (-4000) 4000 - 40 - base))).flatten.foldl max (-4000)

/-- The noise-rise limit of an uplink path at a beat (R120). -/
def noiseRise (b : Nat) (s : State) : State :=
  if !(s.route b).uplink then s
  else
    let x := s.noiseExcess b
    let g := s.gov b
    let old := g.nr
    let want : Option Int := if 0 < x then some (s.gApp b - x) else match old with
      | some v => if x ≤ -20 then some (v + 10) else some v
      | none => none
    let t0 := s.modGov b (fun y => { y with nr := want })
    let new : Option Int := match want with
      | some v => if t0.aboveGov b 4 v then none else some v
      | none => none
    let t := s.modGov b (fun y => { y with nr := new })
    if old.isSome = new.isSome then t else emit ev_NOISE_RISE (128 + s.pathTile b) t .none b (bit new.isSome)

/-- Release the backoff limit of an ACTIVE path and its noise-rise limit as soon as they lie above every other limit of R114
(R117, R120). -/
def releaseLimits (b : Nat) (s : State) : State :=
  let s1 := match (s.gov b).back with
    | some v => if (s.path b).st = 2 && s.aboveGov b 2 v then s.modGov b (fun x => { x with back := none }) else s
    | none => s
  match (s1.gov b).nr with
  | some v =>
    if s1.aboveGov b 4 v then
      emit ev_NOISE_RISE (128 + s1.pathTile b) (s1.modGov b (fun x => { x with nr := none })) .none b 0
    else s1
  | none => s1

/-- Key of an input stream: a remote one is keyed above the local ports. -/
def State.inKey (s : State) (sid port k : Nat) : Nat := skey (if sid = s.ownSid then port else port + 96 * (sid + 1)) k

/-- The mean power of one sub-band input in a beat is above SQ_THR (R121): level in dBm from the input scale of R65; the sums hold
land-scaled samples. -/
def State.hasSignal (s : State) (b : Nat) : Bool :=
  let r := s.route b
  r.inputs.any (fun x => (List.range r.width).any (fun j =>
    let p := match (tabGet s.fab.inLevel (s.inKey x.2.2 x.2.1 (r.kIn + j)) : Level).past with
      | y :: _ => levelPower y
      | [] => (0, 1)
    (-1500 + (s.get ISO_PUL_SQ_THR b : Int) + 20 : Int) < dbCeil 100 p.1 (p.2 * 16384 ^ 2) (-4000) 4000))

/-- One beat of the squelch of path b (R121): beats without signal are counted in ACTIVE and BACKOFF. -/
def squelchBeat (b : Nat) (s : State) : State :=
  if !(s.route b).uplink || !s.flag ISO_PUL_SQ_EN b then s
  else
    let sig := s.hasSignal b
    s.modGov b (fun g =>
      { g with
        idle := if sig || (s.path b).st = 1 then 0 else if (s.path b).st = 4 then g.idle else g.idle + 1
        signal := g.squelched && sig })

/-- Path b has gone 3,907 beats without signal (R121). -/
def squelchOn (b : Nat) (s : State) : State :=
  let g := s.gov b
  if g.squelched || g.idle < 3907 || !((s.path b).st = 2 || (s.path b).st = 3) || !(s.route b).uplink ||
      !s.flag ISO_PUL_SQ_EN b then s
  else emit ev_SQUELCH (128 + s.pathTile b) (s.modGov b (fun x => { x with squelched := true, signal := false })) .none b 1

/-- The first beat with signal ends the squelch at the next beat boundary (R121). -/
def squelchOff (b : Nat) (s : State) : State :=
  let g := s.gov b
  if !g.squelched || !g.signal then s
  else
    unsquelch b (s.moveTo s.beatCeil)

/-- A write of ISO_PUL of path b restarts the count of R121; SQ_EN = 0 ends the squelch. -/
def applyPul (b : Nat) (s : State) : State :=
  if s.flag ISO_PUL_SQ_EN b then s.modGov b (fun x => { x with idle := 0 }) else unsquelch b s

/-! ### Hold (R92) -/

/-- Bring path b in line with the hold conditions (R91, R92). -/
def syncHeld (b : Nat) (s : State) : State :=
  let p := s.path b
  let want := s.holdCause b
  if p.st = 0 || want = p.held then s
  else
    let s1 := emit ev_PATH_HELD (112 + s.pathQuad b) (s.modPath b (fun x => { x with held := want })) .none b (bit want)
    if want then
      if p.st = 4 then s1
      else
        (setPath b 1 s1).modGov b (fun g =>
          { g with training := false, probe := false, cold := none, back := none, clearAt := none, limSince := none,
                   entry := 0 })
    else if p.st = 1 then coldStart ((s.gov b).entry = 1) b s1 else s1

/-- Track since when no condition of R116 has held on a path in BACKOFF (R117). -/
def syncClear (b : Nat) (s : State) : State :=
  if (s.path b).st ≠ 3 then s
  else if s.oscCond b then s.modGov b (fun g => { g with clearAt := none })
  else s.modGov b (fun g => { g with clearAt := some (g.clearAt.getD s.now) })

/-! ### The end of a block for a path (R112-R115, R127) -/

/-- One path at a block end: ISO_b, the seeded check, the headroom condition. -/
def pathBlock (b : Nat) (s : State) : State :=
  let s1 := updateIso b s
  let p := s1.path b
  let g := s1.gov b
  if p.held then s1
  else
    let low := s1.headroom b ≤ (s1.get ISO_OSCCFG_DET_HR : Int)
    let run := if low then g.hrRun + 1 else 0
    let s2 := s1.modGov b (fun x => { x with hrRun := run })
    if (p.st = 1 || p.st = 2) && 2 ≤ run then oscDetect b 0 s2
    else if p.st = 1 && g.training && g.seeded then
      let failed : Bool := g.failed || s1.headroom b < s1.mEff b
      if g.good + 1 < 4 then
        s2.modGov b (fun x => { x with good := x.good + 1, failed := failed, cold := some (s2.isoB b - s2.mEff b) })
      else if failed then
        forAll (s2.covering b) (fun l t =>
          if (t.link l).st = 2 then t.modLink l (fun x => { x with st := 1 }) else t)
          ((probeStart b s2).modGov b (fun x => { x with seededShow := false }))
      else trained b ev_TRAIN_DONE s2
    else s2

/-- How long after its last port-plane index a block is complete in the cancellers: the largest N_RX of a victim. -/
def State.blockLag (s : State) : Nat :=
  s.liveLinks.foldl (fun a l => max a (s.pget TILE_BANKSTAT_N_RX (s.lVictim l))) 0

/-- A block of 256 samples ends (R111): links first, then paths. Blocks start at multiples of 256 in the port plane (R69, R108);
the block ends when the last victim's last sample of it has reached the canceller (DEDUCED, log 144). -/
def isoBlockEnd (s : State) : State :=
  let lag := s.blockLag
  let t := (s.now - s.align + Config.subSample - 1) / Config.subSample
  let n := max (s.iso.blockN + 1) ((t - lag + 255) / 256)
  let s1 := s.moveTo (s.align + (n * 256 + lag) * Config.subSample)
  let s2 := { s1 with iso := { s1.iso with blockN := n } }
  forAll s2.livePaths pathBlock (forAll s2.liveLinks (linkBlock (n - 1)) s2)

/-! ### Seeds (R130) -/

/-- The tap exponent: the least e ≤ 4 that fits every mantissa (R130). -/
def tapExp (taps : List (Int × Int)) : Nat :=
  ((List.range 5).find? (fun e => taps.all (fun h =>
    let a := roundDiv h.1 (2 ^ (16 + e))
    let b := roundDiv h.2 (2 ^ (16 + e))
    decide (-2048 ≤ a) && decide (a ≤ 2047) && decide (-2048 ≤ b) && decide (b ≤ 2047)))).getD 4

/-- The seed record of link l now (R130). -/
def State.seedRecord (s : State) (l : Nat) : Seed :=
  let x := s.link l
  let e := tapExp x.taps
  let f := fun v : Int => clampI (-2048) 2047 (roundDiv v (2 ^ (16 + e)))
  let taps := (List.range 32).map (fun k => x.taps.getD k (0, 0))
  { good := true, key := s.seedKey l, sec := s.devTime / 2 ^ 32 % 2 ^ 32, band := s.lBand l, valid := s.flag TIM_STAT_VALID,
    exp := e, shift := s.lShift l, iso := s.isoRes l, innings := s.get GLB_INNINGS_COUNT,
    taps := taps.map (fun h => (f h.1, f h.2)) }

/-- The slot a record goes to: the one with the same route, be its write still under way, else one never written, else the one
written longest ago, no slot that a write under way will take (R130). -/
def State.seedSlot (s : State) (key : Nat) : Nat :=
  let taken := fun i => s.pst.seedBusy.any (fun x => x.1 = i)
  match (s.pst.seedBusy ++ s.pst.seeds.filter (fun e => !taken e.1)).find? (fun e => seedKeyOf e.2.bytes = some key) with
  | some e => e.1
  | none =>
    match (List.range 4096).find? (fun i => (tabGet s.pst.seeds i : SeedSlot).bytes = [] && !taken i) with
    | some i => i
    | none =>
      (((s.pst.seeds.filter (fun e => !taken e.1)).foldl (fun (a : Option (Nat × Nat)) e => match a with
        | none => some (e.1, e.2.at_)
        | some x => if e.2.at_ < x.2 then some (e.1, e.2.at_) else some x) none).map Prod.fst).getD 0

/-- Start writing the seed record of link l. -/
def startSeed (l : Nat) (s : State) : State :=
  let r := s.seedRecord l
  let t := { s with pst := { s.pst with
    seedBusy := s.pst.seedBusy ++ [(s.seedSlot r.key, ({ bytes := seedBytes r, at_ := s.opTime } : SeedSlot))] } }
  (t.put ISO_SEEDSTAT_WRITING 1).modLink l (fun x => { x with hourFrom := s.opTime, hourUpd := false })

/-- The hourly seed write of link l (R130). -/
def seedWrite (l : Nat) (s : State) : State :=
  let x := s.link l
  if x.st ≠ 3 || !s.flag ISO_LCFG_SEED l || !x.hourUpd then s
  else startSeed l (s.moveTo (s.now + (x.hourFrom + 3600 * 65536 - s.opTime) * (Config.sec / 65536)))

/-- A seed write ends: the slot takes the record, or keeps its earlier contents with STORE_FAIL set (R130). -/
def seedWriteDone (slot : Nat) (ok : Bool) (s : State) : State :=
  match s.pst.seedBusy.find? (fun x => x.1 = slot) with
  | none => s
  | some x =>
    let rest := s.pst.seedBusy.filter (fun y => y ≠ x)
    let t := { s with pst := { s.pst with seedBusy := rest, seeds := if ok then tabSet s.pst.seeds slot x.2 else s.pst.seeds } }
    let t1 := t.put ISO_SEEDSTAT_WRITING (bit (rest ≠ []))
    if ok then t1 else t1.put ISO_SEEDSTAT_STORE_FAIL 1

/-! ### The link window (R131) -/

/-- A write of ISO_LSEL takes a snapshot of one link's state, estimates and taps. -/
def lselSnapshot (v : Nat) (s : State) : State :=
  let l := v % 16384
  let x := s.link l
  let s1 := (s.put ISO_LSEL_LINK l).put ISO_LSTAT_STATE x.st
  let s2 := (s1.put ISO_LSTAT_REF_QUIET (bit x.quiet)).put ISO_LSTAT_ISO_RES (s.isoRes l)
  forAll (List.range 32) (fun k t =>
    let h := x.taps.getD k (0, 0)
    let f := fun w : Int => codeOf 16 (clampI (-32768) 32767 (roundDiv w 65536))
    (t.put ISO_LTAP_I (f h.1) k).put ISO_LTAP_Q (f h.2) k) (s2.put ISO_LSTAT_ISO_PRE (s.isoPre l))

end Sys2Proof.Machine
end

