-- ==== Sys2Proof/Machine/DataPath.lean ====
section
/-!
DEFINITION. Sys2Proof/Machine/DataPath.lean: one sub-band sample of the data path: analysis, cancellation, fabric, quiet
weights, regulatory gate and synthesis (R18, R19, R23, R45, R56-R82, R93, R107-R109, R128, R181, R193).
-/
namespace Sys2Proof.Machine
open Sys2Proof

/-- Side flags (R64). -/
def fGAP : Nat := 1
def fSEAM : Nat := 2
def fOVR : Nat := 4
def fSAT : Nat := 8

/-- A substituted sample: zero, marked GAP (R18). -/
def gapSmp : Smp := { f := fGAP }

/-- A flag of a sample. -/
def Smp.has (x : Smp) (flag : Nat) : Bool := x.f / flag % 2 = 1

/-- |z|². -/
def Smp.pow (x : Smp) : Nat := (x.i * x.i + x.q * x.q).toNat

/-- |z|² referred to the land: a sample formed with SBSHIFT s stands for 2^s times its code (R65). -/
def Smp.land (x : Smp) : Nat := x.pow * 4 ^ x.sh

/-! ### Analysis (R57-R66, R75) -/

/-- Merged word of index i of a unit; none where no word was taken. -/
def Unit.wordAt (x : Unit) (i : Int) : Option Int :=
  if i < 0 || ((x.slotN * 128 : Nat) : Int) ≤ i then none else x.words[x.slotN * 128 - 1 - i.toNat]?

/-- First index of the analysis window of frame m (R59, R60). -/
def windowLo (sharp : Bool) (m : Nat) : Int := 1024 * (m : Int) - (if sharp then 6144 else 8192)

/-- GAP, SEAM and OVR of the analysis window that starts at index lo (R75): of every group with a sample in it. A window that
reaches before the alignment pulse, or over indices with no word taken, carries GAP (DESIGN CHOICE, log 145). -/
def windowFlags (x : Unit) (lo : Int) : Nat :=
  let hi := lo + 16383
  let g0 := floorDiv lo 16
  let g1 := floorDiv hi 16
  let gap := lo < 0 || (x.wordAt lo).isNone || (x.wordAt hi).isNone ||
    x.gapSlots.any (fun n => lo ≤ 128 * (n : Int) + 127 && 128 * (n : Int) ≤ hi) ||
    x.spans.any (fun e => ((e.1 / 16 : Nat) : Int) ≤ g1 && g0 ≤ ((e.2 / 16 : Nat) : Int))
  let seam := x.seams.any (fun c => floorDiv ((c.1 : Int) - 164) 16 ≤ g1 && g0 ≤ floorDiv ((c.1 : Int) + 163) 16)
  let ovr := x.ovr.any (fun g => g0 ≤ (g : Int) && (g : Int) ≤ g1)
  bit gap + bit seam * 2 + bit ovr * 4

/-- The bank settings sub-band sample m of unit u is formed with: an ORx is fixed at STANDARD and s = 4 (R63, R71). -/
def State.bankAt (s : State) (u m : Nat) : BankSet :=
  if isOrx u then { nRx := ((s.ufac u 8).toNat % 65536 + 8192 + 5120 + 1023) / 1024 }
  else ((s.unit u).banks.find? (fun b => b.start ≤ m)).getD (s.bankNow u 0)

/-- The index that arrives at sample tick n, from settings newest first; `hi` is the first index that newer settings took over. -/
def arriving (n : Nat) : Option Nat → List BankSet → Option Nat
  | _, [] => none
  | hi, b :: l =>
    let inTime : Bool := match hi with
      | some h => decide (n < h + b.nRx)
      | none => true
    if b.start + b.nRx ≤ n && inTime then some (n - b.nRx) else arriving n (some b.start) l

/-- The port-plane index of the samples of unit u that reach the core at sample tick n (R63, R69, R72). -/
def State.sampleAt (s : State) (u n : Nat) : Option Nat :=
  if isOrx u || (s.unit u).banks = [] then arriving n none [s.bankAt u 0] else arriving n none (s.unit u).banks

/-- The words other than zero of the window that starts at index lo, each with its index. -/
def windowWords (x : Unit) (lo : Int) : List (Int × Int) :=
  let top : Int := ((x.slotN * 128 : Nat) : Int) - 1
  let hi := lo + 16383
  let skip := (top - hi).toNat
  (((x.words.drop skip).take (16384 - (hi - top).toNat)).zipIdx.map (fun e => (top - skip - (e.2 : Int), e.1))).filter
    (fun e => lo ≤ e.1 && e.2 ≠ 0)

/-- cos(2π i / 2048) for i = 0 to 2,047, in units of 2^−64 (log 5). -/
def turnTable : Array Int := ((List.range 2048).map (fun i => cosTurn i 2048)).toArray

/-- cos(2π i / 2048) from the table. -/
def turnCos (i : Int) : Int := turnTable.getD (i % 2048).toNat 0

/-- sin(2π i / 2048) from the table. -/
def turnSin (i : Int) : Int := turnCos (i - 512)

/-- The prototype over a window, folded to the 2,048 points of the transform: index mod 2,048 and sum, in units of 2^−64 (R59). -/
def foldWindow (sharp : Bool) (lo : Int) (ws : List (Int × Int)) : Array Int :=
  ws.foldl (fun a e => a.modify (e.1 % 2048).toNat (fun v => v + e.2 * Config.prototype false sharp (e.1 - lo).toNat))
    (Array.replicate 2048 0)

/-- One output of the transform: Σ u[r] · exp(−j2πkr/2048), in units of 2^−128. -/
def turnSum (u : Array Int) (k : Nat) : Int × Int :=
  (List.range 2048).foldl (fun (a : Int × Int) r =>
    let v := u.getD r 0
    (a.1 + v * turnCos (k * r), a.2 - v * turnSin (k * r))) (0, 0)

/-- Sub-band k of frame m (R56, R58, R65, R66): four times the windowed transform, so that a land sine of amplitude a gives
magnitude 2a · 2^−s with the phase of port-plane index 1,024m; rounded half away from zero, limited to ±32,767 with SAT. Both
halves of the spectrum fall in sub-band 0, which takes half of that and has Q = 0 (DEDUCED, log 146). -/
def bankOut (b : BankSet) (x : Unit) (u : Array Int) (lo : Int) (k : Nat) : Smp :=
  let raw := turnSum u k
  let d : Int := 2 ^ (128 + b.shift)
  let i := roundDiv ((if k = 0 then 2 else 4) * raw.1) d
  let q := if k = 0 then 0 else roundDiv (4 * raw.2) d
  let ci := clampI (-32767) 32767 i
  let cq := clampI (-32767) 32767 q
  { i := ci, q := cq, f := windowFlags x lo + bit (i ≠ ci || q ≠ cq) * 8, sh := b.shift }

/-- Analysis output of unit u, frame m, sub-bands `ks`: one fold of the window serves them all (R59). The 18 samples of a change
are zero with GAP (R63). -/
def State.analyseAll (s : State) (u m : Nat) (ks : List Nat) : List Smp :=
  let x := s.unit u
  let b := s.bankAt u m
  if x.zeros.any (fun z => z ≤ m && m < z + 18) then ks.map (fun _ => { gapSmp with sh := b.shift })
  else
    let lo := windowLo b.sharp m
    let ws := windowWords x lo
    if ws.isEmpty then ks.map (fun _ => { f := windowFlags x lo, sh := b.shift })
    else
      let u := foldWindow b.sharp lo ws
      ks.map (bankOut b x u lo)

/-- Analysis output of unit u, sub-band k, frame m. -/
def State.analyse (s : State) (u k m : Nat) : Smp := (s.analyseAll u m [k]).headD gapSmp

/-- A slip found in this beat marks what crosses into an island (R19). -/
def State.slipNow (s : State) (island : Nat) : Bool := s.slipIn island s.beatNow

/-- A sample replaced by zero with GAP where its token is missing or its crossing slipped (R18, R19). -/
def substituted (gone : Bool) (x : Smp) : Smp := if gone then { gapSmp with sh := x.sh } else x

/-- Sample m of (port, k) as it reaches the canceller slice of the port. A missing token of that crossing carries one sample of all
the port's sub-bands (DESIGN CHOICE, log 148). -/
def State.sliced (s : State) (port k m : Nat) : Smp :=
  substituted ((s.unit port).lacks.contains m || s.slipIn (0x14 + port / 12) ((m + (s.bankAt port m).nRx) / 1024))
    (s.analyse port k m)

/-! ### Streams -/

/-- Sample of index m of a stream history. -/
def histAt (l : List (Nat × Smp)) (m : Nat) : Option Smp := (l.find? (fun e => e.1 = m)).map Prod.snd

/-- Output stream sample y of port-plane index m: an index before the alignment pulse or a stream with nothing is zero. -/
def State.outAt (s : State) (o k : Nat) (m : Int) : Smp :=
  if m < 0 then {} else (histAt (tabGet s.fab.outs (skey o k)) m.toNat).getD {}

/-- Input sample (after cancellation) of a local stream: a stream without links passes unchanged (R108). -/
def State.inAt (s : State) (port k m : Nat) : Smp :=
  (histAt (tabGet s.fab.ins (skey port k)) m).getD (s.sliced port k m)

/-- Input sample of a remote stream: GAP while its link is down or nothing arrived (R98). -/
def State.remoteAt (s : State) (sid port k m : Nat) : Smp :=
  if !s.fab.up.contains (s.linkTo sid) then gapSmp
  else (histAt (tabGet s.fab.remote (skey (sid * 96 + port) k)) m).getD gapSmp

/-- Put a sample in a stream history of 256 samples. -/
def pushSmp (l : List (Nat × Smp)) (m : Nat) (x : Smp) : List (Nat × Smp) := ((m, x) :: l).take 256

/-- Add |z|² to the running beat of a level. -/
def Level.add (l : Level) (p : Nat) : Level := { l with sum := l.sum + p, cnt := l.cnt + 1 }

/-- End a beat of a level (R120). -/
def Level.beat (l : Level) : Level := { sum := 0, cnt := 0, past := ((l.sum, l.cnt) :: l.past).take 16 }

/-- Add the land power of a sample to the level of an input stream (R121, R128). -/
def noteLevel (key : Nat) (x : Smp) (s : State) : State :=
  { s with fab := { s.fab with inLevel := tabMod s.fab.inLevel key (fun l => l.add x.land) } }

/-! ### Cancellation (R108, R109) -/

/-- The 32 reference samples of a link of source (o, k) and bulk delay d for victim index m. -/
def State.refs (s : State) (o k d m : Nat) : List Smp :=
  (List.range 32).map (fun (j : Nat) => s.outAt o k ((m : Int) - (d : Int) - (j : Int)))

/-- est_l(m) in units of 2^−30. -/
def estimate (taps : List (Int × Int)) (ys : List Smp) : Int × Int :=
  (taps.zip ys).foldl (fun a x =>
    (a.1 + x.1.1 * x.2.i - x.1.2 * x.2.q, a.2 + x.1.1 * x.2.q + x.1.2 * x.2.i)) (0, 0)

/-- One update of the taps of a link (R108): taps at the scale of SBSHIFT `s`, e at its own. -/
def adapt (mu sh : Nat) (e : Smp) (taps : List (Int × Int)) (ys : List Smp) : List (Int × Int) :=
  let p : Int := ((ys.foldl (fun a y => a + y.pow) 0 + 256 : Nat) : Int)
  let d := p * 2 ^ (mu + sh)
  (List.range 32).map (fun k =>
    let h := taps.getD k (0, 0)
    let y := ys.getD k {}
    (clampTap (h.1 + roundDiv ((e.i * y.i + e.q * y.q) * 2 ^ (30 + e.sh)) d),
     clampTap (h.2 + roundDiv ((e.q * y.i - e.i * y.q) * 2 ^ (30 + e.sh)) d)))

/-- Account one sample in a block of a link (R111). -/
def blockAdd (e : Smp) (ys : List Smp) (x : LinkBlk) : LinkBlk :=
  { n := x.n + 1
    r := (List.range 32).map (fun k =>
      let a := x.r.getD k (0, 0)
      let y := ys.getD k {}
      (a.1 + e.i * y.i + e.q * y.q, a.2 + e.q * y.i - e.i * y.q))
    pe := x.pe + e.pow
    py := x.py + (ys.headD {}).pow
    shift := e.sh }

/-- A link as it acts on one victim sample: its number, taps, the SBSHIFT their scale refers to, its references, and whether it is
the link in force now, which adapts. -/
structure Onto where
  l : Nat
  taps : List (Int × Int)
  sh : Nat
  ys : List Smp
  mine : Bool

/-- The links onto (port, k) at sample m (R23, R108): those of the settings of that sample, with the taps in force where the record
is still the same. A LOST link subtracts nothing (R113). -/
def State.linksOnto (s : State) (port k m : Nat) : List Onto :=
  let v := s.asOf m
  (v.liveLinks.filter (fun l => (v.link l).st ≠ 5 && (s.link l).st ≠ 5 && v.lVictim l = port && v.lK l = k)).map (fun l =>
    let mine : Bool := (s.link l).st ≠ 0 && getBits (v.word ISO_LCFG l) 0 27 = getBits (s.word ISO_LCFG l) 0 27
    { l := l, taps := if mine then (s.link l).taps else (v.link l).taps, sh := if mine then s.lShift l else v.lShift l
      ys := s.refs (v.lSrc l) (v.lKs l) (v.lDly l) m, mine := mine })

/-- One sample of victim stream (port, k): the residual replaces the analysis output, and the links adapt. A sample with GAP passes
as zero with its side bits (R64, R109). -/
def cancelOne (n port k : Nat) (s : State) : State :=
  match s.sampleAt port n with
  | none => s
  | some m =>
    let x := s.sliced port k m
    let ls := s.linksOnto port k m
    let est := ls.foldl (fun (a : Int × Int) o =>
      let z := estimate o.taps o.ys
      (a.1 + z.1 * 2 ^ (8 + o.sh), a.2 + z.2 * 2 ^ (8 + o.sh))) (0, 0)
    let d : Int := 2 ^ (38 + x.sh)
    let i := roundDiv (x.i * d - est.1) d
    let q := roundDiv (x.q * d - est.2) d
    let ci := clampI (-32767) 32767 i
    let cq := clampI (-32767) 32767 q
    let e : Smp := if x.has fGAP then { x with i := 0, q := 0 }
      else { x with i := ci, q := cq, f := if i ≠ ci || q ≠ cq then x.f ||| fSAT else x.f }
    let s1 := forAll ls (fun o t =>
      if !o.mine || x.f ≠ 0 || o.ys.any (fun y => y.has fGAP || y.has fSAT) then t
      else t.modLink o.l (fun v =>
        if v.st = 4 then v
        else
          let w := { v with blocks := tabMod v.blocks (m / 256) (blockAdd e o.ys) }
          if m % 4 = 0 then { w with taps := adapt (s.get ISO_LCFG_MU o.l) o.sh e v.taps o.ys } else w)) s
    noteLevel (skey port k) e
      { s1 with fab := { s1.fab with ins := tabMod s1.fab.ins (skey port k) (fun h => pushSmp h m e) } }

/-- The local streams a canceller slice works on: every victim, and every input of a path that is not DISABLED, which passes
through it, with those sent to other devices (R97, R108, R128). -/
def State.slicedStreams (s : State) : List Nat :=
  (s.liveLinks.map (fun l => skey (s.lVictim l) (s.lK l)) ++
    (s.livePaths.map (fun b =>
      let r := s.route b
      ((r.inputs.filter (fun x => x.2.2 = s.ownSid)).map (fun x =>
        (List.range r.width).map (fun j => skey x.2.1 (r.kIn + j)))).flatten)).flatten ++
    s.fab.sends.map (fun x => skey x.2.1 x.2.2)).eraseDups

/-- Cancel every such stream at sample tick n. -/
def cancelAll (n : Nat) (s : State) : State :=
  forAll s.slicedStreams (fun v t => cancelOne n (v / 1024) (v % 1024) t) s

/-! ### Fabric (R76, R93) -/

/-- One step of the fade machine (R76). -/
def InFade.step (x : InFade) (gap : Bool) : InFade :=
  let mode := if gap then 1 else x.mode
  if mode = 1 then
    let j := min 40 (x.j + 1)
    { mode := if j = 40 && !gap then 2 else 1, j := j }
  else if mode = 2 then
    let j := x.j - 1
    { mode := if j = 0 then 0 else 2, j := j }
  else x

/-- What one path relays at one sample tick: input index m with the record, gain (0.05 dB), crossfade and mute weights (2^−64)
and run of the settings of that sample; `probe` says that they carry the probe. -/
structure Feed where
  b : Nat
  m : Nat
  run : Nat
  route : Route
  gain : Int
  c : Nat
  u : Nat
  probe : Bool

/-- The feeds of path entry e of the settings v of sample m that are due at sample tick n: its record when it is not DISABLED, and
the tail it left when disabled (R88, R91, R102). -/
def feedsOf (n : Nat) (v : State) (m : Nat) (e : Nat × Path) : List Feed :=
  let t := v.align + m * Config.subSample
  let p := e.2
  (if p.st ≠ 0 && m + p.nFront = n then
    [{ b := e.1, m := m, run := p.run, route := v.route e.1, gain := p.gainAt t, c := v.xfWeight e.1 t
       u := halfCos (p.mute.pos t) 40, probe := (v.gov e.1).probe && p.st = 1 }] else []) ++
  (match p.tail with
   | some x =>
     if t < x.till && m + x.nFront = n then
       [{ b := e.1, m := m, run := x.run, route := x.route, u := halfCos (x.mute.pos t) 40, c := 2 ^ 64, probe := false
          gain := ({ gFrom := x.gFrom, gTo := x.gTo, gSince := x.gSince } : Path).gainAt t }] else []
   | none => [])

/-- What every path relays at sample tick n (R23): each input sample under the settings of its own index, the latest where a latency
has become shorter; where those settings are not held, under the present ones. -/
def State.relays (s : State) (n : Nat) : List Feed :=
  let held := (s.past.map (fun p => (p.paths.map (feedsOf n (s.under p) p.n)).flatten)).flatten
  let lone := (s.fab.paths.map (fun e =>
    ([e.2.nFront] ++ (e.2.tail.map Tail.nFront).toList).eraseDups.flatMap (fun f =>
      if n < f || s.past.any (fun p => p.n = n - f) then [] else feedsOf n s (n - f) e))).flatten
  (held ++ lone).foldl (fun a f => if a.any (fun g => g.b = f.b && g.run = f.run) then a else a ++ [f]) []

/-- Quarters a record has outputs in. -/
def Route.quads (r : Route) : List Nat := (r.outPorts.map (fun o => o / 24)).eraseDups

/-- Input sample m of input (port, sid), sub-band k, of path b as it reaches quarter q. A missing token of that crossing carries one
sample of all the sub-bands of one input of one path (DESIGN CHOICE, log 148). -/
def State.fabricIn (s : State) (q b idx port sid k m : Nat) (miss : List (Nat × Nat)) : Smp :=
  substituted (miss.contains (b, idx) || s.slipNow (0x10 + q))
    (if sid = s.ownSid then s.inAt port k m else s.remoteAt sid port k m)

/-- Fade machine of stream j of input idx of a run, as it enters quarter q. -/
def fadeKey (run q idx j : Nat) : Nat := ((run * 4 + q) * 4 + idx) * 256 + j

/-- Advance the input fades of a feed. -/
def fadeInputs (miss : List (Nat × Nat)) (f : Feed) (s : State) : State :=
  let r := f.route
  { s with fab := { s.fab with fades := forAll r.quads (fun q t =>
      forAll r.inputs (fun x t =>
        forAll (List.range r.width) (fun j u =>
          tabMod u (fadeKey f.run q x.1 j) (fun y =>
            y.step ((s.fabricIn q f.b x.1 x.2.1 x.2.2 (r.kIn + j) f.m miss).has fGAP))) t) t) s.fab.fades } }

/-- 10^(g/400) in units of 2^−64: the amplitude of a gain in 0.05 dB. -/
def ampDb (g : Int) : Nat := isqrt (antiDb g * 2 ^ 64)

/-- The factor 2^s · g_b of R93 in units of 2^−107, with the relative error R93 allows (log 7). -/
def gainFactor (sh : Nat) (g : Int) : Int :=
  (2 ^ sh * ampDb g : Nat) * (2 ^ 43 + ((Config.gainError sh g).val : Int) - 8388607)

/-- Probe bits of register value x: the next two bits of x^23 + x^18 + 1, and the register after them (R128). -/
def prbs2 (x : Nat) : Nat × Nat × Nat :=
  let b0 := (x / 2 ^ 22 + x / 2 ^ 17) % 2
  let x1 := (2 * x + b0) % 2 ^ 23
  let b1 := (x1 / 2 ^ 22 + x1 / 2 ^ 17) % 2
  (b0, b1, (2 * x1 + b1) % 2 ^ 23)

/-- Amplitude a of the probe of path b with record r on sub-band k of port o (R128): 2a² gives P_pr = max N_in + G_target − 20 dB, at
most 20 dB below the locked maximum. -/
def State.probeAmp (s : State) (r : Route) (o k : Nat) : Nat :=
  let up := antiDb (r.gain - 400)
  let pin := (r.inputs.map (fun x => (List.range r.width).map (fun j =>
    let l := (tabGet s.fab.inLevel (s.inKey x.2.2 x.2.1 (r.kIn + j)) : Level).low
    l.1 * up / l.2))).flatten.foldl max 0
  let top := 16384 ^ 2 * antiDb (5 * s.plim o k + 40 - 400)
  let z2 := min pin top / 2 ^ 64
  let a := isqrt (z2 / 2)
  if a * a + a < z2 / 2 then a + 1 else a

/-- The probe of a feed runs: it is not waiting for a grant (R128, R183). -/
def State.probes (s : State) (f : Feed) : Bool := f.probe && !s.probeWaits f.b

/-- What a feed adds to (o, k): the two components in units of 2^−299 and the flags. -/
def State.contrib (s : State) (f : Feed) (o k : Nat) (miss : List (Nat × Nat)) : Int × Int × Nat :=
  let r := f.route
  let j := k - r.kOut
  let q := o / 24
  let sum := r.inputs.foldl (fun (a : Int × Int × Nat) x =>
    let z := s.fabricIn q f.b x.1 x.2.1 x.2.2 (r.kIn + j) f.m miss
    let w := gainFactor z.sh f.gain * (halfCos (tabGet s.fab.fades (fadeKey f.run q x.1 j) : InFade).j 40 : Int) * f.c * f.u
    (a.1 + z.i * w, a.2.1 + z.q * w, if w = 0 then a.2.2 else a.2.2 ||| z.f % 8)) (0, 0, 0)
  if s.probes f then
    let amp : Int := s.probeAmp r o k
    let i := (r.outPorts.idxOf o) * r.width + j
    let (b0, b1, _) := prbs2 (tabGet (s.gov f.b).prbs i)
    let w := amp * f.u * 2 ^ 235
    (sum.1 + (if b0 = 1 then -w else w), sum.2.1 + (if b1 = 1 then -w else w), sum.2.2)
  else sum

/-- Advance the probe registers of a path by one sample (R128). -/
def stepProbe (f : Feed) (s : State) : State :=
  if s.probes f then s.modGov f.b (fun g => { g with prbs := g.prbs.map (fun e => (e.1, (prbs2 e.2).2.2)) }) else s

/-- Output sample of (o, k) as the fabric forms it (R93): rounded, limited with SAT. -/
def State.fabricOut (s : State) (fs : List Feed) (o k : Nat) (miss : List (Nat × Nat)) : Smp :=
  let z := fs.foldl (fun (a : Int × Int × Nat) f =>
    if f.route.routes o k then
      let x := s.contrib f o k miss
      (a.1 + x.1, a.2.1 + x.2.1, a.2.2 ||| x.2.2)
    else a) (0, 0, 0)
  let i := roundDiv z.1 (2 ^ 299)
  let q := roundDiv z.2.1 (2 ^ 299)
  let ci := clampI (-32767) 32767 i
  let cq := clampI (-32767) 32767 q
  if s.fab.dead.contains (o / 24) then {}
  else { i := ci, q := cq, f := z.2.2 + bit (i ≠ ci || q ≠ cq) * 8 }

/-! ### After the fabric: R77, quiet weights and gate -/

/-- Z_lim · 4 of (o, k), rounded to the nearest code (R193). -/
def State.zClamp (s : State) (o k : Nat) : Nat :=
  let z := 16 * 16384 ^ 2 * antiDb (5 * s.plim o k + 40) / 2 ^ 64
  let a := isqrt z
  if a * a + a < z then a + 1 else a

/-- Weight of the locked bitmap on (o, k) at tick t (R193, step 1). -/
def State.gateWeight (s : State) (o k t : Nat) : Nat :=
  match s.pst.gateFades.find? (fun e => e.1 = skey o k) with
  | some e => halfCos (e.2.pos t) 40
  | none => if s.txBit o k then 2 ^ 64 else 0

/-- What the synthesis input of (o, k) receives: the crossing machine of R77, the quiet weight of R181, the gate of R193. -/
def State.gated (s : State) (n o k : Nat) (x : Smp) : Smp :=
  let t := s.align + n * Config.subSample
  let w1 : Int := halfCos (tabGet s.fab.outFades (skey o k) : InFade).j 40
  let w2 : Int := halfCos ((tabGet s.radio.fades (skey o k) : Fade).pos t) 40
  let w3 : Int := s.gateWeight o k t
  let lim : Int := s.zClamp o k
  let a : Int := ampDb (-((tabGet s.pst.gates (skey o k) : Nat) : Int))
  let f := fun v : Int => roundDiv (clampI (-lim) lim (roundDiv (v * w1 * w2 * w3) (2 ^ 192)) * a) (2 ^ 64)
  { x with i := f x.i, q := f x.q }

/-- Note a limited sample: FAB_CLIPCNT, and PATH_CLIP on each path that routes there, after a beat without (R103, R104). -/
def noteClip (fs : List Feed) (o k : Nat) (s : State) : State :=
  forAll ((fs.filter (fun f => f.route.routes o k)).map Feed.b).eraseDups (fun b t =>
    let t1 := t.modPath b (fun p => { p with clipBeat := some t.beatNow })
    if quietBeat (t.path b).clipBeat t.beatNow then emit ev_PATH_CLIP (112 + t.pathQuad b) t1 .none b else t1)
    (s.count FAB_CLIPCNT_SAMPLES)

/-- One output stream at sample tick n. A missing token of the crossing to synthesis carries one sample of one output sub-band
(DESIGN CHOICE, log 148). -/
def outputOne (n : Nat) (fs : List Feed) (o k : Nat) (miss : List (Nat × Nat)) (missOut : List (Nat × Nat)) (s : State) : State :=
  let x := s.fabricOut fs o k miss
  let gap := missOut.contains (o, k) || s.slipNow (o / 6)
  let x1 := substituted gap x
  let s1 := { s with fab := { s.fab with outFades := tabMod s.fab.outFades (skey o k) (fun f => f.step gap) } }
  let y := s1.gated n o k x1
  let idx := n + s.pget TILE_BANKSTAT_N_TX o
  let s2 := { s1 with
    pst := { s1.pst with gateSums := tabMod s1.pst.gateSums (skey o k) (fun v => v + y.pow) }
    fab := { s1.fab with
      outs := tabMod s1.fab.outs (skey o k) (fun h => pushSmp h idx y)
      outLevel := tabMod s1.fab.outLevel (skey o k) (fun l => l.add y.pow) } }
  if x.has fSAT then noteClip fs o k s2 else s2

/-! ### Synthesis (R59, R67, R45, R80) -/

/-- What a frame adds to DAC index p of port-plane time, in units of 2^−128 codes · 2 · 10^(2/20) / 1,024:
Re Σ Z_k · exp(j2πkp/2048), weighted by the prototype over the span of the frame (R59). -/
def spanAdd (sharp : Bool) (p : Int) (f : Frame) : Int :=
  let i := p - 1024 * (f.idx : Int) + (if sharp then 10240 else 8192)
  if i < 0 || 16384 ≤ i then 0
  else
    Config.prototype true sharp i.toNat * f.parts.foldl (fun a z =>
      a + z.2.1 * turnCos (z.1 * p) - z.2.2 * turnSin (z.1 * p)) 0

/-- DAC sample of index p before limiting (R67): a tone |Z| gives a sine of amplitude |Z|/2 · 10^(−2/20) codes. -/
def dacRaw (sharp : Bool) (frames : List Frame) (p : Int) : Int :=
  roundDiv (512 * (ampDb (-40) : Int) * frames.foldl (fun a f => a + spanAdd sharp p f) 0) (2 ^ 192)

/-- The synthesis frame of port o with index idx: the sub-bands fed, sub-band 0 with Q ignored (R58, R80). -/
def State.synthFrame (s : State) (o idx : Nat) : List (Nat × Int × Int) :=
  (s.fab.outs.filter (fun e => e.1 / 1024 = o)).filterMap (fun e =>
    match histAt e.2 idx with
    | some y => some (e.1 % 1024, y.i, if e.1 % 1024 = 0 then 0 else y.q)
    | none => none)

/-- Sample tick n of port o: the new frame enters, and the DAC samples of indices 1,024n to 1,024n + 1,023, which no later frame
reaches, are formed, limited and counted, then multiplied by the mute gain of their group (R45, R67). -/
def synthOne (n o : Nat) (s : State) : State :=
  let idx := n + s.pget TILE_BANKSTAT_N_TX o
  let all := (({ idx := idx, parts := s.synthFrame o idx } : Frame) :: (tabGet s.fab.frames o : List Frame)).take 64
  let frames := if all.all (fun f => f.parts.isEmpty) then [] else all
  let sharp := s.pget TILE_BANKCFG_TX_PROTO o = 1
  let raw := (List.range 1024).map (fun i => if frames.isEmpty then 0 else dacRaw sharp frames ((1024 * n + i : Nat) : Int))
  let lim := raw.map (clampI (-8192) 8191)
  let clips := ((raw.zip lim).filter (fun e => e.1 ≠ e.2)).length
  let x := s.unit o
  let t := s.align + n * Config.subSample
  let dac := if frames.isEmpty then [] else lim.zipIdx.map (fun e =>
    roundDiv (e.1 * ((2 ^ 64 - halfCos (x.ramp (t + e.2 / 16 * 400)) 25600 : Nat) : Int)) (2 ^ 64))
  let s1 := { s with fab := { s.fab with frames := tabSet s.fab.frames o frames, dac := tabSet s.fab.dac o dac } }
  if clips = 0 then s1
  else
    let s2 := (s1.count TILE_TXCLIP_SAMPLES (o / 6) (o % 6) clips).modUnit o (fun y => { y with clipBeat := some s.beatNow })
    if quietBeat x.clipBeat s.beatNow then emit ev_TX_CLIP o s2 else s2

/-! ### The whole sample -/

/-- SAT samples of port p at sample tick n (R81, R82). -/
def noteSat (n p : Nat) (s : State) : State :=
  match s.sampleAt p n with
  | none => s
  | some m =>
    let c := ((s.analyseAll p m (List.range 1024)).filter (fun x => x.has fSAT)).length
    if c = 0 then s
    else
      let s1 := (s.count TILE_SATCNT_SAMPLES (p / 6) (p % 6) c).modUnit p (fun y => { y with satBeat := some s.beatNow })
      if quietBeat (s.unit p).satBeat s.beatNow then emit ev_SB_SAT p s1 else s1

/-- Add the power of the remote inputs of the feeds to their beats (R121, R128); local ones count in their canceller slice. -/
def noteRemote (fs : List Feed) (s : State) : State :=
  let ins := fs.flatMap (fun f => ((f.route.inputs.filter (fun x => x.2.2 ≠ s.ownSid)).flatMap (fun x =>
    (List.range f.route.width).map (fun j =>
      (s.inKey x.2.2 x.2.1 (f.route.kIn + j), s.remoteAt x.2.2 x.2.1 (f.route.kIn + j) f.m)))))
  let once := ins.foldl (fun (a : List (Nat × Smp)) e => if a.any (fun f => f.1 = e.1) then a else e :: a) []
  forAll once (fun e t => noteLevel e.1 e.2 t) s

/-- Take the samples that arrived on the Quirov links (R97). Each comes with the SBSHIFT it was formed with and the N_RX of its
port; a changed N_RX changes the latencies (R102). How the device learns the two is not said (DESIGN CHOICE, log 147). -/
def takeRemote (l : List RemoteSmp) (s : State) : State :=
  forAll l (fun x t =>
    let key := x.sid.val * 96 + x.port.val
    let t1 := { t with fab := { t.fab with
      remote := tabMod t.fab.remote (skey key x.k.val)
        (fun h => pushSmp h x.m { i := clampI (-32767) 32767 x.i, q := clampI (-32767) 32767 x.q, f := x.flags.val, sh := x.shift.val }) } }
    if t.remoteNRx x.sid.val x.port.val = x.nRx then t1
    else pathLatencies { t1 with fab := { t1.fab with farRx := tabInsert key x.nRx t1.fab.farRx } }) s

/-- Streams that reach synthesis at this sample: those a feed routes to. -/
def outStreams (fs : List Feed) : List (Nat × Nat) :=
  (fs.flatMap (fun f => f.route.outPorts.flatMap (fun o => f.route.outSubs.map (fun k => (o, k))))).eraseDups

/-- Drop the tails that have run out, and the fade machines of runs nothing relays any more. -/
def dropTails (s : State) : State :=
  let s1 := forAll (s.fab.paths.filter (fun e => match e.2.tail with
    | some x => x.till ≤ s.now
    | none => false)) (fun e t => t.modPath e.1 (fun p => { p with tail := none })) s
  let runs := fun (l : Tab Path) => l.flatMap (fun e => (if e.2.st ≠ 0 then [e.2.run] else []) ++ (e.2.tail.map Tail.run).toList)
  let keep := runs s1.fab.paths ++ s1.past.flatMap (fun p => runs p.paths)
  { s1 with fab := { s1.fab with fades := s1.fab.fades.filter (fun e => keep.contains (e.1 / 4096)) } }

/-- Note the ports whose token a canceller or watch slice missed at sample tick n (R18). -/
def noteLacks (n : Nat) (missCxl missWatch : List Nat) (s : State) : State :=
  let s1 := forAll missCxl (fun p t => match s.sampleAt p n with
    | some m => t.modUnit p (fun x => { x with lacks := m :: x.lacks.take 255 })
    | none => t) s
  forAll missWatch (fun p t => match s.sampleAt p n with
    | some m => { t with spw := { t.spw with ports := tabMod t.spw.ports p (fun x => { x with lacks := m :: x.lacks.take 4095 }) } }
    | none => t) s1

/-- One sub-band sample of the relay path (R18, R23, R69, R93). Missing crossing tokens are operands: `missIn` by path and input at
the fabric, `missOut` by output sub-band at synthesis, `missCxl` and `missWatch` by port at the canceller and watch slices. The spec
gives a token no size: each carries the samples said here (DESIGN CHOICE, log 148). -/
def sampleStep (missIn missOut : List (Nat × Nat)) (missCxl missWatch : List Nat) (remote : List RemoteSmp) (s : State) : State :=
  let n := max s.fab.sampN ((s.now - s.align + Config.subSample - 1) / Config.subSample)
  let s0 := s.moveTo (s.align + n * Config.subSample)
  let s1 := takeRemote remote (notePast n { s0 with fab := { s0.fab with sampN := n + 1 } })
  let s2 := noteLacks n missCxl missWatch
    (if missIn = [] && missOut = [] && missCxl = [] && missWatch = [] then s1 else s1.put GLB_XSTAT_BUBBLE 1)
  let s3 := forAll ((List.range 96).filter (fun p => (s.unit p).words ≠ [])) (noteSat n) (cancelAll n s2)
  let fs := s3.relays n
  let s4 := noteRemote fs (forAll fs (fadeInputs missIn) s3)
  let outs := outStreams fs
  let s5 := forAll outs (fun e t => outputOne n fs e.1 e.2 missIn missOut t) s4
  let s6 := forAll fs stepProbe s5
  let ports := (outs.map Prod.fst ++ s6.fab.frames.map Prod.fst).eraseDups
  dropTails (forAll ports (synthOne n) s6)

/-! ### The gate at a block end (R193) -/

/-- The gate of (o, k) at the end of a block of 64 samples: the power after step 3 against P_lim, in 0.05 dB, a fall rounded
up. -/
def gateOne (key : Nat) (s : State) : State :=
  let o := key / 1024
  let k := key % 1024
  let sum : Nat := tabGet s.pst.gateSums key
  let lim := 5 * s.plim o k
  let p := dbCeil 200 sum (64 * 16384 ^ 2) (-4000) 4000 - 40
  let a : Nat := tabGet s.pst.gates key
  if sum ≠ 0 && lim < p then
    let t := { s with pst := { s.pst with gates := tabSet s.pst.gates key (a + (p - lim).toNat + 5) } }
    if a = 0 then
      emit ev_GATE_CLAMP 243 (t.count PST_CLAMPCNT_ONSETS) .none 0 (pack2 o k)
    else t
  else if p ≤ lim - 20 then { s with pst := { s.pst with gates := tabSet s.pst.gates key (a - 5) } }
  else s

/-- A block of 64 samples ends (R193): every output sub-band that was fed in it, or whose factor stands below 0 dB, is compared; one
that was not fed had zeros. -/
def gateBlockEnd (s : State) : State :=
  let blk := 64 * Config.subSample
  let s1 := s.moveTo (s.align + ((s.now - s.align) / blk + 1) * blk)
  let s2 := forAll (s1.pst.gateSums.map Prod.fst ++ s1.pst.gates.map Prod.fst).eraseDups gateOne s1
  { s2 with pst := { s2.pst with gateSums := [] } }

end Sys2Proof.Machine
end

