-- ==== Sys2Proof/Machine/Streams.lean ====
section
/-!
DEFINITION. Sys2Proof/Machine/Streams.lean: stream rings and export ports: records handed over, waiting and dropped
(R223, R236-R241).
-/
namespace Sys2Proof.Machine
open Sys2Proof

/-- One whole beat has passed without the thing since its latest beat. -/
def beatSince (last : Option Nat) (b : Nat) : Bool := match last with
  | none => true
  | some x => x + 2 ≤ b

/-! ### Stream rings (R223) -/

/-- Posted entry at an index of stream ring r. -/
def State.strAt (s : State) (r i : Nat) : StrEntry := tabGet s.hif.str (ekey r i)

/-- Entries posted and not yet consumed on stream ring r. -/
def State.postedN (s : State) (r : Nat) : Nat := used (s.depth .str r) (s.get STR_STAT_INDEX r) (s.ring .str r).other

/-- Bytes of posted room on stream ring r. -/
def State.strRoom (s : State) (r : Nat) : Nat :=
  (List.range (s.postedN r)).foldl (fun a i => a + (s.strAt r ((s.get STR_STAT_INDEX r + i) % s.depth .str r)).len) 0

/-- A record of `bytes` is being written on stream ring r: `off` bytes are done. It fills posted buffers in order while there
are any; the result is the count of bytes done and the state (R223). -/
def fillRing (r kind : Nat) (bytes : List Nat) : Nat → Nat → State → Nat × State
  | 0, off, s => (off, s)
  | n + 1, off, s =>
    if bytes.length ≤ off || !s.ringLive .str r || s.postedN r = 0 then (off, s)
    else
      let idx := s.get STR_STAT_INDEX r
      let e := s.strAt r idx
      let part := (bytes.drop off).take e.len
      let off' := off + part.length
      let q := s.ring .str r
      let first : Bool := off = 0
      let last : Bool := bytes.length ≤ off'
      let e' := { e with
        written := part.length, kind := kind, data := part, seq := q.seq
        flags := bit first + bit last * 2 + bit (first && q.dropSince) * 4 + 128
        drops := if first then q.drops else 0 }
      let s1 := { s with hif := { s.hif with str := tabSet s.hif.str (ekey r idx) e' } }
      let s2 := s1.modRing .str r (fun x =>
        { x with
          seq := if last then (x.seq + 1) % 2 ^ 32 else x.seq
          drops := if first then 0 else x.drops
          dropSince := if first then false else x.dropSince })
      fillRing r kind bytes n off' (noteEntry .str r (advance .str r s2))

/-- A record dropped on stream ring r (R236, R247). -/
def dropOnRing (r : Nat) (s : State) : State :=
  let q := s.ring .str r
  let s1 := (s.count STR_DROPCNT_RECORDS r).modRing .str r (fun x =>
    { x with drops := satInc 32 x.drops, dropSince := true, dropBeat := some s.beatNow })
  if beatSince q.dropBeat s.beatNow then emit ev_STREAM_DROP 211 s1 .none 0 r else s1

/-! ### Export ports (R238-R240) -/

/-- Export port e. -/
def State.exportPort (s : State) (e : Nat) : Export := tabGet s.hif.exports e

/-- Change export port e. -/
def State.modExport (s : State) (e : Nat) (f : Export → Export) : State :=
  { s with hif := { s.hif with exports := tabMod s.hif.exports e f } }

/-- The port accepts records: enabled, its domain 69 or 70 on, its link up (R237). -/
def State.exportOpen (s : State) (e : Nat) : Bool :=
  s.flag EXP_CFG_EN e && s.bitAt PWR_DOMSTAT_ON (69 + e / 4) && (s.exportPort e).link

/-- Longest fragment of a frame (R239). -/
def State.fragMax (s : State) (e : Nat) : Nat :=
  s.get EXP_CFG_MTU e - (if s.flag EXP_CFG_IPV6 e then 40 else 20) - 40

/-- Bytes a frame takes in the transmit buffer before its fragment: MAC header and FCS, VLAN tag, IP and UDP headers and the
stream header (log 9). -/
def State.frameSize (s : State) (e : Nat) : Nat :=
  18 + (if s.flag EXP_CFG_VLAN e then 4 else 0) + (if s.flag EXP_CFG_IPV6 e then 40 else 20) + 8 + 32

/-- Fill of the transmit buffer of port e, bytes: its frames, each with its frame check sequence. -/
def State.exportFill (s : State) (e : Nat) : Nat := (s.exportPort e).queue.foldl (fun a f => a + f.length + 4) 0

/-- The stream header of a fragment (R239). -/
def State.streamHeader (s : State) (e kind len off frag : Nat) : List Nat :=
  let x := s.exportPort e
  [0x4D, 0x53, 1, bit (off = 0) + bit (len ≤ off + frag) * 2, kind,
   s.get QLK_STACKSTAT_STACK_ID + s.get QLK_STACKSTAT_PAIR_SIDE * 4, e, 0] ++
  leBytes 4 x.recSeq ++ leBytes 4 len ++ leBytes 4 off ++ leBytes 4 x.frameSeq ++
  leBytes 4 (if off = 0 then x.drops else 0) ++ leBytes 4 0

/-- Big-endian bytes, the order of network headers and of the address registers (R246). -/
def netBytes (n v : Nat) : List Nat := (leBytes n v).reverse

/-- The sum of the 16-bit words of a list of bytes, an odd last byte padded with 0. -/
def wordSum : List Nat → Nat
  | [] => 0
  | [a] => 256 * a
  | a :: b :: l => 256 * a + b + wordSum l

/-- The one's complement checksum of IPv4 and UDP. -/
def inetSum (l : List Nat) : Nat :=
  let a := wordSum l
  let b := a % 65536 + a / 65536
  65535 - (b % 65536 + b / 65536)

/-- The octets of an address of export port e (R246). -/
def State.exportAddr (s : State) (e : Nat) (f : Fld) : List Nat :=
  if s.flag EXP_CFG_IPV6 e then (List.range 4).flatMap (fun i => netBytes 4 (s.get f e i)) else netBytes 4 (s.get f e 0)

/-- The UDP header of a payload, with its checksum over the pseudo header; a sum of 0 is sent as 0xFFFF (R239). -/
def State.udpHeader (s : State) (e : Nat) (p : List Nat) : List Nat :=
  let n := 8 + p.length
  let head := netBytes 2 (s.get EXP_UDP_SRC e) ++ netBytes 2 (s.get EXP_UDP_DST e) ++ netBytes 2 n
  let pseudo := s.exportAddr e EXP_SIP_ADDR ++ s.exportAddr e EXP_DIP_ADDR ++ netBytes 4 n ++ netBytes 4 17
  let c := inetSum (pseudo ++ head ++ p)
  head ++ netBytes 2 (if c = 0 then 65535 else c)

/-- The traffic class byte: DSCP, and two bits that the manual leaves open (log 157). -/
def State.trafficClass (s : State) (e : Nat) : Nat := s.get EXP_CFG_DSCP e * 4 + Config.ipEcn.toNat

/-- The IPv4 header before a datagram of n bytes (R239). -/
def State.ipv4Header (s : State) (e n : Nat) : List Nat :=
  let head := [0x45, s.trafficClass e] ++ netBytes 2 (20 + n) ++ netBytes 2 (Config.ipIdent (s.exportPort e).frameSeq).toNat ++
    netBytes 2 Config.ipFlags.toNat ++ [Config.ipTtl.toNat, 17]
  let addrs := s.exportAddr e EXP_SIP_ADDR ++ s.exportAddr e EXP_DIP_ADDR
  head ++ netBytes 2 (inetSum (head ++ addrs)) ++ addrs

/-- The IPv6 header before a datagram of n bytes (R239). -/
def State.ipv6Header (s : State) (e n : Nat) : List Nat :=
  netBytes 4 (6 * 2 ^ 28 + s.trafficClass e * 2 ^ 20 + Config.ipFlow.toNat) ++ netBytes 2 n ++ [17, Config.ipTtl.toNat] ++
  s.exportAddr e EXP_SIP_ADDR ++ s.exportAddr e EXP_DIP_ADDR

/-- The MAC header: addresses, the IEEE 802.1Q tag with PRIO and VID where VLAN = 1, and the type (R238, R246). -/
def State.macHeader (s : State) (e : Nat) : List Nat :=
  netBytes 4 (s.get EXP_DMAC0_MAC e) ++ netBytes 2 (s.get EXP_DMAC1_MAC e) ++
  netBytes 4 (s.get EXP_SMAC0_MAC e) ++ netBytes 2 (s.get EXP_SMAC1_MAC e) ++
  (if s.flag EXP_CFG_VLAN e then netBytes 2 0x8100 ++ netBytes 2 (s.get EXP_CFG_PRIO e * 8192 + s.get EXP_SMAC1_VID e) else []) ++
  netBytes 2 (if s.flag EXP_CFG_IPV6 e then 0x86DD else 0x0800)

/-- The frame of a UDP payload, up to its frame check sequence (R238, R239). -/
def State.udpFrame (s : State) (e : Nat) (p : List Nat) : List Nat :=
  let d := s.udpHeader e p ++ p
  s.macHeader e ++ (if s.flag EXP_CFG_IPV6 e then s.ipv6Header e d.length else s.ipv4Header e d.length) ++ d

/-- Put one frame of a record in the buffer of port e; `waits` tells a waiting record from a product record. -/
def pushFrame (e kind : Nat) (waits : Bool) (bytes : List Nat) (off : Nat) (s : State) : State :=
  let frag := (bytes.drop off).take (s.fragMax e)
  let last : Bool := bytes.length ≤ off + frag.length
  let f := s.udpFrame e (s.streamHeader e kind bytes.length off frag.length ++ frag)
  s.modExport e (fun x =>
    { x with
      queue := x.queue ++ [f]
      tailWaits := waits
      frameSeq := (x.frameSeq + 1) % 2 ^ 32
      recSeq := if last then (x.recSeq + 1) % 2 ^ 32 else x.recSeq
      drops := if off = 0 then 0 else x.drops })

/-- Hand over a record on port e, at most n of its frames, while there is room (R236, R240). -/
def fillExport (e kind : Nat) (waits : Bool) (bytes : List Nat) : Nat → Nat → State → Nat × State
  | 0, off, s => (off, s)
  | n + 1, off, s =>
    let frag := ((bytes.drop off).take (s.fragMax e)).length
    if bytes.length ≤ off || !s.exportOpen e || frag = 0 ||
        2097152 < s.exportFill e + s.frameSize e + frag then (off, s)
    else fillExport e kind waits bytes n (off + frag) (pushFrame e kind waits bytes off s)

/-- A record dropped on export port e (R236, R247). -/
def dropOnExport (e : Nat) (s : State) : State :=
  let x := s.exportPort e
  let s1 := (s.count EXP_DROPCNT_RECORDS e).modExport e (fun y =>
    { y with drops := satInc 32 y.drops, dropBeat := some s.beatNow })
  if beatSince x.dropBeat s.beatNow then emit ev_EXPORT_DROP (212 + e) s1 else s1

/-! ### Whole records and waiting records -/

/-- A record that has started stands on the stream ring: nothing may be interleaved (R236). -/
def State.ringTaken (s : State) (r : Nat) : Bool := s.hif.waiting.any (fun w => w.ring && w.dest = r && 0 < w.done && w.done < w.bytes.length)

/-- Frames of a record on port e: one fragment each (R239). -/
def State.frameCount (s : State) (e : Nat) (bytes : List Nat) : Nat := (bytes.length + s.fragMax e - 1) / max 1 (s.fragMax e)

/-- Hand over a whole product record, or drop it: the flag says that it was taken (R236, R237). -/
def sendWhole (ring : Bool) (d kind : Nat) (bytes : List Nat) (s : State) : Bool × State :=
  if ring then
    if s.ringLive .str d && !s.ringTaken d && bytes.length ≤ s.strRoom d then
      (true, (fillRing d kind bytes (s.postedN d) 0 s).2)
    else (false, dropOnRing d s)
  else
    let n := s.frameCount d bytes
    if s.exportOpen d && s.exportFill d + n * s.frameSize d + bytes.length ≤ 2097152 then
      (true, (fillExport d kind false bytes n 0 s).2)
    else (false, dropOnExport d s)

/-- The destination of a record takes records at all (R237). -/
def State.destOpen (s : State) (w : Waiting) : Bool := if w.ring then s.ringLive .str w.dest else s.exportOpen w.dest

/-- Count a waiting record as dropped. -/
def dropWaiting (w : Waiting) (s : State) : State := if w.ring then dropOnRing w.dest s else dropOnExport w.dest s

/-- A frame of a waiting record may enter the buffer of port e: frames of waiting records alternate with whole product
records, so none enters behind another that still waits to leave (R236; DEDUCED, log 162). -/
def State.waitTurn (s : State) (e : Nat) : Bool := (s.exportPort e).queue = [] || !(s.exportPort e).tailWaits

/-- Push one waiting record on: buffer by buffer as far as there is room where no other record has started on its ring,
or by one frame where it is its turn (R236). -/
def pushWaiting (w : Waiting) (s : State) : Waiting × State :=
  let started := s.hif.waiting.any (fun v =>
    v.ring && v.dest = w.dest && 0 < v.done && v.done < v.bytes.length && v.slot ≠ w.slot)
  let (n, t) :=
    if w.ring then if started then (w.done, s) else fillRing w.dest w.kind w.bytes (s.postedN w.dest) w.done s
    else if s.waitTurn w.dest then fillExport w.dest w.kind true w.bytes 1 w.done s else (w.done, s)
  ({ w with done := n, since := if n = w.done then w.since else s.now }, t)

/-- Move every waiting record on (R236); a Scorebook copy that is wholly handed over completes its command, a snapshot waits
for SNAP_MOVED. -/
def pump (s : State) : State :=
  let step := fun (a : List Waiting × State) (w : Waiting) =>
    let (w', t) := pushWaiting w a.2
    if w'.bytes.length ≤ w'.done && w'.slot.isNone then
      (a.1, match w'.cmd with | some d => completeDefer d stSUCCESS t | none => t)
    else (a.1 ++ [w'], t)
  let (l, t) := s.hif.waiting.foldl step ([], s)
  { t with hif := { t.hif with waiting := l } }

/-- Start a snapshot or Scorebook copy: dropped at once where its destination takes no records (R237); the flag says that it
was taken. -/
def sendRecord (w : Waiting) (s : State) : Bool × State :=
  if s.destOpen w then (true, pump { s with hif := { s.hif with waiting := s.hif.waiting ++ [{ w with since := s.now }] } })
  else (false, dropWaiting w s)

/-- Abandon the started records of a destination that stops taking records, and drop those that wait there (R237); the
slots of abandoned snapshots are answered. -/
def abandon (ring : Bool) (d : Nat) (s : State) : List Waiting × State :=
  let gone := s.hif.waiting.filter (fun w => w.ring = ring && w.dest = d)
  let t := { s with hif := { s.hif with waiting := s.hif.waiting.filter (fun w => !(w.ring = ring && w.dest = d)) } }
  (gone, forAll gone dropWaiting t)

end Sys2Proof.Machine
end

