-- ==== Sys2Proof/Machine/WatchOps.lean ====
section
/-!
DEFINITION. Sys2Proof/Machine/WatchOps.lean: fine transforms, integrations, kurtosis and product records, capture memory
and snapshots, the Offside detector (R136-R167).
-/
namespace Sys2Proof.Machine
open Sys2Proof

/-! ### IEEE 754 binary32 (R143) -/

/-- A non-negative ratio as binary32, rounded to nearest even. -/
def binary32 (num den : Nat) : Nat :=
  if num = 0 || den = 0 then 0
  else
    let e0 : Int := (Nat.log2 num : Int) - (Nat.log2 den : Int) - 23
    let lt := if 0 ≤ e0 then decide (num < den * 2 ^ (23 + e0.toNat))
      else if e0 ≤ -23 then decide (num * 2 ^ (-e0 - 23).toNat < den) else decide (num < den * 2 ^ (e0 + 23).toNat)
    let e := max (-149) (if lt then e0 - 1 else e0)
    let (a, b) := if 0 ≤ e then (num, den * 2 ^ e.toNat) else (num * 2 ^ (-e).toNat, den)
    let q := a / b
    let r := a % b
    let m := if b < 2 * r || (2 * r = b && q % 2 = 1) then q + 1 else q
    let code := if m < 2 ^ 23 then m else if m = 2 ^ 24 then ((e + 151).toNat) * 2 ^ 23 else ((e + 150).toNat) * 2 ^ 23 + (m - 2 ^ 23)
    min code 0x7F800000

/-! ### Fine transforms (R136-R140) -/

/-- The watch of port n. -/
def State.watch (s : State) (n : Nat) : Watch := tabGet s.spw.ports n

/-- Change the watch of port n. -/
def State.modWatch (s : State) (n : Nat) (f : Watch → Watch) : State :=
  { s with spw := { s.spw with ports := tabMod s.spw.ports n f } }

/-- |X|² · 2^(2s) of kept bin i of 2,048 samples, in units of 2^−150 (R136, R139): each sample counts at its land scale. -/
def binPower (z : List Smp) (i : Nat) : Nat :=
  let sum := z.zipIdx.foldl (fun (a : Int × Int) e =>
    if e.1.i = 0 && e.1.q = 0 then a
    else
      let t : Int := (((i + 1536) * e.2 : Nat) : Int)
      let c := turnCos t * 2 ^ e.1.sh
      let n := turnSin t * 2 ^ e.1.sh
      (a.1 + e.1.i * c + e.1.q * n, a.2 + e.1.q * c - e.1.i * n)) (0, 0)
  (sum.1 * sum.1 + sum.2 * sum.2).toNat

/-- Bin i of sub-band k is evaluated: sub-band 0 reports its lower half as zero (R138). -/
def binKept (k i : Nat) : Bool := k ≠ 0 || 512 ≤ i

/-- The 1,024 kept bins of sub-band k. -/
def fineBins (k : Nat) (z : List Smp) : List Nat :=
  (List.range 1024).map (fun i => if binKept k i then binPower z i else 0)

/-- Sample z of sub-band k is excised (R146): above 10^(EXC_THR/10) · Psb of the last integration, which had a HIGH bin. -/
def excised (on : Bool) (thr : Nat) (l : SbLast) (z : Smp) : Bool :=
  on && l.high && l.num * antiDb (20 * thr) < z.land * l.den * 2 ^ 64

/-- Element-wise sum of two lists of 1,024 numbers, missing ones zero. -/
def addBins (a b : List Nat) : List Nat := (List.range 1024).map (fun i => a.getD i 0 + b.getD i 0)

/-- Enter one transform of sub-band k into its statistics (R140, R143). -/
def enterStat (k : Nat) (on : Bool) (thr : Nat) (l : SbLast) (z : List Smp) (x : SbStat) : SbStat :=
  let f := z.foldl (fun a v => a ||| v.f) 0
  let ex := z.filter (excised on thr l)
  let zx := z.map (fun v => if excised on thr l v then { v with i := 0, q := 0 } else v)
  let y := { x with flags := x.flags ||| f, exc := x.exc + ex.length }
  if f % 2 = 1 then y
  else
    let p := fineBins k zx
    let y1 := { y with nP := y.nP + 1, s1 := addBins y.s1 p, zsum := y.zsum + z.foldl (fun a v => a + v.land) 0 }
    if f ≠ 0 then y1
    else
      let pk := fineBins k z
      { y1 with
        nK := y1.nK + 1
        s1k := addBins y1.s1k pk
        s2 := addBins y1.s2 (pk.map (fun v => v * v))
        pk := (List.range 1024).map (fun i => max (y1.pk.getD i 0) (p.getD i 0)) }

/-- Coarsening is demanded by the shedding ladder (R153, R345). -/
def State.coarseNow (s : State) : Bool := s.flag RPS_SHEDSTAT_COARSE

/-- M of the running integration of port n (R141). -/
def State.mCfg (s : State) (n : Nat) : Nat :=
  let w := s.watch n
  let m := getBits w.cfg 1 20 + 1
  if w.coarse then min (m * 2 ^ (s.get SPW_GCFG_COARSE + 1)) 1048576 else m

/-- Feed the comb detector of path b with the bin powers of one stream (R115). -/
def combFeed (b : Nat) (bins : List Nat) (s : State) : State :=
  let g := s.gov b
  let p := s.path b
  let best := (s.covering b).foldl (fun (a : Option Nat) l => match a with
    | none => some l
    | some m => if s.isoRes l < s.isoRes m then some l else some m) none
  let tau := p.nMin + (match best with
    | none => 0
    | some l =>
      let h := (s.link l).taps.map (fun t => (t.1 * t.1 + t.2 * t.2).toNat)
      s.lDly l + h.idxOf (h.foldl max 0))
  let sums := bins.zipIdx.foldl (fun (a : List Nat) e =>
    a.modify (16 * ((e.2 * tau) % 2048) / 2048) (fun v => v + e.1)) (List.replicate 16 0)
  let total := sums.foldl (· + ·) 0
  if total = 0 then s
  else
    let q := (16 * sums.foldl max 0, total)
    let hi : Bool := (s.get ISO_OSCCFG_COMB_THR : Int) < dbCeil 100 q.1 q.2 (-4000) 4000
    let rise : Bool := g.combQ.1 = 0 || 10 * (q.2 * g.combQ.1) ^ 10 ≤ (q.1 * g.combQ.2) ^ 10
    let run := if hi && rise then g.combRun + 1 else 0
    let t := s.modGov b (fun x => { x with combQ := q, combHi := hi, combRun := run })
    if 3 ≤ run && s.flag ISO_OSCCFG_COMB_EN && (p.st = 1 || p.st = 2) && !p.held then oscDetect b 1 t else t

/-- The stream that supplies the comb detector of path b: its first exposed local input whose watch slice is on (R115;
log 10). -/
def State.combStream (s : State) (b : Nat) : Option (Nat × Nat) :=
  ((s.exposed b).find? (fun e => e.1 = s.ownSid && s.domainOn (48 + e.2.1 / 12))).map (fun e => e.2)

/-- Sample m of (n, k) as it reaches the watch slice of port n (R18, R19, R24). A missing token of that crossing carries one sample of
all the port's sub-bands (DESIGN CHOICE, log 148). -/
def State.watched (s : State) (n k m : Nat) : Smp :=
  substituted ((s.watch n).lacks.contains m || s.slipIn (0x1C + n / 12) ((m + (s.bankAt n m).nRx) / 1024)) (s.analyse n k m)

/-- The next fine transform of port n completes (R136). -/
def fineTransform (n : Nat) (s : State) : State :=
  let w := s.watch n
  if !s.domainOn (48 + n / 12) || w.lost then s
  else
    let j := w.tj
    let last := 2048 * (j + 1) - 1
    let s1 := s.moveTo (s.align + (last + (s.bankAt n last).nRx) * Config.subSample)
    let fresh : Bool := w.cnt = 0
    let read : Bool := fresh && w.cutAt.isNone
    let cfg := if read then s.word SPW_PCFG n else w.cfg
    let range := if read then s.word SPW_PRANGE n else w.range
    let on : Bool := getBits cfg 21 1 = 1
    let zs := fun k => (List.range 2048).map (fun i => s.watched n k (2048 * j + i))
    let s2 := s1.modWatch n (fun x =>
      { x with
        tj := j + 1
        j0 := if fresh then j else x.j0
        cnt := x.cnt + 1
        coarse := if fresh then s.coarseNow else x.coarse
        cfg := cfg, range := range
        sb := forAll (List.range 1024) (fun k t =>
          tabMod t k (enterStat k on (getBits cfg 22 5) (tabGet w.last k) (zs k))) x.sb })
    forAll s2.livePaths (fun b t =>
      match t.combStream b with
      | some (p, k) =>
        if p = n && (zs k).all (fun z => z.f = 0) then combFeed b (fineBins k (zs k)) t else t
      | none => t) s2

/-! ### Integrations (R141-R150) -/

/-- Class of a bin (R144, R145): SK − 1 against N · 2/√M_K, by squares. -/
def skClass (nsig nK s1k s2 : Nat) (kept : Bool) : Nat :=
  if !kept || nK < 16 || s1k = 0 then 3
  else
    let den : Int := ((nK - 1) * s1k * s1k : Nat)
    let num : Int := ((nK + 1 : Nat) : Int) * ((nK * s2 : Nat) - (s1k * s1k : Nat)) - den
    if (nsig * nsig * 4 : Nat) * den * den < num * num * (nK * 100 : Nat) then (if 0 < num then 2 else 1) else 0

/-- Classes of the 1,024 bins of a sub-band. -/
def sbClasses (nsig k : Nat) (x : SbStat) : List Nat :=
  (List.range 1024).map (fun i => skClass nsig x.nK (x.s1k.getD i 0) (x.s2.getD i 0) (binKept k i))

/-- One bin entry of a record (R150) with the scale factors of R139; the sums hold land-scaled powers. -/
def binEntry (cls i : Nat) (x : SbStat) : List Nat :=
  let a := antiDb (-40)
  let p := binary32 (x.s1.getD i 0 * a) (x.nP * 2 ^ 242)
  let f := binary32 (x.s2.getD i 0 * a * a) (x.nK * 2 ^ 484)
  let d := dbFloor 1000 (x.pk.getD i 0 * a) (2 ^ 242) (-25000) 20000
  let c := if x.nK = 0 then 0 else (clampI 0 16383 ((d + 25001) / 2)).toNat
  leBytes 4 p ++ leBytes 4 f ++ leBytes 2 (c + cls * 16384)

/-- T_A: device time of sample 0, in units of 2^−32 s (R69, R260). -/
def State.tAlign (s : State) : Nat :=
  s.get TIM_ALIGN_V 0 + (s.get TIM_ALIGN_V 1 + s.get TIM_ALIGN_V 2 % 65536 * 2 ^ 32) * 2 ^ 32

/-- Time-stamp of sub-band sample m: exact time rounded to the nearest 2^−32 s, halves up (R69, R70). -/
def State.stampOf (s : State) (m : Nat) : Nat := s.tAlign + (2 * m * 2 ^ 32 + 40000000) / 80000000

/-- Product record of sub-band k of port n (R149). -/
def State.productRecord (s : State) (n k : Nat) (short : Bool) (cls : List Nat) : List Nat :=
  let w := s.watch n
  let x := tabGet w.sb k
  let ts := s.stampOf (2048 * w.j0)
  let flags := bit w.part + bit short * 2 + bit w.coarse * 4 + bit (0 < x.exc) * 8 +
    x.flags / 4 % 2 * 16 + x.flags / 8 % 2 * 32 + x.flags / 2 % 2 * 64 + x.flags % 2 * 128
  [1, 1] ++ leBytes 2 flags ++ [n, s.ownSid + s.get QLK_STACKSTAT_PAIR_SIDE * 4] ++ leBytes 2 k ++ leBytes 4 w.seq ++
  leBytes 4 w.j0 ++ leBytes 4 (ts % 2 ^ 32) ++ leBytes 6 (ts / 2 ^ 32) ++ leBytes 3 x.nP ++ leBytes 3 x.nK ++
  leBytes 4 x.exc ++ leBytes 2 (cls.count 2) ++ leBytes 2 (cls.count 1) ++ List.replicate 8 0 ++
  ((List.range 1024).map (fun i => binEntry (cls.getD i 3) i x)).flatten

/-! ### Snapshots (R155-R160) -/

/-- Snapshot slot x. -/
def State.snap (s : State) (x : Nat) : Snap := tabGet s.spw.snaps x

/-- Change snapshot slot x. -/
def State.modSnap (s : State) (x : Nat) (f : Snap → Snap) : State :=
  { s with spw := { s.spw with snaps := tabMod s.spw.snaps x f } }

/-- State of snapshot slot x (R156). -/
def State.snapState (s : State) (x : Nat) : Nat := s.get SPW_SNAPSTAT_STATE x

/-- Slot x is raw. -/
def State.snapRaw (s : State) (x : Nat) : Bool := s.get SPW_SNAPCFG0_KIND x = 0

/-- Samples per stream the region of slot x holds (R158, R159). -/
def State.snapCap (s : State) (x : Nat) : Nat :=
  let bytes := (s.get SPW_SNAPCFG1_SIZE_M1 x + 1) * 1048576
  if s.snapRaw x then bytes / 3136 * 2048 else bytes / (36 * (s.get SPW_SNAPCFG0_WM1 x + 1)) * 8

/-- Index of the oldest sample slot x holds; none while it holds nothing. -/
def State.snapOldest (s : State) (x : Nat) : Option Nat :=
  if s.snapRaw x then (s.snap x).raw.getLast?.map (fun e => 128 * e.1) else (s.snap x).sub.getLast?.map (fun e => e.1)

/-- A trigger of source `src` at a sample index, given as a sub-band index; raw slots count converter samples (R156). Of two sources
on the same sample the lower code is recorded (R157). -/
def snapTrig (x src idx : Nat) (s : State) : State :=
  if !bitOf (s.get SPW_SNAPCFG0_TRIG x) (src - 1) then s
  else
    let st := s.snapState x
    if st = 1 then
      let s1 := (s.put SPW_SNAPSTAT_STATE 2 x).put SPW_SNAPSTAT_SOURCE src x
      let s2 := s1.put SPW_SNAPSTAT_TRUNC (match s.snapOldest x with
        | some o => bit (idx < o)
        | none => 1) x
      s2.modSnap x (fun y => { y with trig := idx, endAt := idx + s.get SPW_SNAPCFG2_POST x * s.snapCap x / 128 })
    else if st = 0 then s
    else if st = 2 && (s.snap x).trig = idx && s.get SPW_SNAPSTAT_SOURCE x ≠ src then
      s.put SPW_SNAPSTAT_SOURCE (min src (s.get SPW_SNAPSTAT_SOURCE x)) x
    else
      let s1 := s.count SPW_SNAPSTAT_MISSED x
      if st = 2 || (s.snap x).missBeat = some s.beatNow then s1
      else emit ev_SNAP_MISSED (152 + x) (s1.modSnap x (fun y => { y with missBeat := some s.beatNow }))

/-- Trigger every slot that a source of `port` concerns: sub-band index m. -/
def snapTrigPort (src m : Nat) (ports : List Nat) (s : State) : State :=
  forAll (List.range 16) (fun x t =>
    if ports.contains (t.get SPW_SNAPCFG0_PORT x) then snapTrig x src (if t.snapRaw x then 1024 * m else m) t else t) s

/-- Flags of group g of a unit as a raw slot stores them: OVR, SEAM, GAP, RANGE (R158). -/
def groupNibble (x : Unit) (g : Nat) : Nat :=
  bit (x.ovr.contains g) +
  bit (x.seams.any (fun c => (c.1 - 164) / 16 ≤ g && g ≤ (c.1 + 163) / 16)) * 2 +
  bit (x.gapSlots.contains (g / 8) || x.spans.any (fun e => e.1 / 16 ≤ g && g ≤ e.2 / 16)) * 4 + bit (x.seams.any (fun c => c.1 / 16 = g)) * 8

/-- Store the latest slot of unit u in the raw slots that record it (R158). -/
def captureRaw (u : Nat) (s : State) : State :=
  let y := s.unit u
  if y.slotN = 0 then s
  else
    let n := y.slotN - 1
    forAll (List.range 16) (fun x t =>
      if t.get SPW_SNAPCFG0_PORT x = u && t.snapRaw x && (t.snap x).from_ ≤ 128 * n && (t.snapState x = 1 || (t.snapState x = 2 && 128 * n ≤ (t.snap x).endAt))
      then
        let e := (n, y.codes.map (clampI (-2048) 2047), (List.range 8).map (fun i => groupNibble y (8 * n + i)))
        t.modSnap x (fun z => { z with raw := (e :: z.raw).take (t.snapCap x / 128) })
      else t) s

/-- Slot x is raw, records unit u and has not been frozen. -/
def State.snapRecords (s : State) (x u : Nat) : Bool :=
  s.get SPW_SNAPCFG0_PORT x = u && s.snapRaw x && 1 ≤ s.snapState x && s.snapState x ≤ 2

/-- Note a change of the attenuation of unit u at index c in the raw slots that record it; a range change is a range entry too
(R160). -/
def noteSnapAtt (range : Bool) (u c code : Nat) (s : State) : State :=
  forAll (List.range 16) (fun x t =>
    if t.snapRecords x u then
      t.modSnap x (fun z => { z with atts := (c, code) :: z.atts, seams := if range then (c, code) :: z.seams else z.seams })
    else t) s

/-- Switch the ORx of tile t to input i; raw slots that already hold samples of the switch window mark them GAP (R48, R158). -/
def orxSwitchTo (t i : Nat) (s : State) : State :=
  let d := s.convNow
  let u := 96 + t
  forAll (List.range 16) (fun x y =>
    if y.snapRecords x u then
      y.modSnap x (fun z => { z with raw := z.raw.map (fun e =>
        if d ≤ 128 * e.1 + 127 && 128 * e.1 ≤ d + 8191 then
          (e.1, e.2.1, e.2.2.zipIdx.map (fun f =>
            if d / 16 ≤ 8 * e.1 + f.2 && 8 * e.1 + f.2 ≤ (d + 8191) / 16 then f.1 ||| 4 else f.1))
        else e) })
    else y) (noteSnapAtt false u d (s.get TILE_ORXATT_ATT t i) (orxSwitch t i s))

/-- Set flag bits on group g of unit u in the raw slots that hold it, as OVR and SEAM become known. -/
def markRaw (u bits g : Nat) (s : State) : State :=
  forAll (List.range 16) (fun x t =>
    if t.snapRecords x u then
      t.modSnap x (fun z => { z with raw := z.raw.map (fun e =>
        if e.1 = g / 8 then (e.1, e.2.1, e.2.2.modify (g % 8) (fun v => v ||| bits)) else e) })
    else t) s

/-- Store the samples of sample tick n in the sub-band slots, before cancellation, from the first sample of the apply beat on,
excised where the port excises (R146, R156, R159). -/
def captureSub (n : Nat) (s : State) : State :=
  forAll (List.range 16) (fun x t =>
    let u := t.get SPW_SNAPCFG0_PORT x
    match t.sampleAt u n with
    | none => t
    | some m =>
      if !t.snapRaw x && (t.snap x).from_ ≤ m && (t.snapState x = 1 || (t.snapState x = 2 && m ≤ (t.snap x).endAt)) then
        let on := u < 96 && t.flag SPW_PCFG_EXCISE u
        let one := fun i =>
          let k := t.get SPW_SNAPCFG0_K_LO x + i
          let z := t.analyse u k m
          if excised on (t.get SPW_PCFG_EXC_THR u) (tabGet (t.watch u).last k) z then { z with i := 0, q := 0 } else z
        let e := (m, (List.range (t.get SPW_SNAPCFG0_WM1 x + 1)).map one)
        t.modSnap x (fun z => { z with sub := (e :: z.sub).take (t.snapCap x) })
      else t) s

/-- Three bytes of two 12-bit samples (R158). -/
def pack12 : List Int → List Nat
  | a :: b :: l => leBytes 3 (codeOf 12 a + codeOf 12 b * 4096) ++ pack12 l
  | _ => []

/-- Two nibbles a byte. -/
def packNib : List Nat → List Nat
  | a :: b :: l => (a % 16 + b % 16 * 16) :: packNib l
  | [a] => [a % 16]
  | [] => []

/-- Cut a list in pieces of n; the fuel bounds the pieces. -/
def pieces {α : Type} (n : Nat) : Nat → List α → List (List α)
  | 0, _ => []
  | f + 1, l => if l.isEmpty then [] else l.take n :: pieces n f (l.drop n)

/-- Data of a raw record: blocks of 16 slots, oldest first (R158). -/
def rawBytes (l : List (Nat × List Int × List Nat)) : List Nat :=
  ((pieces 16 l.length l).map (fun b =>
    (b.map (fun e => pack12 e.2.1)).flatten ++ packNib ((b.map (fun e => e.2.2)).flatten))).flatten

/-- Data of a sub-band record: runs of 8 samples (R159). -/
def subBytes (w : Nat) (l : List (Nat × List Smp)) : List Nat :=
  ((pieces 8 l.length l).map (fun b => ((List.range w).map (fun i =>
    let z := b.map (fun e => e.2.getD i {})
    (z.map (fun v => leBytes 4 (codeOf 16 v.i + codeOf 16 v.q * 65536))).flatten ++ packNib (z.map (fun v => v.f)))).flatten)).flatten

/-- The record of slot x (R160). -/
def State.snapRecord (s : State) (x : Nat) : List Nat :=
  let y := s.snap x
  let raw := s.snapRaw x
  let u := s.get SPW_SNAPCFG0_PORT x
  let w := s.get SPW_SNAPCFG0_WM1 x + 1
  let first := (s.snapOldest x).getD y.trig
  let count := if raw then 128 * y.raw.length else y.sub.length
  let ts := if raw then s.tAlign + (2 * first * 2 ^ 32 + 40960000000) / 81920000000 else s.stampOf first
  let seams := y.seams.reverse.filter (fun c => first < c.1 && c.1 < first + count)
  let att := match y.atts.find? (fun c => c.1 ≤ first) with
    | some c => c.2
    | none => y.att
  let exc := !raw && u < 96 && s.flag SPW_PCFG_EXCISE u
  let flags := s.get SPW_SNAPSTAT_TRUNC x + bit exc * 2 + bit (raw && 64 < seams.length) * 4
  [if raw then 2 else 3, 1] ++ leBytes 2 flags ++ [u, s.ownSid + s.get QLK_STACKSTAT_PAIR_SIDE * 4] ++
  leBytes 2 (if raw then 0 else s.get SPW_SNAPCFG0_K_LO x) ++ [if raw then 0 else w, s.get SPW_SNAPSTAT_SOURCE x] ++
  leBytes 2 x ++ leBytes 4 y.seq ++ leBytes 8 first ++ leBytes 4 (ts % 2 ^ 32) ++ leBytes 6 (ts / 2 ^ 32) ++
  [if raw then att else 0, if raw then min 64 seams.length else 0] ++ leBytes 8 y.trig ++ leBytes 4 count ++
  List.replicate 16 0 ++
  (if raw then rawBytes y.raw.reverse ++
    ((seams.take 64).map (fun c => leBytes 4 (c.1 - first) ++ [c.2, 0, 0, 0])).flatten
   else subBytes w y.sub.reverse)

/-- Start moving slot x: a record dropped at once leaves it FROZEN (R156, R237). -/
def startMove (x : Nat) (s : State) : State :=
  let exp := s.flag SPW_SNAPCFG2_EXP_EN x
  let (ok, t) := sendRecord
    { ring := !exp, dest := if exp then s.get SPW_SNAPCFG2_EXP_PORT x else s.get SPW_SNAPCFG2_RING x
      kind := if s.snapRaw x then 2 else 3, bytes := s.snapRecord x, slot := some x } s
  if ok then t.put SPW_SNAPSTAT_STATE 4 x else t

/-- The post-trigger share of slot x is written (R156). -/
def snapDone (x : Nat) (s : State) : State :=
  if s.snapState x ≠ 2 then s
  else
    let y := s.snap x
    let s1 := s.moveTo (s.align + y.endAt * (if s.snapRaw x then Config.convSample else Config.subSample))
    let s2 := ((s1.put SPW_SNAPSTAT_STATE 3 x).modSnap x (fun z => { z with seq := z.seq + 1 })).put SPW_SNAPSTAT_SEQ
      ((y.seq + 1) % 65536) x
    let s3 := emit ev_SNAP_DONE (152 + x) s2
    if s.flag SPW_SNAPCFG0_AUTO_MOVE x then startMove x s3 else s3

/-- Arm slot x, or arm it again: it records from the present sample on, circularly (R156). -/
def snapArm (x : Nat) (s : State) : State :=
  let u := s.get SPW_SNAPCFG0_PORT x
  let first := if s.snapRaw x then (s.convNow + 127) / 128 * 128 else s.subNow
  (s.put SPW_SNAPSTAT_STATE 1 x).modSnap x (fun z =>
    { raw := [], sub := [], seq := z.seq, from_ := first, atts := (s.unit u).comp.reverse, seams := (s.unit u).comp.reverse
      att := (s.unit u).compAtt })

/-- Take the waiting record of slot x out. -/
def unwait (x : Nat) (s : State) : State :=
  { s with hif := { s.hif with waiting := s.hif.waiting.filter (fun w => w.slot ≠ some x) } }

/-- A moved record is wholly handed over (R156). -/
def snapMoved (x : Nat) (s : State) : State :=
  if s.snapState x ≠ 4 then s
  else
    let t := pump s
    match t.hif.waiting.find? (fun w => w.slot = some x) with
    | none => s
    | some w =>
      if w.done < w.bytes.length then t
      else
        let u := unwait x t
        let v := if s.flag SPW_SNAPCFG0_AUTO_REARM x then snapArm x u else u.put SPW_SNAPSTAT_STATE 3 x
        emit ev_SNAP_MOVED (152 + x) v

/-- Slot x goes to IDLE with its contents discarded; a move in progress is cut short and counted as dropped (R156). -/
def snapIdle (x : Nat) (s : State) : State :=
  let t := match s.hif.waiting.find? (fun w => w.slot = some x) with
    | some w => dropWaiting w (unwait x s)
    | none => s
  (t.put SPW_SNAPSTAT_STATE 0 x).modSnap x (fun z => { z with raw := [], sub := [] })

/-- Domain 75 goes off, or the slot's memory fails: an ARMED or POSTING slot returns to IDLE (R156). -/
def snapAbort (x : Nat) (s : State) : State :=
  if s.snapState x = 1 || s.snapState x = 2 then react ev_SNAP_ABORT (152 + x) .none (snapIdle x) s else s

/-! ### The end of an integration -/

/-- HIGH bins of each sub-band of port n. -/
def State.highCounts (s : State) (n : Nat) : List (Nat × Nat) :=
  let nsig := s.get SPW_GCFG_SK_NSIG
  (s.watch n).sb.map (fun e => (e.1, (sbClasses nsig e.1 e.2).count 2))

/-- Close the running integration of port n: alarm, products, and what excision needs (R142-R151). -/
def closeIntegration (n : Nat) (short : Bool) (s : State) : State :=
  let w := s.watch n
  let nsig := s.get SPW_GCFG_SK_NSIG
  let highs := s.highCounts n
  let kLo := getBits w.range 0 10
  let kHi := getBits w.range 10 10
  let bins := getBits w.range 20 12
  let inRange := (highs.filter (fun e => kLo ≤ e.1 && e.1 ≤ kHi)).foldl (fun a e => a + e.2) 0
  let recs := if getBits w.cfg 0 1 = 1 then
    (List.range (kHi + 1 - kLo)).map (fun i => s.productRecord n (kLo + i) short (sbClasses nsig (kLo + i) (tabGet w.sb (kLo + i))))
    else []
  let s1 := (s.put SPW_PSTAT_HIGH (min 65535 (highs.foldl (fun a e => a + e.2) 0)) n).put SPW_PSTAT_PARTIAL (bit w.part) n
  let s2 := s1.modWatch n (fun x =>
    { x with
      cnt := 0, part := x.nextPart, nextPart := false, seq := (x.seq + 1) % 2 ^ 32, sb := [], cutAt := none
      last := x.sb.map (fun e =>
        (e.1, { high := 0 < (sbClasses nsig e.1 e.2).count 2, num := e.2.zsum, den := max 1 (2048 * e.2.nP) }))
      out := x.out ++ recs
      handAt := s.now })
  if !w.part && bins ≠ 0 && bins ≤ inRange then
    snapTrigPort 2 (2048 * w.j0) [n] (emit ev_SK_ALARM (144 + n / 12) s2 .none 0 n inRange)
  else s2

/-- The integration of port n has all its transforms, or its configuration changed (R141). -/
def integrationEnd (n : Nat) (s : State) : State :=
  let w := s.watch n
  let cut : Bool := match w.cutAt with
    | some a => decide (a ≤ 2048 * w.tj)
    | none => false
  if w.cnt = 0 || w.lost || !(cut || s.mCfg n ≤ w.cnt) then s
  else closeIntegration n (w.cnt < s.mCfg n) s

/-- Hand over the product records of port n, in increasing k (R151). -/
def productHandover (n : Nat) (s : State) : State :=
  let w := s.watch n
  let send := fun (rec_ : List Nat) (t : State) =>
    let (a, t1) := if t.flag SPW_PDEST_RING_EN n then sendWhole true (t.get SPW_PDEST_RING n) 1 rec_ t else (true, t)
    let (b, t2) := if t.flag SPW_PDEST_EXP_EN n then sendWhole false (t.get SPW_PDEST_EXP_PORT n) 1 rec_ t1 else (true, t1)
    let d := bit (!a) + bit (!b)
    if d = 0 then t2
    else
      let t3 := t2.count SPW_DROPCNT_RECORDS 0 0 d
      let t4 := { t3 with spw := { t3.spw with dropBeats := tabSet t3.spw.dropBeats (n / 12) (some t.beatNow) } }
      if quietBeat (tabGet t.spw.dropBeats (n / 12)) t.beatNow then emit ev_PRODUCT_DROP (144 + n / 12) t4 .none 0 n else t4
  forAll w.out send (s.modWatch n (fun x => { x with out := [] }))

/-- The integrations of the ports of slice w end without a report, and restart PARTIAL (R142, R154). -/
def watchClear (w : Nat) (s : State) : State :=
  forAll ((List.range 12).map (fun i => 12 * w + i)) (fun n t =>
    if t.watch n = ({} : Watch) then t
    else t.modWatch n (fun x => { x with cnt := 0, sb := [], part := true, nextPart := false, cutAt := none, last := [], lost := false })) s

/-- An uncorrectable error in the statistics memory of slice w (R167). -/
def watchLost (w : Nat) (s : State) : State :=
  react ev_WATCH_SLICE_LOST (144 + w) (.watch w)
    (fun t => forAll ((List.range 12).map (fun i => 12 * w + i)) (fun n u => u.modWatch n (fun x => { x with lost := true })) t) s

/-- The integrations of a lost slice restart PARTIAL at the next beat boundary (R167). -/
def watchRestart (w : Nat) (s : State) : State :=
  if (List.range 12).any (fun i => (s.watch (12 * w + i)).lost) then
    let s1 := s.moveTo s.beatCeil
    forAll ((List.range 12).map (fun i => 12 * w + i)) (fun n t =>
      t.modWatch n (fun x => { x with tj := max x.tj ((t.subNow + 2047) / 2048) })) (watchClear w s1)
  else s

/-- A slice's domain goes off (R154). -/
def watchOff (w : Nat) (s : State) : State :=
  emit ev_WATCH_SLICE_OFF (144 + w) (forAll ((List.range 12).map (fun i => 12 * w + i)) (fun n t =>
    t.modWatch n (fun x => { x with out := [] })) (watchClear w s))

/-- A Volley changes SPW_PCFG or SPW_PRANGE of port n, which `s0` still holds: the running integration, be its first transform not yet
complete, ends with the last transform that starts before now (R141). The first integration after EN 0 to 1 is PARTIAL (R142). -/
def watchCut (s0 : State) (n : Nat) (s : State) : State :=
  let up : Bool := s.flag SPW_PCFG_EN n && !s0.flag SPW_PCFG_EN n
  s.modWatch n (fun x =>
    if 0 < x.cnt || x.cutAt.isSome then { x with cutAt := some (x.cutAt.getD s.subNow), nextPart := x.nextPart || up }
    else if 2048 * x.tj < s.subNow then
      { x with cutAt := some s.subNow, cfg := s0.word SPW_PCFG n, range := s0.word SPW_PRANGE n, nextPart := x.nextPart || up }
    else { x with part := x.part || up })

/-! ### The Offside detector (R161-R163) -/

/-- Level of sub-band k in a dwell against the Offside limit of (o, k): the mean |z|² is level/n, at s = 4 (R161, R162). -/
def State.offsideOver (s : State) (o k n level : Nat) : Bool :=
  0 < n && decide (25 * s.offsideLimit o k + 8629 - 25 * (s.coupler o : Int) < dbCeil 1000 (level * 256) n (-20000) 20000)

/-- Account one sub-band sample of the ORx of tile t in its dwell (R161): left out with GAP. -/
def dwellSample (t m : Nat) (s : State) : State :=
  let zs := s.analyseAll (96 + t) m (List.range 1024)
  { s with spw := { s.spw with dwells := tabMod s.spw.dwells t (fun d =>
      if zs.any (fun z => z.has fGAP) then { d with next := m + 1 }
      else
        { d with
          next := m + 1, n := d.n + 1
          sums := forAll zs.zipIdx (fun e x => tabMod x e.2 (fun v => v + e.1.pow)) d.sums }) } }

/-- Account the samples of the dwell of tile t whose windows are complete before sample index m (R71, R161). -/
def dwellTo (t m : Nat) (s : State) : State :=
  let d : Dwell := tabGet s.spw.dwells t
  let x := s.unit (96 + t)
  let from_ := max (max d.next (1024 * d.start)) ((x.slotN * 128 - x.words.length) / 1024)
  if x.words = [] then s
  else forAll (List.range (m - 7 - from_)) (fun i u => dwellSample t (from_ + i) u) s

/-- Account every ORx at sample tick n. -/
def dwellsTo (n : Nat) (s : State) : State := forAll (List.range 16) (fun t u => dwellTo t n u) s

/-- Declare a violation on port o in sub-band k (R124, R157, R162, R163). -/
def declareViolation (o k first : Nat) (s : State) : State :=
  let t := o / 6
  let s1 := (s.put SPW_OFFSTAT_VIOL (s.get SPW_OFFSTAT_VIOL t ||| 2 ^ (o % 6)) t).put SPW_OFFSTAT_LAST_SB k t
  let s2 := emit ev_OFFSIDE_VIOLATION (168 + t / 2) s1 .none 0 (pack2 o k)
  snapTrigPort 4 first [o, 96 + t] (offsideMutes o k s2)

/-- A dwell with `late` more samples, whose |z|² sum to `level` (R161). -/
def Dwell.withLate (d : Dwell) (late : Nat) (level : List (Nat × Nat)) : Dwell :=
  { d with n := d.n + late, sums := forAll level (fun x t => tabMod t x.1 (fun v => v + x.2)) d.sums }

/-- A dwell of the Offside detector of tile t ends: the mean of each sub-band over its samples without GAP is compared with the
masks, and the ORx switches to the next input (R161-R163, R125). The windows of its last 7 samples reach past its end. Where the
switch follows they have GAP. Where MANUAL = 1 holds the input, `late` of them have none, and `level` sums them (DEDUCED, log 149). -/
def offsideDwellEnd (t late : Nat) (level : List (Nat × Nat)) (s : State) : State :=
  if s.rstate t < 3 then s
  else
    let b := (tabGet s.spw.dwells t : Dwell).start + s.get SPW_OFFCFG_DWELL_M1 t + 1
    let i := s.get SPW_OFFSTAT_INPUT t
    let o := 6 * t + i
    let s1 := dwellTo t (1024 * b) (s.moveTo (s.beatTick b))
    let manual := s.flag TILE_ORXCFG_MANUAL t
    let d : Dwell := (tabGet s1.spw.dwells t : Dwell).withLate (if manual then late else 0) (if manual then level else [])
    let first := 1024 * d.start
    let able := s.rxEn (96 + t) && !s.outOfService (96 + t) && s.domainOn (3 * t) &&
      !(manual && s.get TILE_ORXSTAT_INPUT t ≠ i)
    let done := able && 512 ≤ d.n
    let blind := if able then d.n < 512 else s.pget TILE_PORTSTAT_RAMP o ≠ 0
    let ks := if done then ((List.range 1024).filter (fun k => s.offsideOver o k d.n (tabGet d.sums k))) else []
    let s2 := s1.put SPW_OFFSTAT_BLIND (bit blind) t
    let s3 := if blind then
        react ev_OFFSIDE_BLIND (168 + t / 2) .none (declareViolation o 0 first) s2 0 (pack2 o 0)
      else forAll ks (fun k u => declareViolation o k first u) s2
    let found := blind || ks ≠ []
    let since : Option Nat := tabGet s3.iso.viol o
    let keep := if found then some (since.getD s3.now) else if done then none else since
    let s4 := { s3 with iso := { s3.iso with viol := tabSet s3.iso.viol o keep } }
    let s5 := if !found && done then
        s4.put SPW_OFFSTAT_VIOL (setBits (BitVec.ofNat 32 (s4.get SPW_OFFSTAT_VIOL t)) i 1 0).toNat t
      else s4
    let s6 := match since with
      | some f => if found && f + Config.sec < s5.now then raise ev_OFFSIDE_PERSIST (128 + t) s5 .none 0 (pack2 o 0) else s5
      | none => s5
    let i' := (i + 1) % 6
    let s7 := (s6.put SPW_OFFSTAT_INPUT i' t)
    let s8 := { s7 with spw := { s7.spw with dwells := tabSet s7.spw.dwells t { start := s7.beatNow, next := 1024 * s7.beatNow } } }
    if manual then s8 else orxSwitchTo t i' s8

end Sys2Proof.Machine
end

