-- ==== Sys2Proof/Machine/PathOps.lean ====
section
/-!
DEFINITION. Sys2Proof/Machine/PathOps.lean: enabling and disabling band paths, crossfades, remote inputs, route memory
errors (R88-R104), and `settle`, which brings every derived quantity in line after a change.
-/
namespace Sys2Proof.Machine
open Sys2Proof

/-- Path b becomes DISABLED (R91): with a fade-out tail that keeps the record `old`, or without one at the end of a
crossfade. Its loop slot is released, cause 2 of R122 ends, and PROBING and SEEDED links track. -/
def disablePath (fade : Bool) (old : Route) (b : Nat) (s : State) : State :=
  let s1 := tracking old false (unsquelch b s)
  let s2 := if fade then leaveTail b old s1 else s1
  let s3 := setPath b 0 s2
  let s4 := s3.modPath b (fun p => { p with held := false, loop := none, lostOn := [] })
  pathLatency true b (s4.modGov b (fun g => { causes := g.causes % 2, seededShow := g.seededShow }))

/-- Path b leaves DISABLED: a new run begins with idle input fades, it enters TRAINING (R76, R91), a covering link that is LOST mutes
it (R122), and it shows its latencies (R102). Its mute weight starts at 0, j = 40, from where it fades in (DESIGN CHOICE, log 150:
the spec gives no position). -/
def enablePath (b : Nat) (s : State) : State :=
  let n := s.fab.runs + 1
  let s1 := { s with fab := { s.fab with runs := n } }.modPath b (fun p =>
    { p with mute := { j := 40, since := s.sampleBase, up := true }, run := n })
  let s2 := enterTraining false b s1
  pathLatency true b (if (s2.covering b).any (fun l => (s2.link l).st = 5) then s2.modGov b latchCause2 else s2)

/-! ### Crossfades (R99-R101) -/

/-- End entry x: EN reads 0. -/
def xfEnd (x : Nat) (s : State) : State :=
  let s1 := (s.put FAB_XFCTL_EN 0 x).put FAB_XFSTAT_PHASE 0 x
  { s1 with fab := { s1.fab with xfs := tabSet s1.fab.xfs x {} } }

/-- A crossfade event: P0 the new path, P1 the old one (R104). -/
def xfEvent (k : EvKind) (x : Nat) (s : State) : State :=
  let n := s.get FAB_XFPATH_NEW x
  emit k (112 + s.pathQuad n) s .none n (s.get FAB_XFPATH_OLD x)

/-- A path of a crossfade becomes DISABLED without further fade, and its ENABLE in force 0 (R100, R101). The link streams it took
are released (R97). -/
def xfDrop (b : Nat) (s : State) : State :=
  let l := (s.route b).remote s.ownSid
  let t := if l = [] then s else { s with fab := { s.fab with freed := s.fab.freed ++ [(b, l)] } }
  disablePath false (s.route b) b (t.put FAB_PCFG0_ENABLE 0 b)

/-- A waiting crossfade whose new path is ACTIVE starts at the next beat boundary (R100): the next one that the samples in the fabric,
N_FRONT behind, have not passed, since each island switches at its own position in the pipeline (R23; DEDUCED, log 144). -/
def xfadeStart (x : Nat) (s : State) : State :=
  let p := s.path (s.get FAB_XFPATH_NEW x)
  if s.get FAB_XFSTAT_PHASE x ≠ 1 || p.st ≠ 2 then s
  else
    let b := (s.now - p.nFront * Config.subSample - s.align + Config.beat - 1) / Config.beat
    let s1 := s.moveTo (s.beatTick b)
    refreshPast (1024 * b)
      ({ s1 with fab := { s1.fab with xfs := tabSet s1.fab.xfs x { k := 0, since := s.beatTick b } } }.put FAB_XFSTAT_PHASE 2 x)

/-- A running crossfade reaches k = 1,024 N (R100). -/
def xfadeDone (x : Nat) (s : State) : State :=
  if s.get FAB_XFSTAT_PHASE x ≠ 2 then s
  else
    let e : Xfade := tabGet s.fab.xfs x
    let s1 := s.moveTo (e.since + (s.xfLen x - e.k) * Config.subSample)
    xfEvent ev_XFADE_DONE x (xfEnd x (xfDrop (s.get FAB_XFPATH_OLD x) s1))

/-- Turn crossfade x back: a waiting one ends at once, a running one reverses from its present position (R101). -/
def xfReverse (x : Nat) (s : State) : State :=
  match s.get FAB_XFSTAT_PHASE x with
  | 1 => xfEvent ev_XFADE_ABORT x (xfEnd x (xfDrop (s.get FAB_XFPATH_NEW x) s))
  | 2 =>
    let k := s.xfPos x s.sampleBase
    { s with fab := { s.fab with xfs := tabSet s.fab.xfs x { k := k, since := s.sampleBase } } }.put FAB_XFSTAT_PHASE 3 x
  | _ => s

/-- A reversing crossfade reaches k = 0 (R101). -/
def xfadeAbort (x : Nat) (s : State) : State :=
  if s.get FAB_XFSTAT_PHASE x ≠ 3 then s
  else
    let e : Xfade := tabGet s.fab.xfs x
    let s1 := s.moveTo (e.since + e.k * Config.subSample)
    xfEvent ev_XFADE_ABORT x (xfEnd x (xfDrop (s.get FAB_XFPATH_NEW x) s1))

/-- The new path of an entry in use has entered SHUTDOWN: the crossfade turns back (R101). -/
def syncXfades (s : State) : State :=
  forAll s.livePaths (fun b t =>
    if (t.path b).st = 4 then
      match t.xfOf b with
      | some x => if t.get FAB_XFPATH_NEW x = b then xfReverse x t else t
      | none => t
    else t) s

/-! ### Remote inputs (R97, R98) -/

/-- Paths with an input over link l, with the SID. -/
def State.remotePaths (s : State) (l : Nat) : List (Nat × Nat) :=
  s.livePaths.filterMap (fun b =>
    ((s.route b).inputs.find? (fun x => x.2.2 ≠ s.ownSid && s.linkTo x.2.2 = l)).map (fun x => (b, x.2.2)))

/-- The streams of link l stop: REMOTE_INPUT_LOST once per path (R98). -/
def remoteLost (l : Nat) (s : State) : State :=
  let s1 := { s with fab := { s.fab with up := s.fab.up.filter (fun x => x ≠ l) } }
  forAll (s.remotePaths l) (fun x t =>
    if (t.path x.1).lostOn.contains l then t
    else emit ev_REMOTE_INPUT_LOST (112 + t.pathQuad x.1) (t.modPath x.1 (fun p => { p with lostOn := l :: p.lostOn }))
      .none x.1 (pack2 l x.2)) s1

/-- Link l is up again: its next loss is reported anew (R98). -/
def lossAgain (l : Nat) (s : State) : State :=
  { s with fab := { s.fab with paths := s.fab.paths.map (fun e => (e.1, { e.2 with lostOn := e.2.lostOn.filter (fun y => y ≠ l) })) } }

/-- The streams of a re-aligned link resume at the next beat boundary (R98). -/
def remoteResume (l : Nat) (s : State) : State :=
  if l = 3 || s.get QLK_LINKSTAT_STATE l ≠ 3 || s.fab.up.contains l then s
  else
    let s1 := s.moveTo s.beatCeil
    { s1 with fab := { s1.fab with up := s1.fab.up ++ [l] } }

/-! ### Route memory (R104) -/

/-- An uncorrectable error in quarter q: its outputs are zero and its paths held. -/
def routeFatal (q : Nat) (s : State) : State :=
  react ev_ROUTE_ECC_FATAL (112 + q) (.quarter q)
    (fun t => { t with fab := { t.fab with dead := (t.fab.dead.filter (fun x => x ≠ q)) ++ [q] } }) s

/-- The quarter reloads its tables at the next beat boundary. -/
def routeReload (q : Nat) (s : State) : State :=
  if s.fab.dead.contains q then
    let s1 := s.moveTo s.beatCeil
    { s1 with fab := { s1.fab with dead := s1.fab.dead.filter (fun x => x ≠ q) } }
  else s

/-! ### Quiet entries (R181-R183) -/

/-- Change quiet entry e. -/
def State.modQuiet (s : State) (e : Nat) (f : Quiet → Quiet) : State :=
  { s with radio := { s.radio with quiets := tabMod s.radio.quiets e f } }

/-- Output pairs quiet entry e covers. -/
def State.quietPairs (s : State) (e : Nat) : List Nat :=
  ((List.range 96).filter (fun o => bitOf (s.word CLK_QPORT e (o / 32)).toNat (o % 32))).map (fun o =>
    ((List.range 1024).filter (fun k => bitOf (s.word CLK_QSB e (k / 32)).toNat (k % 32))).map (fun k => skey o k))
    |>.flatten

/-- Bring the quiet weights in line with the entries that quiet (R181). -/
def syncQuiet (s : State) : State :=
  let on := (List.range 8).filter (fun e => (s.quiet e).on)
  if on = [] && s.radio.fades = [] then s
  else
    let pairs := (on.map s.quietPairs).flatten
    let base := s.sampleBase
    let f1 := s.radio.fades.filterMap (fun e =>
      let g := e.2.turn (pairs.contains e.1) base
      if g.up || 0 < g.pos base then some (e.1, g) else none)
    let f2 := forAll pairs (fun k t => if t.any (fun e => e.1 = k) then t else tabInsert k { j := 0, since := base, up := true } t) f1
    { s with radio := { s.radio with fades := f2 } }

/-- The request an outbound entry makes now (R183). -/
def State.quietWanted (s : State) (i : Nat) : Bool :=
  let e := 4 + i
  s.flag CLK_QCTL_EN e && s.livePaths.any (fun b =>
    s.quietCoversPath e b && (s.flag CLK_QCTL_MODE e || (s.gov b).probe))

/-- Bring outbound entry 4 + i in line with its mode (R183). -/
def syncRequest (i : Nat) (s : State) : State :=
  let e := 4 + i
  let q := s.quiet e
  let want := s.quietWanted i
  if want = q.req then s
  else if want then
    ((s.put CLK_QSTAT_REQ 1 e).count CLK_QSTAT_COUNT e).modQuiet e (fun x =>
      { x with req := true, on := !x.gnt, since := s.sampleBase, tmoAt := some (s.now + s.get CLK_QCTL_TIMEOUT e * Config.ms) })
  else (s.put CLK_QSTAT_REQ 0 e).modQuiet e (fun x => { x with req := false, on := false, tmoAt := none })

/-- An inbound request is recognised, 3 samples of 25.6 MHz after its rise (R182). -/
def qreqRise (q : Nat) (s : State) : State :=
  let s1 := (s.moveTo (s.now + 120000)).put CLK_QSTAT_REQ 1 q
  if s.flag CLK_QCTL_EN q then
    (s1.count CLK_QSTAT_COUNT q).modQuiet q (fun x => { x with req := true, on := true, since := s1.sampleBase })
  else emit ev_QREQ_IGNORED (182 + q) (s1.modQuiet q (fun x => { x with req := true }))

/-- Largest N_TX of the covered ports whose tile is in RELAY; none when every one counts as quiet (R182). -/
def State.quietTx (s : State) (q : Nat) : Option Nat :=
  ((List.range 96).filter (fun o => bitOf (s.word CLK_QPORT q (o / 32)).toNat (o % 32) && s.rstate (o / 6) = 4)).foldl
    (fun a o => some (max (a.getD 0) (s.pget TILE_BANKSTAT_N_TX o))) none

/-- The covered output is quiet at RF_OUT: the grant rises, counted from the sample after `since`, the first that is quieted (R182). -/
def qgrant (q : Nat) (s : State) : State :=
  let x := s.quiet q
  if !x.on || x.gnt || !x.req then s
  else
    let s1 := match s.quietTx q with
      | some n => s.moveTo (x.since + (1 + 40 + n + 8) * Config.subSample)
      | none => s
    emit ev_QGRANT (182 + q) ((s1.put CLK_QSTAT_GNT 1 q).modQuiet q (fun y => { y with gnt := true }))

/-- An inbound request falls: the grant falls at recognition (R182). -/
def qreqFall (q : Nat) (s : State) : State :=
  (((s.moveTo (s.now + 120000)).put CLK_QSTAT_REQ 0 q).put CLK_QSTAT_GNT 0 q).modQuiet q (fun _ => {})

/-- An outbound entry's grant is recognised: its sub-bands return (R183). -/
def qgntRise (i : Nat) (s : State) : State :=
  (s.put CLK_QSTAT_GNT 1 (4 + i)).modQuiet (4 + i) (fun x => { x with gnt := true, on := false, tmoAt := none })

/-- The grant falls: the sub-bands are quieted again while the request stands (R183). -/
def qgntFall (i : Nat) (s : State) : State :=
  (s.put CLK_QSTAT_GNT 0 (4 + i)).modQuiet (4 + i) (fun x =>
    { x with
      gnt := false, on := x.req, since := s.sampleBase
      tmoAt := if x.req then some (s.now + s.get CLK_QCTL_TIMEOUT (4 + i) * Config.ms) else none })

/-- No grant came within TIMEOUT: reported once, the request stands (R183). -/
def qgntTimeout (i : Nat) (s : State) : State :=
  match (s.quiet (4 + i)).tmoAt with
  | none => s
  | some t =>
    if (s.quiet (4 + i)).req && !(s.quiet (4 + i)).gnt then
      emit ev_QGNT_TIMEOUT (186 + i) ((s.moveTo t).modQuiet (4 + i) (fun x => { x with tmoAt := none }))
    else s

/-! ### Settling -/

/-- Bring everything derived in line after a change: GAP causes, hold, crossfades, gains and mutes of the live paths, quiet
requests and weights, DAC mutes, and the device's step to RELAY. -/
def settle (s : State) : State :=
  let s1 := relaySettle (syncGap s)
  let s2 := syncXfades (forAll s1.livePaths syncHeld s1)
  let s3 := forAll s2.livePaths (fun b t => syncClear b (syncPath b (releaseLimits b t))) s2
  syncMutes (syncQuiet (forAll (List.range 4) syncRequest s3))

end Sys2Proof.Machine
end

