-- ==== Sys2Proof/Machine/RadioOps.lean ====
section
/-!
DEFINITION. Sys2Proof/Machine/RadioOps.lean: what ends each step of the radio states, the synthesizers, the amplifier pins
and the alignment pulse (R16-R19, R168-R179, R227, R230).
-/
namespace Sys2Proof.Machine
open Sys2Proof

/-! ### The alignment pulse (R16, R17, R21, R136, R142, R227, R230) -/

/-- First beat of the grid in force at or after tick t. -/
def State.beatAt (s : State) (t : Nat) : Nat := (t - s.align + Config.beat - 1) / Config.beat

/-- Tick of a device time, in units of 2^−32 s. -/
def State.tickOf (s : State) (t : Nat) : Nat :=
  if s.tim.base ≤ t then s.tim.since + ((t - s.tim.base) * Config.sec + 2 ^ 32 - 1) / 2 ^ 32 else s.tim.since

/-- STAGED slots in the order of their COMMITs: slots 0-3, and as 4-7 the parts of stack Volleys that a member device holds for
its master's slots (R229, R231). -/
def State.stagedOrder (s : State) : List Nat :=
  let l := (List.range 8).filter (fun v => (s.slot v).st = .staged)
  l.mergeSort (fun a b => (s.slot a).order ≤ (s.slot b).order)

/-- What an alignment pulse does to the STAGED Volleys: those in beat-index mode and every later one end ALIGN_LOST, the others
keep the time of their apply beat, two beats after the pulse or later (R227, R230). A Volley still in VALIDATING is moved
likewise and counts its lead from the pulse. The new grid stands at beat b at the pulse. -/
def alignVolleys (oldAlign b : Nat) (s : State) : State :=
  let l := s.stagedOrder
  let lost := l.dropWhile (fun v => (s.slot v).mode ≠ .beat)
  let kept := l.takeWhile (fun v => (s.slot v).mode ≠ .beat)
  let s1 := forAll kept (fun v t =>
    let x := t.slot v
    let at_ := if x.mode = .time then t.tickOf x.given else oldAlign + x.beat * Config.beat
    t.setSlot v { x with beat := max (b + 2) (t.beatAt at_) }) s
  let late := (List.range 4).filter (fun v => (s.slot v).st = .validating)
  let s2 := forAll late (fun v t =>
    let x := t.slot v
    let at_ := if x.mode = .time then t.tickOf x.given else oldAlign + x.beat * Config.beat
    t.setSlot v { x with fBeat := b, beat := if x.mode = .beat then x.beat else max (b + 2) (t.beatAt at_) }) s1
  forAll lost (fun v t => if v < 4 then completeVolley v (t.slot v).cTag stALIGN_LOST t else t.setSlot v {}) s2

/-- Store T_A (R260, R278). -/
def setTAlign (t : Nat) (s : State) : State :=
  ((s.put TIM_ALIGN_V t 0).put TIM_ALIGN_V (t / 2 ^ 32) 1).put TIM_ALIGN_V (t / 2 ^ 64 % 65536) 2

/-- Integrations close SHORT and the fine transforms start again at an alignment pulse (R136, R142), at beat b. -/
def alignWatch (b : Nat) (s : State) : State :=
  forAll s.spw.ports (fun e t =>
    let t1 := if 0 < e.2.cnt then closeIntegration e.1 true t else t
    t1.modWatch e.1 (fun x => { x with tj := (b + 1) / 2, part := true, nextPart := false, cnt := 0, sb := [],
                                           cutAt := none, lacks := [] })) s

/-- Sample histories of the old index grid go, and the indices stand at beat b of the new one (R22). -/
def alignUnits (b : Nat) (s : State) : State :=
  { s with
    past := []
    pst := { s.pst with gateSums := [] }
    units := s.units.map (fun e => (e.1, { e.2 with
      slotN := 8192 * b, fifoA := [], fifoB := [], words := [], gapSlots := [], arcK := 0, arcMax := none, ovr := [], ovrBeat := none,
      comp := [], seams := [], atts := [], attBase := e.2.compAtt, spans := [], banks := [], lacks := []
      atMaxBeat := none, satBeat := none, clipBeat := none
      zeroFrom := e.2.zeroFrom.map (fun _ => 1024 * b), zeros := (e.2.zeroFrom.map (fun _ => 1024 * b)).toList }))
    fab := { s.fab with sampN := 1024 * b, ins := [], outs := [], frames := [], dac := [], remote := [], slips := [],
                        paths := s.fab.paths.map (fun e => (e.1, { e.2 with clipBeat := none })) }
    iso := { s.iso with blockN := 4 * b, links := s.iso.links.map (fun e => (e.1, { e.2 with blocks := [] })) }
    spw := { s.spw with
      dwells := forAll (List.range 16) (fun t d => tabSet d t { start := b, next := 1024 * b }) []
      snaps := s.spw.snaps.map (fun e => (e.1, { e.2 with from_ := 0 })) } }

/-- Every crossing is pinned at nominal occupancy, on a grid that starts at tick t (R16). -/
def pinAll (t : Nat) (s : State) : State :=
  let s1 := (({ s with align := t } : State).put GLB_XSTAT_PINNED 1).count GLB_XSTAT_ALIGN_COUNT
  { s1 with radio := { s1.radio with unpinned := [], slipped := [], aligned := true } }

/-- The master drives ALIGN_OUT high for `ns` nanoseconds; a member holds it low (R17, R257). -/
def driveAlign (ns : Nat) (s : State) : State :=
  { s with qlk := { s.qlk with alignTill := if s.isMaster then s.now + ns * Config.ticksPerNs else s.qlk.alignTill } }

/-- An alignment pulse at the present moment, beat b of the new grid (0, but under R258): every crossing is pinned, device time
is noted and the Volleys that wait move to the new grid or end (R16, R227, R279); the master's pulse on ALIGN_OUT lasts 40 ns
(R257). -/
def alignNow (s : State) (b : Nat := 0) : State := emit ev_STACK_ALIGNED 228 (alignVolleys s.align b
  (setTAlign s.devTime (driveAlign 40 (pinAll (s.now - b * Config.beat) (alignUnits b (alignWatch b s))))))

/-! ### Slips (R19) -/

/-- A slip of an island found at a beat boundary: GAP for the beat, GLB_XSTAT, CROSSING_SLIP. -/
def slip (island : Nat) (s : State) : State :=
  let s1 := (s.put GLB_XSTAT_SLIP 1).put GLB_XSTAT_ISLAND island
  emit ev_CROSSING_SLIP 383
    { s1 with fab := { s1.fab with slips := (island, s1.beatNow) :: s1.fab.slips.take 1023 }
              radio := { s1.radio with slipped := tabInsert island s1.nextBeat s1.radio.slipped } }
    .none island

/-- The crossings of a slipped island are pinned alone at the next beat boundary after the one that found the slip (R19). -/
def slipRepin (island : Nat) (s : State) : State :=
  match s.radio.slipped.find? (fun e => e.1 = island) with
  | none => s
  | some e =>
    let s1 := s.moveTo e.2
    { s1 with radio := { s1.radio with slipped := tabErase island s1.radio.slipped } }

/-- An island no longer waits to be pinned; PINNED is 1 when none in a powered domain does (R21). -/
def pinned (island : Nat) (s : State) : State :=
  if s.radio.unpinned.contains island then
    let l := s.radio.unpinned.filter (fun x => x ≠ island)
    let t := { s with radio := { s.radio with unpinned := l } }
    if l = [] && t.radio.aligned then t.put GLB_XSTAT_PINNED 1 else t
  else s

/-- The crossings of an island that came on alone are pinned at the next beat boundary (R169, R362). -/
def repin (island : Nat) (s : State) : State :=
  if s.radio.unpinned.contains island then pinned island (s.moveTo s.beatCeil) else s

/-- An island waits for its crossings to be pinned. -/
def unpin (island : Nat) (s : State) : State :=
  { s with radio := { s.radio with unpinned := (s.radio.unpinned.filter (fun x => x ≠ island)) ++ [island] } }.put
    GLB_XSTAT_PINNED 0

/-- The island of a power domain, if it is one of the datapath (R21, R361): a tile's digital domain, a fabric quarter, a
canceller slice or a watch slice. -/
def domIsland (d : Nat) : Option Nat :=
  if d < 48 then (if d % 3 = 2 then some (d / 3) else none)
  else if d < 56 then some (0x1C + (d - 48))
  else if d < 64 then some (0x14 + (d - 56))
  else if d < 68 then some (0x10 + (d - 64)) else none

/-- A domain that loses power takes its island out of those that wait to be pinned (R21). -/
def islandOff (d : Nat) (s : State) : State :=
  match domIsland d with
  | some i => let t := pinned i s
              { t with radio := { t.radio with slipped := tabErase i t.radio.slipped } }
  | none => s

/-! ### The end of a step (R169) -/

/-- The step of u (a tile, or 16) is the one from `from_` to `goal`. -/
def State.stepping (s : State) (u from_ goal : Nat) : Bool :=
  (s.stepOf u).active && (s.stepOf u).goal = goal && s.rstate u = from_

/-- End the step of u at its moment, in its new state. -/
def endStep (u : Nat) (s : State) : State :=
  let x := s.stepOf u
  let s1 := (s.moveTo x.endAt).setStep u {}
  setRstate u x.goal (if u = 16 then s1.put CLK_RSTAT_MOVING 0 else s1)

/-- The start-up calibration waits: the device is held at SYNTH until it is done (R396). -/
def startupHold (s : State) : State :=
  if s.flag GLB_BOOTSTAT_STARTCAL_DONE || s.cal.running then s
  else if s.get GLB_BOOTCTL_STARTCAL = 2 then s.put GLB_BOOTSTAT_STARTCAL_DONE 1
  else { s with cal := { running := true, startup := true, save := s.get GLB_BOOTCTL_STARTCAL = 1, waits := true } }

/-- The waiting start-up calibration starts, on the tiles whose effective state is SYNTH, once they stand there (R396). -/
def startupCal (s : State) : State :=
  let l := (List.range 16).filter (fun t => s.tileGoal t = 2)
  if s.cal.waits && l.all (fun t => s.rstate t = 2 && !(s.stepOf t).active) then
    let s1 := forAll l (fun t y => y.put TILE_CALSTAT_STATE 1 t) s
    let c := { s1.cal with waits := false, rest := l }
    if l = [] then calFinish { s1 with cal := c } else calNextGroup { s1 with cal := c }
  else s

/-- STANDBY to SYNTH (R169, R17, R174, R396). -/
def standbyToSynth (u : Nat) (s : State) : State :=
  if !s.stepping u 1 2 then s
  else if u < 16 then
    let alone := !(s.stepOf u).follow
    let s1 := endStep u s
    startupCal (kickRadio (if alone then unpin u s1 else s1))
  else
    let s1 := endStep 16 s
    let s2 := forAll (List.range 4) (fun q t => if s.synthDue q then synthCald q t else t.put CLK_SYNSTAT_LOCK 1 q) s1
    let s3 := if s.isMaster then alignNow s2 else { s2 with qlk := { s2.qlk with waits := true } }
    startupCal (kickRadio (startupHold s3))

/-- SYNTH to RECEIVE (R169). -/
def synthToReceive (u : Nat) (s : State) : State := if s.stepping u 2 3 then kickRadio (endStep u s) else s

/-- RELAY to RECEIVE (R169). -/
def relayToReceive (u : Nat) (s : State) : State := if s.stepping u 4 3 then kickRadio (endStep u s) else s

/-- RECEIVE to SYNTH (R169). -/
def receiveToSynth (u : Nat) (s : State) : State := if s.stepping u 3 2 then kickRadio (endStep u s) else s

/-- SYNTH to STANDBY, the synthesizers off with the device (R169). -/
def synthToStandby (u : Nat) (s : State) : State :=
  if !s.stepping u 2 1 then s
  else
    let s1 := endStep u s
    kickRadio (if u = 16 then forAll (List.range 4) (fun q t => t.put CLK_SYNSTAT_LOCK 0 q) s1 else s1)

/-! ### Amplifier pins (R171, R178, R179) -/

/-- PA_BIAS_EN rises 340 µs into the step to RELAY (R171). -/
def paBiasHigh (t : Nat) (s : State) : State :=
  let x := s.stepOf t
  if !(x.active && x.goal = 4 && !x.biased) then s
  else
    let s1 := (s.moveTo (x.begin_ + 340 * Config.us)).setStep t { x with biased := true }
    relayCheck t (forAll ((portsOf t).filter s.sequenced) seqUp s1)

/-- PA_EN of port p rises after its t_bias (R178). -/
def paEnHigh (p : Nat) (s : State) : State :=
  match (s.pa p).enAt with
  | none => s
  | some e =>
    let s1 := ((s.moveTo e).modPa p (fun x =>
      { x with en := true, enAt := none
               hard := x.hard && !(s.pflag TILE_PASTAT_FLT_PIN p && !s.pflag TILE_PASTAT_FLT p) })).pput TILE_PASTAT_SEQ p 2
    relayCheck (p / 6) s1

/-- PA_BIAS_EN falls 5 µs after PA_EN; a waiting up sequence starts (R178). -/
def paBiasLow (p : Nat) (s : State) : State :=
  match (s.pa p).offAt with
  | none => s
  | some e =>
    let s1 := ((s.moveTo e).modPa p (fun x => { x with bias := false, offAt := none })).pput TILE_PASTAT_SEQ p 0
    if (s.pa p).again && s1.inRelay (p / 6) then seqUp p s1 else s1.modPa p (fun x => { x with again := false })

/-- The reaction to a low PA_FLT_N: the port is hard-muted, its pins fall and FLT is latched (R179). A tile that only waited for
this port reports RELAY (R171). -/
def paLatch (p : Nat) (s : State) : State :=
  relayCheck (p / 6) (react ev_PA_FAULT 181 (.port p)
    (fun t => dropEn p ((t.modPa p (fun x => { x with hard := true })).pput TILE_PASTAT_FLT p 1)) s 0 p)

/-- PA_PRESENT of port p has become 0: both pins are held low, and a cleared fault no longer mutes it (R177, R179). -/
def paRemoved (p : Nat) (s : State) : State :=
  let clear : Bool := s.pflag TILE_PASTAT_FLT_PIN p && !s.pflag TILE_PASTAT_FLT p
  relayCheck (p / 6) ((s.modPa p (fun x => { hard := x.hard && !clear })).pput TILE_PASTAT_SEQ p 0)

/-- PA_FLT_N is recognised low (R179). -/
def paFault (p : Nat) (s : State) : State :=
  let s1 := (s.moveTo (s.now + 200 * Config.ticksPerNs)).pput TILE_PASTAT_FLT_PIN p 0
  if !s.pflag TILE_PACFG_FLT_EN p then s1 else paLatch p (s1.count TILE_PASTAT_FLT_COUNT (p / 6) (p % 6))

/-- PA_FLT_N returns high (R179). -/
def paFltHigh (p : Nat) (s : State) : State :=
  let s1 := s.pput TILE_PASTAT_FLT_PIN p 1
  if !s.pflag TILE_PASTAT_FLT p && !s.pflag TILE_PACFG_PA_PRESENT p then s1.modPa p (fun x => { x with hard := false }) else s1

/-- A write clears PASTAT.FLT; it is discarded while the pin is low (R178-R180). -/
def paFltClear (p : Nat) (s : State) : State :=
  if !s.pflag TILE_PASTAT_FLT_PIN p || !s.pflag TILE_PASTAT_FLT p then s
  else
    let s1 := s.pput TILE_PASTAT_FLT p 0
    if !s.pflag TILE_PACFG_PA_PRESENT p then s1.modPa p (fun x => { x with hard := false })
    else if s.inRelay (p / 6) then seqUp p s1 else s1

/-! ### Synthesizers (R174-R176) -/

/-- SYNTH_CAL (R174). -/
def synthCal (r tag mask : Nat) (s : State) : State :=
  let sel := (List.range 4).filter (fun q => bitOf mask q)
  if sel = [] || 16 ≤ mask then completeCmd r tag stINVALID_FIELD s
  else if s.rstate 16 < 2 || sel.any s.quadRelay then completeCmd r tag stWRONG_STATE s
  else if s.cal.running || (List.range 4).any (fun q => (s.synth q).calEnd.isSome || (s.synth q).want) then
    completeCmd r tag stBUSY s
  else
    kickRadio (forAll sel (fun q t => t.modSynth q (fun y => { y with picked := true, cmd := some (s.defer r tag) })) s)

/-- A VCO calibration completes; the command completes with the last synthesizer it selected (R174). -/
def synthCalDone (q : Nat) (s : State) : State :=
  match (s.synth q).calEnd with
  | none => s
  | some e =>
    let cmd := (s.synth q).cmd
    let s1 := (synthCald q (s.moveTo e)).modSynth q (fun y => { y with cmd := none })
    let s2 := forAll (tilesOf q) unpin s1
    let s3 := match cmd with
      | some d => if (List.range 4).any (fun i => (s2.synth i).cmd = some d) then s2 else completeDefer d stSUCCESS s2
      | none => s2
    kickRadio s3

/-- Synthesizer q loses lock (R176): the forced caps alone are withheld from a CONSEQUENT report. -/
def synthUnlock (q : Nat) (s : State) : State :=
  let ports := ((tilesOf q).map portsOf).flatten
  let s1 := s.put CLK_SYNSTAT_LOCK 0 q
  let s2 := forAll ports (fun n t => dropEn n (setRamp n 0 0 t.now t)) s1
  let s3 := forAll (ports ++ (tilesOf q).map (fun t => 96 + t)) (fun u t => t.modUnit u (fun x => { x with history := [] })) s2
  let s4 := react ev_SYNTH_UNLOCK (177 + q) (.synth q)
    (fun t => forAll (tilesOf q) (fun i u => u.put CLK_TSTAT_FORCED 1 i) t) s3 q
  let s5 := (s4.modSynth q (fun y => { y with want := true, calEnd := some (s4.now + 8 * Config.ms) })).put CLK_SYNSTAT_CAL_RUN 1 q
  forceRadio s5

/-- A write of 1 to CLK_TSTAT.FORCED lifts the forced cap (R176). -/
def forcedClear (t : Nat) (s : State) : State := kickRadio (s.put CLK_TSTAT_FORCED 0 t)

/-- Drift of synthesizer q: mute and recalibrate (R175). -/
def driftRecal (q : Nat) (s : State) : State := forceRadio (s.modSynth q (fun y => { y with want := true }))

/-- The temperature of quadrant q has been taken, in 1/128 °C: drift and due calibrations (R174, R175, R352). -/
def synthTemp (q : Nat) (temp : Int) (s : State) : State :=
  let s1 := (s.put CLK_SYNSTAT_TEMP (codeOf 8 (clampI (-128) 127 (roundDiv temp 128))) q).modSynth q (fun y => { y with temp := temp })
  if !(s1.synth q).cald || s1.rstate 16 < 2 then s1
  else
    let d := (s1.synthDiff q).natAbs
    let s2 := if 35 * 128 < d && !s1.flag CLK_SYNSTAT_DRIFT q then
        emit ev_SYNTH_DRIFT (177 + q) (s1.put CLK_SYNSTAT_DRIFT 1 q)
      else s1
    if (35 * 128 < d && !s2.flag CLK_RCFG_DRIFT_POL) || 40 * 128 < d then
      (if (s2.synth q).want || (s2.synth q).calEnd.isSome then s2 else driftRecal q s2)
    else s2

end Sys2Proof.Machine
end

