-- ==== Sys2Proof/Machine/FaultOps.lean ====
section
/-!
DEFINITION. Sys2Proof/Machine/FaultOps.lean: messages to the fault collector, pending bits, cascade inputs, the Scorebook's
flush, window, copy and clear, and power failure (R368-R391).
-/
namespace Sys2Proof.Machine
open Sys2Proof

/-! ### Messages (R368, R369) -/

/-- The unit whose reaction a CONTAINED message from a source names (R371, R375); sources without a unit row of their own
open no shadow. -/
def areaOf (src p0 : Nat) : Area :=
  if src < 96 then .port src else if src < 112 then .tile (src - 96) else if src < 116 then .quarter (src - 112)
  else if src < 124 then .slice (src - 116)
  else if src < 144 then .none
  else if src < 152 then .watch (src - 144)
  else if 177 ≤ src && src ≤ 180 then .synth (src - 177)
  else if 224 ≤ src && src ≤ 227 then .qlink (src - 224)
  else if 336 ≤ src && src ≤ 340 then .rail (src - 336)
  else if 360 ≤ src && src ≤ 363 then .segment (src - 360)
  else if 367 ≤ src && src ≤ 370 then .string (src - 367)
  else if src = 377 then .domain p0
  else .none

/-- A message from a block: a gap in its SEQ is counted and raises MSG_LOST; then the report is accepted, and a FATAL one that
is not CONSEQUENT enters Dugout (R369, R376, R379). -/
def faultMessage (block seq : Nat) (r : Report) (s : State) : State :=
  let gap := match tabGet s.flt.seqs block with
    | none => 0
    | some q => (seq + 1024 - (q + 1) % 1024) % 1024
  let s1 := { s with flt := { s.flt with seqs := tabSet s.flt.seqs block (some seq) } }
  let s2 := if gap = 0 then s1 else emit ev_MSG_LOST 378 (s1.count FLT_MSGCNT_LOST 0 0 gap) .none r.src gap
  let c := s2.covered r.src
  let s3 := accept (areaOf r.src r.p0) r s2
  if r.cls = 3 && !c then enterDugout r.src r.code s3 else s3

/-- A write of 1 to FLT_PEND bits of register i acknowledges those reports (R372). -/
def pendClear (i val : Nat) (s : State) : State :=
  s.put FLT_PEND_PEND (s.get FLT_PEND_PEND i &&& (2 ^ 32 - 1 - val % 2 ^ 32)) i

/-- Cascade input i is recognised low or high on a master (R374). -/
def cascade (i : Nat) (low : Bool) (s : State) : State :=
  if s.ownSid ≠ 0 then s
  else
    let lv := s.get FLT_CASCADE_LEVEL
    let s1 := s.put FLT_CASCADE_LEVEL (if low then lv ||| 2 ^ i else lv &&& (255 - 2 ^ i))
    if low && bitOf (s.get FLT_CASCADE_MASK) i then
      emit ev_CASCADE_FAULT 381 (s1.put FLT_CASCADE_LATCH (s1.get FLT_CASCADE_LATCH ||| 2 ^ i)) .none i
    else s1

/-! ### The Scorebook (R383-R388) -/

/-- The bytes of a record (R383). -/
def recBytes (r : SbRec) : List Nat :=
  leBytes 2 r.code ++ leBytes 2 r.src ++ leBytes 4 r.opSec ++ leBytes 2 r.opFrac ++ [r.flags % 256, r.sealByte % 256] ++
  leBytes 4 r.innings ++ leBytes 4 r.p0 ++ leBytes 4 r.p1 ++ leBytes 4 r.p2 ++ leBytes 4 r.p3

/-- Cell i of the Scorebook. -/
def State.sbCell (s : State) (i : Nat) : SbRec := tabGet s.flt.cells i

/-- Put a record in cell i. -/
def State.setCell (s : State) (i : Nat) (r : SbRec) : State :=
  { s with flt := { s.flt with cells := tabSet s.flt.cells i r } }

/-- Mark index i as written: SB_NEAR_FULL after 15,360, SB_FULL after 16,383 (R386). -/
def wroteIndex (i : Nat) (s : State) : State :=
  let s1 := { s with flt := { s.flt with next := i + 1 } }
  if i = 15360 && !s1.flt.near then
    emit ev_SB_NEAR_FULL 379 ({ s1 with flt := { s1.flt with near := true } }.put FLT_SBSTAT_NEAR 1)
  else if i = 16383 then
    emit ev_SB_FULL 379 ({ s1 with flt := { s1.flt with full := true } }.put FLT_SBSTAT_FULL 1)
  else s1

/-- Write one record to the next cell. A cell that fails twice stays unsealed, with an open content, and is passed over
(R384). -/
def writeRecord (failed : List Nat) (r : SbRec) (s : State) : State :=
  let i := s.flt.next
  if s.flt.full || 16384 ≤ i then s.count FLT_SBLOST_REFUSED
  else if failed.contains i then
    let w := fun (k : Nat) => (Config.freeValue (s.free + k)).toNat
    let hole : SbRec :=
      { code := w 0 % 65536, src := w 1 % 65536, opSec := w 2, opFrac := w 3 % 65536, flags := w 4 % 256, sealByte := 0,
        innings := w 5, p0 := w 6, p1 := w 7, p2 := w 8, p3 := w 9 }
    let s1 := { s.setCell i hole with free := s.free + 10 }
    emit ev_SB_FLUSH_FAIL 379 (wroteIndex i (s1.put FLT_SBSTAT_FLUSH_FAIL 1)) .none i
  else wroteIndex i (s.setCell i r)

/-- SB_FLUSH commands complete when the buffer is empty (R389). -/
def finishFlushCmds (s : State) : State :=
  if s.flt.buffer = [] then
    forAll s.flt.flushCmds (fun d t => completeDefer d stSUCCESS t) { s with flt := { s.flt with flushCmds := [] } }
  else s

/-- The operating time at which records that stay in the buffer are flushed: 10 s after the oldest of them (R384). -/
def flushTime : List SbRec → Option Nat
  | [] => none
  | r :: _ => some (r.opSec * 65536 + r.opFrac + 10 * 65536)

/-- A flush has written its records (R384). -/
def flushDone (failed : List Nat) (s : State) : State :=
  let n := s.flt.flushN
  if n = 0 then s
  else
    let l := s.flt.buffer.take n
    let again := s.flt.flushAgain
    let rest := s.flt.buffer.drop n
    let s1 := { s with flt := { s.flt with buffer := rest, flushN := 0, flushAgain := false, flushAt := flushTime rest } }
    let s2 := forAll l (writeRecord failed) s1
    finishFlushCmds (if again then startFlush s2 else s2)

/-- 10 s of operating time after the buffer became non-empty a flush starts (R384). -/
def flushTimer (s : State) : State :=
  match s.flt.flushAt with
  | none => s
  | some t => startFlush { s.moveTo (s.opTick t) with flt := { s.flt with flushAt := none } }

/-- Discard every record and start a clear (R388). -/
def startClear (s : State) : State :=
  let n := s.flt.next + s.flt.buffer.length
  { s with flt := { s.flt with
    buffer := [], flushN := 0, flushAgain := false, flushAt := none, overRun := false, full := false, near := false
    cells := [(0, { code := ev_SB_CLEARED.code, src := 379, opSec := s.opTime / 65536 % 2 ^ 32, opFrac := s.opTime % 65536
                    flags := ev_SB_CLEARED.cls, sealByte := 0, innings := s.get GLB_INNINGS_COUNT
                    p0 := s.flt.clears + 1, p1 := s.get PST_LOCKGEN_GEN, p2 := n, p3 := 0 })]
    next := 1, clears := s.flt.clears + 1, clearing := true, srcs := [] } }

/-- A clear completes: the marker is sealed; from the 100,001st on the region is worn (R388). -/
def clearDone (s : State) : State :=
  if !s.flt.clearing then s
  else
    let m := s.sbCell 0
    let s1 := ({ s with flt := { s.flt with clearing := false } }.setCell 0 { m with sealByte := 0x5C }).put FLT_SBSTAT_FULL 0
    let s2 := s1.put FLT_SBSTAT_NEAR 0
    let s3 := deliver { src := 379, code := ev_SB_CLEARED.code, cls := ev_SB_CLEARED.cls, p0 := m.p0, p1 := m.p1, p2 := m.p2 }
      (s2.covered 379) s2
    let s4 := if 100001 ≤ s3.flt.clears then emit ev_SB_WORN 379 (s3.put FLT_SBSTAT_WORN 1) else s3
    if 192 ≤ s4.flt.buffer.length || s4.flt.flushCmds ≠ [] || s4.flt.flushAgain then startFlush s4 else s4

/-- A read of FLT_SBWIN[7] with AUTOINC (R387). -/
def sbAutoinc (s : State) : State :=
  if s.flag FLT_SBCUR_AUTOINC then s.put FLT_SBCUR_INDEX ((s.get FLT_SBCUR_INDEX + 1) % 16384) else s

/-! ### Commands (R389) -/

/-- The bytes of a Scorebook copy (R389). -/
def State.sbCopyBytes (s : State) (first count : Nat) : List Nat :=
  [0x04, 0x01] ++ leBytes 2 count ++ leBytes 2 first ++ [0, 0] ++ leBytes 4 s.flt.next ++
  leBytes 4 (s.get GLB_INNINGS_COUNT) ++ leBytes 4 (s.get PST_LOCKGEN_GEN) ++ List.replicate 12 0 ++
  ((List.range count).map (fun i => recBytes (s.sbCell (first + i)))).flatten

/-- Complete with a status the spec does not state: a free value. -/
def openStatus (d : Defer) (s : State) : State :=
  let (w, t) := s.fresh
  completeDefer d (w.toNat % 65536) t

/-- SB_COPY (R389). -/
def sbCopy (r tag first count ring dest : Nat) (s : State) : State :=
  let exp := dest % 2 = 1
  let port := dest / 2 % 8
  if count = 0 || 16384 < first + count || (!exp && 63 < ring) || 16 ≤ dest then completeCmd r tag stINVALID_FIELD s
  else if !(if exp then s.flag EXP_CFG_EN port else s.flag STR_CFG_EN ring) then completeCmd r tag stWRONG_STATE s
  else
    let d := s.defer r tag
    let (ok, t) := sendRecord { ring := !exp, dest := if exp then port else ring, kind := 4
                                bytes := s.sbCopyBytes first count, cmd := some d } s
    if ok then t else openStatus d t

/-- SB_FLUSH (R389). -/
def sbFlushCmd (r tag : Nat) (s : State) : State :=
  if s.flt.buffer = [] then completeCmd r tag stSUCCESS s
  else startFlush { s with flt := { s.flt with flushCmds := s.flt.flushCmds ++ [s.defer r tag] } }

/-- FLT_INJECT (R389): handled as real, without a block reaction. -/
def inject (r tag src kind cls : Nat) (s : State) : State :=
  if 383 < src || 3 ≤ cls then completeCmd r tag stINVALID_FIELD s
  else completeCmd r tag stSUCCESS
    (accept .none { src := src, code := groupOf src * 256 + kind % 256, cls := cls, injected := true } s)

/-- DUGOUT_ENTER (R389). -/
def dugoutCmd (r tag : Nat) (s : State) : State := completeCmd r tag stSUCCESS (raise ev_HOST_DUGOUT 380 s)

/-! ### Power failure (R385) -/

/-- Record a power event whatever FLT_SBSEL says, and deliver it (R385). -/
def powerEvent (k : EvKind) (p0 : Nat) (s : State) : State :=
  let r : Report := { src := 379, code := k.code, cls := k.cls, p0 := p0 }
  let c := s.covered 379
  deliver r c (bufferRecord r c 0 (if c then s.count FLT_MSGCNT_CONSEQUENT else s))

/-- A recognised fall of PWRFAIL_N (R204, R385). -/
def powerFail (s : State) : State :=
  let s1 := { s with pst := { s.pst with lowPf := true, queue := s.pst.queue.map (fun c => { c with kept := true }) }, flt := { s.flt with pfWindow := some (s.now + 2 * Config.ms) } }
  startFlush (powerEvent ev_POWER_FAIL 0 s1)

/-- 2 ms after the fall nothing more is written (R385). -/
def powerWindowEnd (s : State) : State :=
  match s.flt.pfWindow with
  | none => s
  | some t =>
    { s.moveTo t with flt := { s.flt with pfWindow := none, pfClosed := s.pst.lowPf, flushN := 0, flushAgain := false } }

/-- PWRFAIL_N rises again: recording continues, and what is still in the buffer is flushed (R385; DEDUCED, log 72). -/
def powerRise (s : State) : State :=
  let s1 := { s with
    pst := { s.pst with lowPf := false }
    flt := { s.flt with pfWindow := none, pfClosed := false } }
  startFlush s1

/-! ### Shadows (R377) -/

/-- When a shadow closes, what the state shows to stand still is reported afresh: a low PA_FLT_N, a bubble storm whose 17 bubbles lie
within the last second, a failed calibration of a unit that is not out of service yet (R42, R51, R377). -/
def standingPorts (s : State) : State :=
  forAll (List.range 112) (fun u t =>
    let x := t.unit u
    let t1 := if u < 96 && !t.pflag TILE_PASTAT_FLT_PIN u && !t.pflag TILE_PASTAT_FLT u && t.pflag TILE_PACFG_FLT_EN u &&
        (t.pa u).hard then paLatch u t else t
    let t2 := match x.stormFrom with
      | none => t1
      | some o =>
        if t1.covered (unitSrc u) then t1
        else if t1.now < o + Config.sec && t1.bubblesCount u && !t1.outOfService u then stormReact u o t1
        else t1.modUnit u (fun y => { y with stormFrom := none })
    let failed := if isOrx u then t2.flag TILE_ORXSTAT_CAL_FAIL (u - 96) else t2.pflag TILE_PORTSTAT_CAL_FAIL u
    if failed && !t2.outOfService u && !t2.covered (unitSrc u) then calReject u t2 else t2) s

/-- A synthesizer that has lost lock is reported afresh when its shadow closes. -/
def standingSynths (s : State) : State :=
  forAll (List.range 4) (fun q t =>
    if 2 ≤ t.rstate 16 && !t.flag CLK_SYNSTAT_LOCK q && (t.synth q).cald && !(t.flag CLK_TSTAT_FORCED (4 * q)) then
      react ev_SYNTH_UNLOCK (177 + q) (.synth q)
        (fun u => forceRadio (forAll (tilesOf q) (fun i v => v.put CLK_TSTAT_FORCED 1 i) u)) t q
    else t) s

/-- The oldest shadow closes at its moment (R375). -/
def shadowClose (s : State) : State :=
  match s.flt.shadows with
  | [] => s
  | w :: _ =>
    let first := s.flt.shadows.foldl (fun a x => min a x.till) w.till
    let s1 := s.moveTo first
    { s1 with flt := { s1.flt with shadows := s1.flt.shadows.filter (fun x => s1.now < x.till) } }

end Sys2Proof.Machine
end

