-- ==== Sys2Proof/Machine/StoreOps.lean ====
section
/-!
DEFINITION. Sys2Proof/Machine/StoreOps.lean: nonces, the checks and the application of a signed change, persistent
registers, the operating-time counter and calibration banks (R195-R209).
-/
namespace Sys2Proof.Machine
open Sys2Proof

/-! ### Nonces (R196) -/

/-- End the outstanding nonce. -/
def endNonce (s : State) : State := { s with pst := { s.pst with nonce := none } }.put PST_STAT_NONCE_VALID 0

/-- NONCE_GET: 24 random bytes, the lock generation and the number of nonces issued, written to host memory (R196). -/
def nonceGet (r tag addr : Nat) (s : State) : State :=
  let rnd := ((List.range 6).map (fun k => leBytes 4 (Config.freeValue (s.free + k)).toNat)).flatten
  let n := s.pst.nonces + 1
  let b := rnd ++ leBytes 4 (s.get PST_LOCKGEN_GEN) ++ leBytes 4 n
  let s1 := { s with
    free := s.free + 6
    pst := { s.pst with nonce := some { bytes := b, issued := s.opTime }, nonces := n }
    hif := { s.hif with nonceMem := (addr, b) :: s.hif.nonceMem.take 15 } }
  completeCmd r tag stSUCCESS (s1.put PST_STAT_NONCE_VALID 1)

/-- A nonce ends 900 s of operating time after issue (R196). -/
def nonceExpiry (s : State) : State :=
  match s.pst.nonce with
  | none => s
  | some n => endNonce (s.moveTo (s.opTick (n.issued + 900 * 65536)))

/-! ### Change records (R195) -/

/-- Kind of a record. -/
def recKind (r : RecBytes) : Nat := r.getD 5 0
/-- Number of entries. -/
def recN (r : RecBytes) : Nat := ofLe ((r.drop 6).take 2)
/-- Page of entry e. -/
def recPage (r : RecBytes) (e : Nat) : Nat := ofLe ((r.drop (64 + 256 * e)).take 2)
/-- New bytes 0-251 of entry e. -/
def recData (r : RecBytes) (e : Nat) : List Nat := fitLen 252 0 ((r.drop (68 + 256 * e)).take 252)
/-- The signed body. -/
def recBody (r : RecBytes) : List Nat := r.take (64 + 256 * recN r)
/-- Signature i, r then s. -/
def recSig (r : RecBytes) (i : Nat) : List Nat := (r.drop (64 + 256 * recN r + 96 * i)).take 96
/-- Pages of a record, in entry order. -/
def recPages (r : RecBytes) : List Nat := (List.range (recN r)).map (recPage r)
/-- New bytes for a page, where the record names it. -/
def recFor (r : RecBytes) (p : Nat) : Option (List Nat) :=
  ((List.range (recN r)).find? (fun e => recPage r e = p)).map (recData r)

/-- Scalar limits within the ranges of R190. -/
def limitsOk (b : List Nat) : Bool :=
  let g := fun i => b.getD i 0
  let mm := ofLe (b.take 2)
  let ul := signedOf 16 (ofLe ((b.drop 2).take 2))
  let base := ofLe ((b.drop 10).take 2)
  200 ≤ mm && mm ≤ 1200 && -1200 ≤ ul && ul ≤ 1200 && ofLe ((b.drop 4).take 2) ≤ 300 && g 6 ≤ 1 && 1 ≤ g 7 && g 7 ≤ 100 &&
  1 ≤ g 8 && 1 ≤ g 9 && g 9 ≤ 3 && 1 ≤ base && base ≤ 3600 && g 12 ≤ 40

/-- Key bytes of a key page. -/
def keyBytes (page : List Nat) : List Nat := (page.drop 2).take 97

/-- The key that slot i (0 OPERATOR, 1 UMPIRE) will hold after a record; none for a slot left without a key. -/
def State.keyAfter (s : State) (r : RecBytes) (i : Nat) : Option (List Nat) :=
  match recFor r (2 * i) with
  | some b => some (keyBytes b)
  | none => if s.get (if i = 0 then PST_STAT_OP_KEY else PST_STAT_UMP_KEY) = 1 then some (keyBytes (s.lockPage (2 * i))) else none

/-- The fields of an entry are within their ranges (R190, R191, R197, R201). -/
def State.entryOk (s : State) (r : RecBytes) (p : Nat) (b : List Nat) : Bool :=
  if p = 0 || p = 2 then
    b.getD 0 0 = 0xA5 && b.getD 1 0 = 0 && keyPointOk (keyBytes b) &&
    s.keyAfter r 0 ≠ s.keyAfter r 1
  else if p = 5 then limitsOk b
  else if 8 ≤ p && p ≤ 11 then b.getD 141 0 ≤ 1
  else if 128 ≤ p then b.take 4 = (factoryPage s.part p).take 4
  else true

/-- A page is allowed for a kind (R198). -/
def State.pageAllowed (s : State) (kind p : Nat) : Bool :=
  if kind = 1 then (5 ≤ p && p ≤ 97) || (128 ≤ p && p ≤ 255 && s.mapLocked (p - 128)) else p = 0 || p = 2

/-- The number of entries is in the range of its kind (R198). -/
def countOk (kind n : Nat) : Bool :=
  match kind with
  | 1 => 1 ≤ n && n ≤ 29
  | 2 => 1 ≤ n && n ≤ 2
  | 3 => n = 0
  | 4 => n = 2
  | _ => false

/-- No element stands twice. -/
def noRepeat : List Nat → Bool
  | [] => true
  | x :: l => !l.contains x && noRepeat l

/-- Row 1 of R197 for a record. -/
def State.recordOk (s : State) (r : RecBytes) : Bool :=
  r.take 5 = [0x4D, 0x51, 0x4C, 0x4B, 0x01] && countOk (recKind r) (recN r) && r.length = 256 + 256 * recN r &&
  noRepeat (recPages r) && (List.range (recN r)).all (fun e =>
    s.pageAllowed (recKind r) (recPage r e) && s.entryOk r (recPage r e) (recData r e))

/-- State of a key slot: 0 empty, 1 installed, 2 FAILED (R201, R209). -/
def State.keyState (s : State) (i : Nat) : Nat := s.get (if i = 0 then PST_STAT_OP_KEY else PST_STAT_UMP_KEY)

/-- The repair of R201: a FAILED slot replaced while PROV_N is low and the other slot is installed. -/
def State.keyRepair (s : State) (r : RecBytes) : Bool :=
  recKind r = 2 && !s.flag PST_STAT_PROV_N &&
  (List.range 2).any (fun i => s.keyState i = 2 && (recFor r (2 * i)).isSome && s.keyState (1 - i) = 1)

/-- The key that verifies signature i (R195, R201). -/
def State.signer (s : State) (r : RecBytes) (i : Nat) : List Nat :=
  if recKind r = 4 || s.keyState i = 2 then keyBytes ((recFor r (2 * i)).getD []) else keyBytes (s.lockPage (2 * i))

/-- Another protected Volley is between COMMIT and completion. -/
def State.lockBusy (s : State) (v : Nat) : Bool :=
  (List.range 4).any (fun w => w ≠ v && (s.slot w).prot && ((s.slot w).st = .validating || (s.slot w).st = .staged))

/-- The record of a protected Volley that is nothing but its LOCK_CHANGE member and no stack Volley. -/
def Slot.record (x : Slot) : Option RecBytes :=
  match x.members with
  | [m] => if x.stack || m.bad || m.sid ≠ 0 then none else m.lock
  | _ => none

/-- Rows 1 to 5 of R197: the status of the first failure. -/
def State.lockEarly (s : State) (v : Nat) : Option Nat :=
  match (s.slot v).record with
  | none => some stINVALID_FIELD
  | some r =>
    if (s.slot v).flagErr || (s.slot v).mode = .reserved || !s.recordOk r then some stINVALID_FIELD
    else if s.lockBusy v then some stBUSY
    else if recKind r = 4 && (s.flag PST_STAT_PROV_N || s.keyState 0 ≠ 0 || s.keyState 1 ≠ 0) then some stWRONG_STATE
    else if recKind r ≠ 4 && (s.keyState 0 = 0 || s.keyState 1 = 0) then some stNOT_PROVISIONED
    else if recKind r ≠ 4 && (s.keyState 0 = 2 || s.keyState 1 = 2) && !s.keyRepair r then some stKEY_FAILED
    else none

/-- Rows 1 to 7 of R197 at the COMMIT: passing the key-state check ends the nonce, whatever follows (R196). -/
def lockCommit (v : Nat) (s : State) : State :=
  match s.lockEarly v with
  | some st => s.setSlot v { s.slot v with early := some st }
  | none =>
    let r := ((s.slot v).record).getD []
    let nonceBad := match s.pst.nonce with
      | none => true
      | some n => (r.drop 8).take 32 ≠ n.bytes
    let genBad := ofLe ((r.drop 40).take 4) ≠ s.get PST_LOCKGEN_GEN
    let st := if nonceBad then some stNONCE_INVALID else if genBad then some stGENERATION_MISMATCH else none
    (endNonce s).setSlot v { s.slot v with early := st }

/-- Which signatures fail: bit 0 signature 1, bit 1 signature 2 (row 8 of R197). -/
def State.sigFails (s : State) (v : Nat) : Nat :=
  let r := ((s.slot v).record).getD []
  let bad := fun i => bit (!signatureOk (s.signer r i) (recBody r) (recSig r i))
  bad 0 + 2 * bad 1

/-! ### Application (R199) -/

/-- Verification has ended and the journal is written: entries in pages 99 onwards, then the sealed header in page 98
(R199, steps 1 and 2). A late Volley under APPLY_NEXT_BEAT applies on the first beat after. -/
def journalSealed (v : Nat) (s : State) : State :=
  let x := s.slot v
  if x.st ≠ .staged || !x.prot || x.sealedAt.isSome then s
  else
    let r := x.record.getD []
    let n := recN r
    let s1 := forAll (List.range n) (fun e t => writePage (99 + e) (recData r e) t) s
    let hdr := [0x5C, n, recKind r, 0] ++ leBytes 4 (s.get PST_LOCKGEN_GEN + 1) ++ fitLen 48 0 (sha384 (recBody r)) ++
      leBytes 4 (s.get GLB_INNINGS_COUNT) ++ leBytes 6 (s.devTime / 2 ^ 32) ++ [0, 0] ++
      ((recPages r).map (leBytes 2)).flatten
    let s2 := writePage 98 hdr s1
    s2.setSlot v { x with sealedAt := some s.now, beat := if x.beat = 0 then s.beatNow + 1 else x.beat }

/-- Start the fades of step 1 of R193 for every bit of the bitmap that differs from `old`. -/
def gateFades (old : State) (s : State) : State :=
  let base := s.sampleBase
  let done := s.pst.gateFades.filter (fun e => !(if e.2.up then 40 ≤ e.2.pos base else e.2.pos base = 0))
  let f := forAll (List.range 96) (fun o t => forAll (List.range 1024) (fun k u =>
    if old.txBit o k = s.txBit o k then u
    else
      let was : Fade := match done.find? (fun e => e.1 = skey o k) with
        | some e => e.2
        | none => { j := if old.txBit o k then 0 else 40, since := base, up := !old.txBit o k }
      tabInsert (skey o k) (was.turn (!s.txBit o k) base) u) t) done
  { s with pst := { s.pst with gateFades := f } }

/-- Writes the endurance limit allows (R203). -/
def wearLimit : Nat := 1000000

/-- A write of persistent register i is counted, with its marks at 900,000 and at the limit, from which it no longer is (R202,
R203). -/
def countWrite (i : Nat) (s : State) : State :=
  let n := tabGet s.pst.counts i
  if wearLimit ≤ n then s
  else
    let s1 := { s with pst := { s.pst with counts := tabSet s.pst.counts i (n + 1) } }
    let s2 := if n + 1 = 900000 then emit ev_WEAR_WARN 240 (s1.putBit PST_WEARWARN_PAGES i true) else s1
    if n + 1 = wearLimit then emit ev_WEAR_LIMIT 240 (s2.putBit PST_VOLATILE_PAGES i true) else s2

/-- Put the content of one entry in force: a locked page, a key slot, or a persistent register, whose write is counted whatever
bytes 8-11 say (R203, R426). -/
def applyEntry (p : Nat) (b : List Nat) (s : State) : State :=
  if p < 4 then
    let s1 := ((s.setLockPage p b).setLockPage (p + 1) b)
    s1.put (if p = 0 then PST_STAT_OP_KEY else PST_STAT_UMP_KEY) 1
  else if p < 128 then s.setLockPage p b
  else
    let i := p - 128
    match persistReg i with
    | some (f, j) => countWrite i (s.putWord f (BitVec.ofNat 32 (ofLe ((b.drop 4).take 4))) j)
    | none => s

/-- What the home page of an entry is written with: in the page of a persistent register, the write counter in force (R426). -/
def State.homeBytes (s : State) (p : Nat) (b : List Nat) : List Nat :=
  if p < 128 || (persistReg (p - 128)).isNone then b
  else b.take 8 ++ leBytes 4 (tabGet s.pst.counts (p - 128)) ++ b.drop 12

/-- The home page of an entry is written, with the copy of a key slot; the page of a persistent register at its endurance limit is
not (R198, R203). -/
def writeHome (p : Nat) (b : List Nat) (s : State) : State :=
  if 128 ≤ p && s.bitAt PST_VOLATILE_PAGES (p - 128) then s
  else
    let t := writePage p (s.homeBytes p b) s
    if p < 4 then writePage (p + 1) b t else t

/-- The apply beat of a signed change: the new values take effect in every block, and the lock generation rises (R199, step
3). -/
def lockTakeEffect (kind : Nat) (entries : List (Nat × List Nat)) (gen : Nat) (s : State) : State :=
  let s1 := forAll entries (fun e t => applyEntry e.1 e.2 t) s
  let s2 := (showLimits s1).put PST_LOCKGEN_GEN gen
  let s3 := if kind = 2 then s2.put PST_KEYGEN_GEN (s2.get PST_KEYGEN_GEN + 1) else s2
  gateFades s (if kind = 3 then startClear s3 else s3)

/-- Content of page 4 (R199, step 4), from the header of page 98. -/
def State.page4 (s : State) (hdr : List Nat) : List Nat :=
  fitLen 252 0 ((hdr.drop 4).take 4 ++ leBytes 4 (s.get PST_KEYGEN_GEN) ++ (hdr.drop 8).take 58)

/-- The home pages and page 4 are written, and the journal is cleared (R199, steps 4 and 5). LOCK_DEFAULTED falls once every
flagged locked page has been rewritten by a kind 0x01 change (R205). -/
def lockHome (kind : Nat) (entries : List (Nat × List Nat)) (s : State) : State :=
  let hdr := s.cellBytes 98
  let s1 := forAll entries (fun e t => writeHome e.1 e.2 t) s
  let p4 := s1.page4 hdr
  let s2 := writePage 98 (0 :: hdr.drop 1) (writePage 4 p4 (s1.setLockPage 4 p4))
  if kind = 1 && s2.flag PST_STAT_LOCK_DEFAULTED &&
      (List.range 94).all (fun i => !s2.bitAt PST_PAGEFAIL_PAGES (i + 4)) then
    gateFades s2 (s2.put PST_STAT_LOCK_DEFAULTED 0)
  else s2

/-- The entries of a record. -/
def recEntries (r : RecBytes) : List (Nat × List Nat) := (List.range (recN r)).map (fun e => (recPage r e, recData r e))

/-- The protected Volley of slot v has been applied and its pages written: LOCK_APPLIED and the completion (R199, R210). -/
def lockApplied (v : Nat) (s : State) : State :=
  let x := s.slot v
  if !x.applied then s
  else
    let r := x.record.getD []
    let s1 := lockHome (recKind r) (recEntries r) s
    let s2 := emit ev_LOCK_APPLIED 241 s1 .none 0 (pack2 (recKind r) (recN r)) (s1.get PST_LOCKGEN_GEN)
    completeVolley v x.cTag stSUCCESS s2 (x.beat % 2 ^ 32)

/-! ### Persistent registers (R202-R204) -/

/-- A write of persistent register i: it takes effect and is counted; a page commit is queued below the endurance limit, and while
PWRFAIL_N is high (R202-R204). -/
def persistWrite (i val : Nat) (s : State) : State :=
  match persistReg i with
  | none => s
  | some (f, j) =>
    let mask := f.rwp ||| f.rw
    let w := (s.word f j &&& BitVec.ofNat 32 (2 ^ 32 - 1 - mask)) ||| (BitVec.ofNat 32 val &&& BitVec.ofNat 32 mask)
    let s1 := s.putWord f w j
    let n := tabGet s1.pst.counts i
    let s2 := countWrite i s1
    if s2.pst.lowPf then s2.put PST_STAT_PF_DROP 1
    else if wearLimit ≤ n then s2
    else { s2 with pst := { s2.pst with queue := s2.pst.queue ++ [{ page := 128 + i, value := w.toNat, count := n + 1 }] } }

/-- Write the page of a commit (R202). -/
def writeCommit (c : Commit) (s : State) : State :=
  writePage c.page ((factoryPage s.part c.page).take 4 ++ leBytes 4 c.value ++ leBytes 4 c.count) s

/-- The oldest queued page commit is written, once no Scorebook flush runs, which the store serves first (R202, R204). -/
def pageCommit (page : Nat) (s : State) : State :=
  match s.pst.queue with
  | c :: q =>
    if c.page = page && s.flt.flushN = 0 then writeCommit c { s with pst := { s.pst with queue := q } } else s
  | [] => s

/-- A write of PST_PGSEL shows the stored cells of a page and its stored check word (R209). -/
def pgselSnapshot (val : Nat) (s : State) : State :=
  let p := val % 256
  let b := s.cellBytes p ++ leBytes 4 (s.cellCheck p)
  forAll (List.range 64) (fun i t => t.putWord PST_PGDATA (BitVec.ofNat 32 (ofLe ((b.drop (4 * i)).take 4))) i)
    (s.put PST_PGSEL_SEL p)

/-! ### Operating time and calibration banks (R206-R208) -/

/-- One step of CRC-16, polynomial 0x1021, most significant bit first. -/
def crc16Bit (c : Nat) : Nat := if 32768 ≤ c then ((2 * c) ^^^ 0x1021) % 65536 else 2 * c

/-- CRC-16 of a byte list from 0xFFFF; the manual gives no polynomial and no form (PRESUMED, log 154). -/
def crc16 (l : List Nat) : Nat :=
  l.foldl (fun c b => (List.range 8).foldl (fun a _ => crc16Bit a) (c ^^^ (b % 256 * 256))) 0xFFFF

/-- The 8 bytes of an operating-time cell: seconds, CRC-16 (R208). -/
def opCell (sec : Nat) : List Nat := leBytes 6 sec ++ leBytes 2 (crc16 (leBytes 6 sec))

/-- The seconds of a cell, where it is valid (R208). -/
def opCellValue (l : List Nat) : Option Nat :=
  if l.length = 8 && ofLe (l.drop 6) = crc16 (l.take 6) then some (ofLe (l.take 6)) else none

/-- Where the counter resumes: the largest value among the valid cells (R208). -/
def opResume (cells : Tab (List Nat)) : Nat := (cells.filterMap (fun e => opCellValue e.2)).foldl max 0

/-- Every 64 s of operating time the next cell in rotation is written (R208). -/
def opTimeCell (s : State) : State :=
  let due := s.pst.opAt + 64
  let s1 := s.moveTo (s.opTick (due * 65536))
  { s1 with pst := { s1.pst with
    opCells := tabSet s1.pst.opCells s1.pst.opNext (opCell (s1.opTime / 65536)), opNext := (s1.pst.opNext + 1) % 64
    opAt := s1.opTime / 65536 } }

/-- Bytes of a calibration bank before its CRC-32C (R206). -/
def bankSize : Nat := 262132

/-- The 13 residuals of a set as 64 bytes, in the layout of CALFAC words 0 to 6 (R43, R50, R206; the layout is a DESIGN CHOICE, log
155). -/
def residBytes (l : List Int) : List Nat :=
  let h := fun i => leBytes 2 (codeOf 16 (l.getD i 0))
  fitLen 64 0 (((List.range 5).map h).flatten ++ [0, 0] ++ ((List.range 8).map (fun i => h (5 + i))).flatten)

/-- The residuals of a set of 64 bytes. -/
def parseResid (b : List Nat) : List Int :=
  let g := fun i : Nat => signedOf 16 (ofLe ((b.drop (2 * i)).take 2))
  (List.range 5).map g ++ (List.range 8).map (fun i => g (6 + i))

/-- Bytes 0 to 262,131 of a bank (R206). -/
def bankBody (b : Bank) : List Nat :=
  let sets := ((List.range 112).map (fun u => ((List.range 6).map (fun t => residBytes (tabGet b.resid (u * 8 + t)))).flatten)).flatten
  fitLen bankSize 0 ([0x4D, 0x51, 0x43, 0x42] ++ leBytes 4 b.innings ++ leBytes 6 b.seconds ++ [0, 0] ++
    (b.fac.map (fun w => leBytes 4 w.toNat)).flatten ++ sets)

/-- The 262,144 bytes of a bank: body, CRC-32C, sequence number and its complement (R206). -/
def bankBytes (b : Bank) : List Nat :=
  let l := bankBody b
  l ++ leBytes 4 (crc32c l) ++ leBytes 4 b.seq ++ leBytes 4 (2 ^ 32 - 1 - b.seq)

/-- What the bytes of a bank say (R206). -/
def parseBank (l : List Nat) : Bank :=
  let at_ := fun i n : Nat => (l.drop i).take n
  let seq := ofLe (at_ 262136 4)
  { good := l.length = 262144 && l.take 4 = [0x4D, 0x51, 0x43, 0x42] && ofLe (at_ bankSize 4) = crc32c (l.take bankSize) &&
      ofLe (at_ 262140 4) = 2 ^ 32 - 1 - seq
    seq := seq, innings := ofLe (at_ 4 4), seconds := ofLe (at_ 8 6)
    fac := (List.range 4096).map (fun i => BitVec.ofNat 32 (ofLe (at_ (16 + 4 * i) 4)))
    resid := ((List.range 112).map (fun u => (List.range 6).map (fun t =>
      (u * 8 + t, parseResid (at_ (16400 + (u * 6 + t) * 64) 64))))).flatten }

/-- Bytes of bank i, none where it has never been written. -/
def State.bankStored (s : State) (i : Nat) : List Nat := tabGet s.pst.banks i

/-- Bank i of the store. -/
def State.bank (s : State) (i : Nat) : Bank := if s.bankStored i = [] then {} else parseBank (s.bankStored i)

/-- Bank i is blank: its last 8 bytes read 0xFF (R206). -/
def State.bankBlank (s : State) (i : Nat) : Bool := ((s.bankStored i).drop 262136).all (fun b => b = 0xFF)

/-- A bank is valid (R206). -/
def Bank.valid (b : Bank) : Bool := b.good && b.seq ≠ 0 && b.seq ≠ 0xFFFFFFFF

/-- Bank i with its sequence word written as 0, as a save begins (R207). -/
def State.bankOpened (s : State) (i : Nat) : List Nat :=
  let l := fitLen 262144 0xFF (s.bankStored i)
  l.take 262136 ++ [0, 0, 0, 0] ++ l.drop 262140

/-- The newer valid bank (R206). -/
def State.newerBank (s : State) : Option Nat :=
  match (s.bank 0).valid, (s.bank 1).valid with
  | true, true => some (if (s.bank 0).seq < (s.bank 1).seq then 1 else 0)
  | true, false => some 0
  | false, true => some 1
  | false, false => none

/-- The residual sets of R43 as a bank holds them: unit · 8 + band. -/
def State.residTab (s : State) : Tab (List Int) :=
  (s.units.map (fun e => e.2.bgc.map (fun g => (e.1 * 8 + g.1, g.2.resid)))).flatten

/-- A bank save ends (R207). -/
def calSaveDone (ok : Bool) (s : State) : State :=
  if !s.cal.saving then s
  else
    let dst := match s.newerBank with
      | some 0 => 1
      | _ => 0
    let seq := match s.newerBank with
      | some i => (s.bank i).seq + 1
      | none => 1
    let new : Bank := { seq := seq, innings := s.get GLB_INNINGS_COUNT, seconds := s.devTime / 2 ^ 32
                        fac := ((List.range 16).map (fun t => (List.range 256).map (s.calfac t))).flatten
                        resid := s.residTab }
    let b := if ok then bankBytes new else s.bankOpened dst
    let d := s.cal.cmd
    let s1 := { s with cal := {}, pst := { s.pst with banks := tabSet s.pst.banks dst b } }.put PST_STAT_CAL_SAVING 0
    let s2 := if ok then s1 else emit ev_CAL_BANK_FAIL 242 s1 .none 0 dst
    match d with
    | some d => completeDefer d (if ok then stSUCCESS else stSTORE_FAIL) s2
    | none => s2

end Sys2Proof.Machine
end

