-- ==== Sys2Proof/Machine/MeaOps.lean ====
section
/-!
DEFINITION. Sys2Proof/Machine/MeaOps.lean: housekeeping conversions, filter channels and window comparators (R280-R305).
-/
namespace Sys2Proof.Machine
open Sys2Proof

/-! ### Units and tables -/

/-- Unit u beside its registers. -/
def State.hk (s : State) (u : Nat) : HkUnit := tabGet s.mea.units u

/-- Change unit u. -/
def State.modHk (s : State) (u : Nat) (f : HkUnit → HkUnit) : State :=
  { s with mea := { s.mea with units := tabMod s.mea.units u f } }

/-- Unit u works (R283). -/
def State.unitOk (s : State) (u : Nat) : Bool := bitOf (s.get MEA_STAT_UNIT_OK) u

/-- Some unit runs table u: its own, or the other one after a failure (R283). -/
def State.tableRuns (s : State) (u : Nat) : Bool :=
  s.flag MEA_UCFG_EN u && s.mea.corrected && (s.unitOk u || (s.unitOk (1 - u) && s.flag MEA_STAT_TAKEOVER))

/-- Length of table u. -/
def State.tableLen (s : State) (u : Nat) : Nat := s.get MEA_UCFG_LENM1 u + 1

/-- Entries of table u that feed channel ch. -/
def State.feeds (s : State) (u ch : Nat) : Nat :=
  ((List.range (s.tableLen u)).filter (fun i => s.get MEA_SEQ_CH u i = ch)).length

/-- The table that feeds a channel. -/
def State.feeder (s : State) (ch : Nat) : Option Nat :=
  if 0 < s.feeds 0 ch && s.flag MEA_UCFG_EN 0 then some 0
  else if 0 < s.feeds 1 ch && s.flag MEA_UCFG_EN 1 then some 1 else none

/-- Nominal sample period of a channel, ticks: L / (m × 2 MS/s) (R281, R290). -/
def State.samplePeriod (s : State) (ch : Nat) : Nat :=
  match s.feeder ch with
  | some u => 512000 * s.tableLen u / s.feeds u ch
  | none => 0

/-! ### Filter channels (R285-R291) -/

/-- Channel ch beside its registers. -/
def State.chan (s : State) (ch : Nat) : Chan := tabGet s.mea.chans ch

/-- Change channel ch. -/
def State.modChan (s : State) (ch : Nat) (f : Chan → Chan) : State :=
  { s with mea := { s.mea with chans := tabMod s.mea.chans ch f } }

/-- The channel runs its FIR path. -/
def State.chFir (s : State) (ch : Nat) : Bool := s.flag MEA_CHCFG_MODE ch || s.flag MEA_CHSTAT_FALLBACK ch

/-- N of the channel: the window of the MA, or 256 samples of the FIR (R286, R288). -/
def State.chN (s : State) (ch : Nat) : Nat :=
  if s.chFir ch then 256
  else match s.get MEA_CHCFG_PRESET ch with
    | 0 => 4 | 1 => 64 | 2 => 1024 | 3 => 4096 | _ => s.get MEA_CHCFG_NM1 ch + 1

/-- D of the channel (R286). -/
def State.chD (s : State) (ch : Nat) : Nat :=
  match s.get MEA_CHCFG_PRESET ch with
  | 0 => 1 | 1 => 16 | 2 => 256 | 3 => 4096 | _ => s.get MEA_CHCFG_DM1 ch + 1

/-- Latest output of a channel, signed, 2^−8 code. -/
def State.chOut (s : State) (ch : Nat) : Int := signedOf 32 (s.word MEA_CHOUT ch).toNat

/-- A missing sample: settling starts again (R288). -/
def missSample (ch : Nat) (s : State) : State := (s.modChan ch (fun c => { c with n := 0, hist := [] })).put MEA_CHSTAT_SETTLED 0 ch

/-- The value of an output: the MA of the window, or the FIR sum (R285). -/
def State.chValue (s : State) (ch : Nat) (l : List Nat) : Int :=
  let v :=
    if s.chFir ch then
      roundDiv (((List.range 256).foldl (fun (a : Int) k =>
        a + signedOf 18 (s.get MEA_FIRCOEF_COEF ch k) * ((l.getD k 0 : Nat) : Int)) 0) * 256) 131072
    else roundDiv (((l.take (s.chN ch)).foldl (fun (a : Int) (x : Nat) => a + (x : Int)) 0) * 256) ((s.chN ch : Nat) : Int)
  clampI (-(2 ^ 31 - 1)) (2 ^ 31 - 1) v

/-- The stamp of an output (R290). -/
def State.chStamp (s : State) (ch : Nat) (l : List (Nat × Nat)) : Nat :=
  if s.chFir ch then (l.headD (0, 0)).2 - s.get MEA_CHFIR_GD_HALF ch * s.samplePeriod ch * 2 ^ 32 / (2 * Config.sec)
  else ((l.take (s.chN ch)).foldl (fun a x => a + x.2) 0) / s.chN ch

/-- One step of the envelope, in 2^−24 code (R291). -/
def envStep (att dec : Nat) (e x : Int) : Int :=
  let d := (x.natAbs : Int) * 65536 - e
  if 0 < d then e + d / 2 ^ att else e + d / 2 ^ dec

/-- An output of channel ch (R285, R290, R291). -/
def chOutput (ch : Nat) (s : State) : State :=
  let c := s.chan ch
  let v := s.chValue ch (c.hist.map Prod.fst)
  let w := s.get MEA_CHDET_WM1 ch + 1
  let s1 := s.modChan ch (fun y =>
    { y with
      outs := (v :: y.outs).take w
      env := envStep (s.get MEA_CHDET_ATT ch) (s.get MEA_CHDET_DEC ch) y.env v
      stamp := s.chStamp ch c.hist
      outTag := s.get MEA_CHSTAT_TAG ch })
  (s1.putWord MEA_CHOUT (BitVec.ofInt 32 v) ch).put MEA_CHSTAT_OUTPUTS ((s.get MEA_CHSTAT_OUTPUTS ch + 1) % 65536) ch

/-- The control complex's copy of device time: corrected at each beat boundary, it steps by 39.0625 ns (R282; DEDUCED, log 167). -/
def State.stampTime (s : State) : Nat :=
  let b := s.beatTick s.beatNow
  { s with now := b + (s.now - b) / 40000 * 40000 }.devTime

/-- A sample enters channel ch: code and raw result (R282, R285, R288). -/
def feed (ch code raw : Nat) (s : State) : State :=
  if !s.flag MEA_CHCFG_EN ch then s
  else
    let s1 := (s.modChan ch (fun c =>
      { c with
        n := c.n + 1, hist := ((code, s.stampTime) :: c.hist).take 4096
        raw := raw, same := if c.hist ≠ [] && c.raw = raw then c.same + 1 else 1 })).put
      MEA_CHSTAT_TAG ((s.get MEA_CHSTAT_TAG ch + 1) % 256) ch
    let n := (s1.chan ch).n
    if n < s1.chN ch then s1
    else
      let s2 := if s1.flag MEA_CHSTAT_SETTLED ch then s1
        else emit ev_CH_SETTLED (322 + ch / 4) (s1.put MEA_CHSTAT_SETTLED 1 ch) .none 0 ch
      if (n - s2.chN ch) % s2.chD ch = 0 then chOutput ch s2 else s2

/-- A conversion of a housekeeping unit: the next entry of its table, or of both tables in turn; after 65,536 of them the check comes
first (R280-R283). -/
def hkConversion (u raw dither : Nat) (s : State) : State :=
  if !s.unitOk u || !s.mea.corrected || 65536 ≤ (s.hk u).n then s
  else
    let t := if s.flag MEA_STAT_TAKEOVER then s.mea.turn else u
    let s1 := s.moveTo (s.hk u).due
    let s2 := (s1.modHk u (fun h => { h with due := s1.now + 500 * Config.ticksPerNs, n := h.n + 1 }))
    let s3 := if s.flag MEA_STAT_TAKEOVER then { s2 with mea := { s2.mea with turn := 1 - s2.mea.turn } } else s2
    if !s3.flag MEA_UCFG_EN t then s3
    else
      let i := (s3.hk t).idx % s3.tableLen t
      let ch := s3.get MEA_SEQ_CH t i
      feed ch (min 65535 (raw - dither)) raw (s3.modHk t (fun h => { h with idx := (i + 1) % s3.tableLen t }))

/-- Every channel that table u feeds misses a sample. -/
def tableMiss (u : Nat) (s : State) : State :=
  forAll (List.range 32) (fun ch t => if 0 < t.feeds u ch && t.flag MEA_CHCFG_EN ch then missSample ch t else t) s

/-- A unit fails: the other takes its table over, or every channel stops (R283, R354). -/
def unitFail (u : Nat) (s : State) : State :=
  let ok := s.get MEA_STAT_UNIT_OK &&& (3 - 2 ^ u)
  let s1 := tableMiss u (s.put MEA_STAT_UNIT_OK ok)
  let s2 := s1.put MEA_STAT_TAKEOVER (bit (ok ≠ 0))
  if ok = 0 then raise ev_THERM_BLIND 376 (tableMiss (1 - u) s2) else s2

/-- The reference lies within 32,768 ± 66 codes and ground at or below 64 (R283). -/
def refOk (r : RefReadings) : Bool := 32702 ≤ r.ref.toNat && r.ref.toNat ≤ 32834 && r.ground.toNat ≤ 64

/-- The check of reference and ground, once every 65,536 conversions (R283). -/
def hkRefCheck (u : Nat) (ok : Bool) (s : State) : State :=
  if !s.unitOk u || !s.mea.corrected || (s.hk u).n < 65536 then s
  else
    let bad := if ok then 0 else (s.hk u).bad + 1
    let s1 := s.modHk u (fun h => { h with bad := bad, n := 0, due := h.due + 1000 * Config.ticksPerNs })
    if bad = 2 then react ev_HK_UNIT_FAIL (320 + u) .none (unitFail u) s1 else s1

/-! ### Window comparators (R292-R301) -/

/-- A field of MEA_CMPCFG of comparator c, given for both halves of the bank. -/
def State.cmp (s : State) (p w : Fld) (c : Nat) : Nat := if c < 32 then s.get p c else s.get w (c - 32)

/-- MODE of comparator c. -/
def State.cmpModeCfg (s : State) (c : Nat) : Nat := s.cmp MEA_CMPCFG_P_MODE MEA_CMPCFG_W_MODE c

/-- Comparator c serves protection or control that runs in SLEEP (R297). -/
def State.cmpServes (s : State) (c : Nat) : Bool :=
  (s.flag MEA_CMPROUTE_TRIP_EN c &&
    ((List.range 48).any (fun ch => s.flag PWM_CHCFG_EN ch && bitOf (s.get PWM_CHTRIP_MASK ch) (s.get MEA_CMPROUTE_TRIP_GRP c)) ||
     (List.range 512).any (fun n => s.flag CTE_SLOTCFG_ENABLE n && s.get CTE_SLOTTIM_ARM_GRP n = s.get MEA_CMPROUTE_TRIP_GRP c))) ||
  (s.flag RPS_CFG_EN && (s.get RPS_HOLD_SAG_CMP = c || (s.flag RPS_HOLD_OV_EN && s.get RPS_HOLD_OV_CMP = c)))

/-- Mode comparator c runs in now (R297). -/
def State.cmpMode (s : State) (c : Nat) : Nat :=
  if !s.boot.asleep || s.cmpServes c then s.cmpModeCfg c else if s.flag MEA_CMPROUTE_WAKE_EN c then 3 else 0

/-- Response of a mode, ticks (R293). -/
def cmpResponse (mode : Nat) : Nat :=
  match mode with
  | 1 => 3072 | 2 => 40960 | 3 => 1536000 | _ => 0

/-- Filter clock period of a mode, ticks (R293). -/
def cmpPeriod (mode : Nat) : Nat :=
  match mode with
  | 1 => 2560 | 2 => 40000 | 3 => 2560000 | _ => 0

/-- The state of comparator c is held until N new filter samples have been taken (R294). -/
def holdCmp (c : Nat) (s : State) : State :=
  { s with mea := { s.mea with
    hold := tabSet s.mea.hold c (s.now + s.cmp MEA_CMPCFG_P_FILT_N MEA_CMPCFG_W_FILT_N c * cmpPeriod (s.cmpMode c)) } }

/-- After a change that may have given comparator c another mode than it had in `s0`: it is off, or its state is held (R294, R297). -/
def cmpMoved (s0 : State) (c : Nat) (s : State) : State :=
  if s.cmpMode c = s0.cmpMode c then s
  else if s.cmpMode c = 0 then (s.put MEA_CMPSTAT_STATE 3 c).put MEA_CMPSTAT_RAW 3 c
  else holdCmp c s

/-- A filtered state matches ON (R295, R304). -/
def State.matchesOn (s : State) (c st : Nat) : Bool :=
  (st = 1 && bitOf (s.get MEA_CMPROUTE_ON c) 0) || (st = 2 && bitOf (s.get MEA_CMPROUTE_ON c) 1)

/-- Comparator c is out of service (R301). -/
def State.cmpOut (s : State) (c : Nat) : Bool := s.mea.out.contains c

/-- Trip group g is asserted (R295, R301). -/
def State.groupOn (s : State) (g : Nat) : Bool :=
  (List.range 64).any (fun c => s.flag MEA_CMPROUTE_TRIP_EN c && s.get MEA_CMPROUTE_TRIP_GRP c = g &&
    (s.cmpOut c || s.matchesOn c (s.get MEA_CMPSTAT_STATE c)))

/-- A wake source acts: TARGET becomes STANDBY and the step out of SLEEP starts (R170). -/
def wake (s : State) : State :=
  if s.rstate 16 = 0 && s.get CLK_RCFG_TARGET = 0 then s.put CLK_RCFG_TARGET 1 else s

/-- The trigger of comparator c on the snapshot slots that name it (R157): tick of the change. -/
def cmpTrigger (c tick : Nat) (s : State) : State :=
  let d := tick - s.align
  forAll (List.range 16) (fun x t =>
    if t.get SPW_SNAPCFG2_CMP x = c then
      snapTrig x 3 (if t.snapRaw x then (2 * d + Config.convSample) / (2 * Config.convSample)
        else (2 * d + Config.subSample) / (2 * Config.subSample)) t
    else t) s

/-- The filtered state of comparator c changes; `age` ticks have passed since the first of the qualifying samples (R294-R297,
R343). A comparator that is off, out of service, held or being checked shows no change. -/
def cmpChange (c st age : Nat) (s : State) : State :=
  let frozen : Bool := s.flag MEA_CMPSTAT_CHECKING c || s.cmpOut c || s.cmpMode c = 0 || decide (s.now < tabGet s.mea.hold c)
  if frozen || st = 3 || s.get MEA_CMPSTAT_STATE c = st then s
  else
    let back := age + cmpResponse (s.cmpMode c)
    let stamp := s.devTime - back * 2 ^ 32 / Config.sec
    let s1 := ((s.put MEA_CMPSTAT_STATE st c).put MEA_CMPSTAT_RAW st c).put MEA_CMPSTAT_CHANGES
      ((s.get MEA_CMPSTAT_CHANGES c + 1) % 65536) c
    let s2 := (s1.put MEA_CMPTS_V stamp c 0).put MEA_CMPTS_V (stamp / 2 ^ 32) c 1
    let s3 := if s2.flag MEA_CMPROUTE_EV_EN c then
        emit (if st = 1 then ev_CMP_ABOVE else if st = 2 then ev_CMP_BELOW else ev_CMP_INSIDE) (256 + c) s2
      else s2
    let s4 := cmpTrigger c (s3.now - back) s3
    let s5 := if s4.flag RPS_CFG_EN && s4.flag RPS_HOLD_OV_EN && s4.get RPS_HOLD_OV_CMP = c && st = 1 then
        emit ev_BUS_OV 372 s4 else s4
    if s5.rstate 16 = 0 && s5.flag MEA_CMPROUTE_WAKE_EN c && s5.matchesOn c st then
      let s6 := if s5.flag MEA_WAKESTAT_VALID then s5 else (s5.put MEA_WAKESTAT_CMP c).put MEA_WAKESTAT_VALID 1
      wake (emit ev_CMP_WAKE 330 s6)
    else s5

/-- Entry to SLEEP, and wake: every comparator goes over to the mode it now runs in (R294, R297). -/
def sleepComparators (asleep : Bool) (s : State) : State :=
  forAll (List.range 64) (cmpMoved s) { s with boot := { s.boot with asleep := asleep } }

/-! ### Self-checks (R299-R301) -/

/-- Only the readback step of a check of c runs (R300). -/
def State.checkLimited (s : State) (c : Nat) : Bool :=
  s.flag MEA_CMPROUTE_TRIP_EN c && !s.cmpOut c &&
  (List.range 48).any (fun ch => s.flag PWM_CHCFG_EN ch && bitOf (s.get PWM_CHTRIP_MASK ch) (s.get MEA_CMPROUTE_TRIP_GRP c))

/-- Start a check of comparator c (R299); its readback step takes the next two slots of U0's table. -/
def startCheck (c kind : Nat) (go : Bool) (s : State) : State :=
  let lim := s.checkLimited c
  let tie := (kind = 1 || kind = 3) && !lim
  let swap := (kind = 0 || kind = 3) && !lim
  let read := kind = 2 || kind = 3
  let us := bit tie * 20 + bit swap * 20 + bit read * 20
  let k : Check := { cmp := c, kind := kind, go := go, tie := tie, swap := swap, read := read, endAt := s.now + us * Config.us }
  let s1 := { s with mea := { s.mea with check := some k } }.put MEA_CMPSTAT_CHECKING 1 c
  let s2 := if go then s1.put MEA_CHKCTL_GO 1 else s1
  if read && s2.tableRuns 0 then
    let i := (s2.hk 0).idx
    let n := s2.tableLen 0
    let s3 := missSample (s2.get MEA_SEQ_CH 0 (i % n)) s2
    (missSample (s3.get MEA_SEQ_CH 0 ((i + 1) % n)) s3).modHk 0 (fun h => { h with idx := (i + 2) % n })
  else s2

/-- The next start-up check runs once no other does (R301). -/
def nextCheck (s : State) : State :=
  match s.mea.check, s.mea.waiting with
  | none, c :: l => startCheck c 2 false { s with mea := { s.mea with waiting := l } }
  | _, _ => s

/-- A write of MEA_CHKCTL: AUTO_S is taken; GO = 1 starts a check, but in SLEEP; a write of GO while a check runs is discarded (R299,
R300, R302). -/
def chkWrite (val : Nat) (s : State) : State :=
  if s.mea.check.isSome then s
  else
    let s1 := ((s.put MEA_CHKCTL_CMP (val % 64)).put MEA_CHKCTL_KIND (val / 64 % 4)).put MEA_CHKCTL_AUTO_S (val / 65536 % 256)
    let s2 := if s.get MEA_CHKCTL_AUTO_S = 0 then { s1 with mea := { s1.mea with autoAt := s1.now } } else s1
    if val / 256 % 2 = 1 && !s.boot.asleep then startCheck (val % 64) (val / 64 % 4) true s2 else s2

/-- A comparator is taken out of service (R301). -/
def cmpFail (c : Nat) (s : State) : State :=
  ({ s with mea := { s.mea with out := (s.mea.out.filter (fun x => x ≠ c)) ++ [c] } }.put MEA_CMPSTAT_STATE 3 c).put
    MEA_CMPSTAT_CHK_FAIL 1 c

/-- The tie step passes: BELOW with the input at 0 V, or INSIDE where THR_LO is 0, and ABOVE at 2.048 V (R299). -/
def State.tieOk (s : State) (c : Nat) (r : CheckReadings) : Bool :=
  (r.low = 2 || (r.low = 0 && s.cmp MEA_CMPCFG_P_THR_LO MEA_CMPCFG_W_THR_LO c = 0)) && r.high = 1

/-- The swap step passes: a half whose 8 samples agree gives the complement when swapped (R299). -/
def swapOk (r : CheckReadings) : Bool :=
  r.halves.all (fun h => !(h.1.all (fun x => x = h.1.headD false)) || h.2 = h.1.map not)

/-- The readback step passes: both threshold DACs read within 192 codes of 2 mV times their codes (R299). -/
def State.readOk (s : State) (c : Nat) (r : CheckReadings) : Bool :=
  let near := fun (v thr : Nat) => decide (v ≤ 64 * thr + 192) && decide (64 * thr ≤ v + 192)
  near r.lo.toNat (s.cmp MEA_CMPCFG_P_THR_LO MEA_CMPCFG_W_THR_LO c) && near r.hi.toNat (s.cmp MEA_CMPCFG_P_THR_HI MEA_CMPCFG_W_THR_HI c)

/-- RESULT of check `k` (R299-R302): the first step of it that fails, PASS, or SKIPPED where no step ran. -/
def State.checkResult (s : State) (k : Check) (r : CheckReadings) : Nat :=
  if k.tie && !s.tieOk k.cmp r then 3 else if k.swap && !swapOk r then 2 else if k.read && !s.readOk k.cmp r then 4
  else if k.tie || k.swap || k.read then 1 else 5

/-- A failed check is counted, and what it found is kept (R301, R302). -/
def checkFailed (c res : Nat) (s : State) : State :=
  let t := (s.count MEA_CHKSTAT_FAILS).put MEA_CMPSTAT_CHK_FAIL 1 c
  { t with mea := { t.mea with found := tabSet t.mea.found c res } }

/-- A comparator check ends with what its steps have found (R294, R299, R301). -/
def checkDone (r : CheckReadings) (s : State) : State :=
  match s.mea.check with
  | none => s
  | some k =>
    let res := s.checkResult k r
    let s1 := holdCmp k.cmp { s.moveTo k.endAt with mea := { s.mea with check := none } }
    let s2 := ((s1.put MEA_CMPSTAT_CHECKING 0 k.cmp).put MEA_CHKSTAT_CMP k.cmp).put MEA_CHKSTAT_RESULT res
    let s3 := if k.go then s2.put MEA_CHKCTL_GO 0 else s2
    let bad : Bool := 2 ≤ res && res ≤ 4
    let s4 := if bad then
        react ev_CMP_CHECK_FAIL (256 + k.cmp) .none (cmpFail k.cmp) (checkFailed k.cmp res s3) 0 res
      else if res = 1 && k.kind = 3 && k.go then
        { s3 with mea := { s3.mea with out := s3.mea.out.filter (fun x => x ≠ k.cmp) } }.put MEA_CMPSTAT_CHK_FAIL 0 k.cmp
      else s3
    nextCheck s4

/-- The automatic check of the next comparator (R300). -/
def autoCheck (s : State) : State :=
  let n := s.get MEA_CHKCTL_AUTO_S
  if n = 0 || s.mea.check.isSome || s.rstate 16 = 0 then s
  else
    let order := (List.range 64).map (fun i => (s.mea.autoNext + i) % 64)
    let s1 := s.moveTo (s.mea.autoAt + n * Config.sec)
    let s2 := { s1 with mea := { s1.mea with autoAt := s1.now } }
    match order.find? (fun c => s.cmpModeCfg c ≠ 0) with
    | none => s2
    | some c => startCheck c 3 false { s2 with mea := { s2.mea with autoNext := (c + 1) % 64 } }

/-- The correction of R284 ends; the tables start, and the start-up readback checks (R284, R301, R352). -/
def correctionDone (ok : Nat) (s : State) : State :=
  if s.mea.corrected then s
  else
    let s1 := s.moveTo (s.mea.onAt + 2 * Config.ms)
    let s2 := { s1 with mea := { s1.mea with
      corrected := true, waiting := (List.range 64).filter (fun c => s1.cmpModeCfg c ≠ 0) } }
    let s3 := (s2.modHk 0 (fun h => { h with due := s2.now, n := 0 })).modHk 1 (fun h => { h with due := s2.now, n := 0 })
    let s4 := s3.put MEA_STAT_UNIT_OK 3
    let s5 := forAll ((List.range 2).filter (fun u => !bitOf ok u)) (fun u t =>
      react ev_HK_UNIT_FAIL (320 + u) .none (unitFail u) (t.modHk u (fun h => { h with bad := 2 }))) s4
    nextCheck s5

/-- An uncorrectable error of MA history: the channel falls back to its FIR path, or stops (R289). -/
def chFallback (ch : Nat) (s : State) : State :=
  if !s.flag MEA_CHCFG_EN ch || s.chFir ch then s
  else if s.flag MEA_CHFIR_FIR_OK ch then
    emit ev_CH_FALLBACK (322 + ch / 4) (missSample ch (s.put MEA_CHSTAT_FALLBACK 1 ch)) .none 0 ch
  else react ev_CH_STOPPED (322 + ch / 4) .none (fun t => missSample ch (t.put MEA_CHCFG_EN 0 ch)) s 0 ch

/-- A read of CHOUT latches the detectors and the stamp of the output (R291). -/
def choutRead (ch : Nat) (s : State) : State :=
  let c := s.chan ch
  let trunc := fun (x : Int) => if 0 ≤ x then x / 256 else -((-x) / 256)
  let hi := c.outs.foldl max (c.outs.headD 0)
  let lo := c.outs.foldl min (c.outs.headD 0)
  let sq := c.outs.foldl (fun a x => a + x.natAbs * x.natAbs) 0
  let rms := if c.outs = [] then 0 else isqrt (sq / c.outs.length)
  let s1 := (s.put MEA_CHPEAK_MAX (codeOf 16 (trunc hi)) ch).put MEA_CHPEAK_MIN (codeOf 16 (trunc lo)) ch
  let s2 := (s1.put MEA_CHRMS_RMS rms ch).put MEA_CHENV_ENV (c.env / 65536).toNat ch
  (s2.put MEA_CHTS_V c.stamp ch 0).put MEA_CHTS_V (c.stamp / 2 ^ 32) ch 1

end Sys2Proof.Machine
end

