-- ==== Sys2Proof/Machine/ControlOps.lean ====
section
/-!
DEFINITION. Sys2Proof/Machine/ControlOps.lean: loop slots and their supervision (R306-R322).
-/
namespace Sys2Proof.Machine
open Sys2Proof

/-! ### Slots -/

/-- Slot n beside its registers. -/
def State.cslot (s : State) (n : Nat) : CSlot := tabGet s.cte.slots n

/-- Change slot n. -/
def State.modCslot (s : State) (n : Nat) (f : CSlot → CSlot) : State :=
  { s with cte := { s.cte with slots := tabMod s.cte.slots n f } }

/-- KIND of slot n (R307). -/
def State.kindOf (s : State) (n : Nat) : Nat := s.get CTE_SLOTCFG_KIND n
/-- DEST of slot n. -/
def State.destOf (s : State) (n : Nat) : Nat := s.get CTE_SLOTCFG_DEST n
/-- RUN of slot n (R313). -/
def State.runOf (s : State) (n : Nat) : Nat := s.get CTE_SLOTSTAT_RUN n
/-- Output of slot n in effect. -/
def State.slotOut (s : State) (n : Nat) : Int := signedOf 32 (s.get CTE_SLOTOUT_OUT n)
/-- MANUAL of slot n. -/
def State.slotMan (s : State) (n : Nat) : Int := signedOf 32 (s.get CTE_SLOTMAN_MANUAL n)
/-- Write MANUAL of slot n. -/
def State.setMan (s : State) (n : Nat) (v : Int) : State := s.put CTE_SLOTMAN_MANUAL (codeOf 32 v) n
/-- Write the output of slot n. -/
def State.setOut (s : State) (n : Nat) (v : Int) : State := s.put CTE_SLOTOUT_OUT (codeOf 32 v) n

/-- Frame of slot n's engine, ticks (R306). -/
def frameOf (n : Nat) : Nat := if n < 64 then 512000 else 25600000

/-- First frame of slot n's engine at or after tick t. -/
def State.frameCeil (s : State) (n t : Nat) : Nat := s.vauxAt + (t - s.vauxAt + frameOf n - 1) / frameOf n * frameOf n

/-- Slot period, ticks (R306, R308). -/
def State.slotPeriod (s : State) (n : Nat) : Nat :=
  if s.get CTE_SLOTCFG_FB_SRC n = 1 then Config.beat else (s.get CTE_SLOTTIM_PDIV n + 1) * frameOf n

/-- The path an OUTLEVEL slot is bound to (R96). -/
def State.boundTo (s : State) (n : Nat) : Option Nat :=
  s.livePaths.find? (fun b => (s.route b).loopEn && (s.route b).loop = n)

/-- The slot may run (R27, R307, R313). -/
def State.slotMayRun (s : State) (n : Nat) : Bool :=
  let k := s.kindOf n
  s.flag CTE_SLOTCFG_ENABLE n && 1 ≤ k && k ≤ 6 &&
  (k ≠ 1 || s.flag CTE_RAILCFG_EN (s.destOf n)) && (k ≠ 3 || (s.boundTo n).isSome)

/-- Limits of the output: UMIN to UMAX, then the range of the KIND (R307, R310). -/
def State.slotClamp (s : State) (n : Nat) (x : Int) : Int :=
  let y := clampI (signedOf 32 (s.get CTE_SLOTUMIN_UMIN n)) (signedOf 32 (s.get CTE_SLOTUMAX_UMAX n)) x
  match s.kindOf n with
  | 1 | 2 => clampI 0 65535 y
  | 5 => clampI 0 4095 y
  | _ => clampI (-(2 ^ 31)) (2 ^ 31 - 1) y

/-- Stop the running test early (R320). -/
def testAbort (n : Nat) (s : State) : State :=
  if s.get CTE_TESTSTAT_STATE = 1 && s.get CTE_TESTCFG_SLOT = n then (s.put CTE_TESTSTAT_STATE 3).put CTE_TESTCFG_GO 0 else s

/-- Put slot n in a RUN state; a test ends when its slot leaves auto. -/
def setRun (n r : Nat) (s : State) : State :=
  let t := s.put CTE_SLOTSTAT_RUN r n
  if r = 2 then t else testAbort n t

/-- Slot n stops (R313). -/
def slotStop (n : Nat) (s : State) : State :=
  if s.runOf n = 0 then s else (setRun n 0 s).modCslot n (fun c => { coef := c.coef })

/-! ### Feedback and set-point (R308, R309) -/

/-- The value of FB_SRC 1: mean power of the bound path's output streams over the past beat, 0.01 dB; none of no power,
whose logarithm the manual does not state. -/
def State.pathPower (s : State) (b : Nat) : Option Int :=
  let r := s.route b
  let l := (r.outPorts.map (fun o => r.outSubs.map (fun k =>
    ((tabGet s.fab.outLevel (skey o k) : Level).past.headD (0, 0))))).flatten
  let sum := l.foldl (fun a x => a + x.1) 0
  let cnt := l.foldl (fun a x => a + x.2) 0
  if sum = 0 then none else some (dbFloor 1000 sum (cnt * 16384 ^ 2) (-30000) 30000 - 200)

/-- Feedback of slot n: value and tag; the state draws a free value for the logarithm of no power. -/
def slotFeedback (n : Nat) (s : State) : Int × Nat × State :=
  match s.get CTE_SLOTCFG_FB_SRC n with
  | 0 => let ch := s.get CTE_SLOTCFG_FB_CH n
         (s.chOut ch, (s.chan ch).outTag, s)
  | 1 =>
    match (s.boundTo n).bind s.pathPower with
    | some p => (p, s.beatNow % 256, s)
    | none => let (v, t) := s.freshInt
              (clampI (-(2 ^ 31)) (2 ^ 31 - 1) v, s.beatNow % 256, t)
  | _ => (256 * ((s.get CTE_ISHARE_CODE : Nat) : Int), s.get CTE_ISHARE_TAG, s)

/-- Raw results of the feedback input in a row that are equal (R318). -/
def State.fbSame (s : State) (n : Nat) : Nat :=
  match s.get CTE_SLOTCFG_FB_SRC n with
  | 0 => (s.chan (s.get CTE_SLOTCFG_FB_CH n)).same
  | 2 => s.cte.ishSame
  | _ => 0

/-- The feedback channel of slot n is settling (R288, R318). -/
def State.fbSettling (s : State) (n : Nat) : Bool :=
  s.get CTE_SLOTCFG_FB_SRC n = 0 && !s.flag MEA_CHSTAT_SETTLED (s.get CTE_SLOTCFG_FB_CH n)

/-- Set-point of slot n; a source that gives none keeps the last one. -/
def State.slotSp (s : State) (n : Nat) : Int :=
  match s.get CTE_SLOTCFG_SP_SRC n with
  | 0 => signedOf 32 (s.get CTE_SLOTSP_SP n)
  | 1 => 256 * ((s.get CTE_ISHARE_CODE : Nat) : Int)
  | 2 => if s.flag PWM_GSTAT_PULSE_OK then s.pwm.pulse else (s.cslot n).rSp
  | _ =>
    match (List.range 512).find? (fun m => s.kindOf m = 4 && s.destOf m = n && s.flag CTE_SLOTCFG_ENABLE m) with
    | some m => s.slotOut m
    | none => (s.cslot n).rSp

/-! ### Arithmetic (R310, R311) -/

/-- A product of a coefficient and a signal, shifted right by 24 and rounded. -/
def cmul (c x : Int) : Int := roundDiv (c * x) 16777216

/-- Saturation of the accumulator at 48 bits. -/
def sat48 (x : Int) : Int := clampI (-(2 ^ 47)) (2 ^ 47 - 1) x

/-- Saturation at 32 bits. -/
def sat32 (x : Int) : Int := clampI (-(2 ^ 31)) (2 ^ 31 - 1) x

/-- A condition of R311 stands for an output that would go from the last one to `u`. -/
def State.noWindup (s : State) (n : Nat) (last u : Int) : Bool :=
  (s.kindOf n = 1 && s.pwm.guard.contains (s.destOf n)) ||
  (s.kindOf n = 3 && last < u && (match s.boundTo n with
    | some b => (s.path b).limit ≠ 1
    | none => false))

/-- One compensator execution in auto: the slot after it, and the output (R310, R311). -/
def State.compensate (s : State) (n : Nat) (c : CSlot) (e y : Int) : CSlot × Int :=
  let k := fun i => c.coef.getD i 0
  if s.flag CTE_SLOTCFG_FORM n then
    let umin := signedOf 32 (s.get CTE_SLOTUMIN_UMIN n)
    let umax := signedOf 32 (s.get CTE_SLOTUMAX_UMAX n)
    let i1 := clampI umin umax (sat48 (c.integ + cmul (k 1) e))
    let out := fun i => s.slotClamp n (sat48 (cmul (k 0) e + i + cmul (k 2) (c.y1 - y)))
    let i2 := if s.noWindup n c.u1 (out i1) then c.integ else i1
    let u := out i2
    ({ c with integ := i2, u2 := c.u1, u1 := u, e2 := c.e1, e1 := e, y1 := y }, u)
  else
    let acc := sat48 (cmul (k 0) e + cmul (k 1) c.e1 + cmul (k 2) c.e2 - cmul (k 3) c.u1 - cmul (k 4) c.u2)
    let u0 := s.slotClamp n acc
    let u := if s.noWindup n c.u1 u0 then c.u1 else u0
    ({ c with u2 := c.u1, u1 := u, e2 := c.e1, e1 := e, y1 := y }, u)

/-- The history of a bumpless entry to auto: the first output is MANUAL (R313). -/
def State.preset (s : State) (n : Nat) (c : CSlot) (e y : Int) : CSlot × Int :=
  let m := s.slotClamp n (s.slotMan n)
  ({ c with u1 := m, u2 := m, e1 := e, e2 := e, y1 := y, integ := m - cmul (c.coef.getD 0 0) e }, m)

/-! ### Supervision (R316-R319) -/

/-- The rail of slot n goes to its SAFE_DUTY, open-loop; it sheds 64 slot periods later (R319). -/
def railSafe (n : Nat) (s : State) : State :=
  let d : Int := (s.get CTE_RAILSAFE_SAFE_DUTY (s.destOf n) : Nat)
  let s1 := (setRun n 3 s).setOut n d
  s1.modCslot n (fun c =>
    { c with safe := true, leave := false, u1 := d, u2 := d, shedAt := some (s.now + 64 * s.slotPeriod n) })

/-- Rail r sheds to PH_MIN phases, with FB_LOST (R319). -/
def railShed (r : Nat) (s : State) : State :=
  (s.put CTE_RAILCFG_PH_ON (s.get CTE_RAILCFG_PH_MIN r) r).put CTE_RAILSTAT_FB_LOST 1 r

/-- 64 slot periods at SAFE_DUTY: rail r sheds to PH_MIN phases (R319). -/
def railFbLost (r : Nat) (s : State) : State :=
  match (List.range 64).find? (fun n => s.kindOf n = 1 && s.destOf n = r && (s.cslot n).shedAt.isSome) with
  | none => s
  | some n =>
    let s1 := (s.moveTo ((s.cslot n).shedAt.getD 0)).modCslot n (fun c => { c with shedAt := none })
    react ev_RAIL_FB_LOST (336 + r) (.rail r) (railShed r) s1

/-- Feedback of slot n is lost: no new tag for 4 periods, or 64 equal raw results (R318, R319). -/
def feedbackLost (n : Nat) (s : State) : State :=
  let c := s.cslot n
  let frozen : Bool := 64 ≤ s.fbSame n
  let ch := s.get CTE_SLOTCFG_FB_CH n
  let ext := if s.fbSettling n && c.wasSettled then s.chN ch * s.samplePeriod ch else 0
  let due := c.tagAt + 4 * s.slotPeriod n + ext
  if s.runOf n = 0 || c.lost || c.safe then s
  else
    let s1 := if frozen then s.put CTE_SLOTSTAT_FROZEN 1 n else s.moveTo due
    let s2 := s1.put CTE_SLOTSTAT_FB_LOST 1 n
    if s2.kindOf n = 1 then railSafe n s2
    else
      let s3 := (setRun n 3 s2).modCslot n (fun x => { x with lost := true, before := if s2.runOf n = 3 then x.before else s2.runOf n })
      emit ev_SLOT_FB_LOST (341 + n / 128) s3

/-- A deadline is missed (R316). -/
def slotMissed (n : Nat) (s : State) : State :=
  let last : Option Nat := tabGet s.cte.missBeat n
  let s1 := { (s.put CTE_SLOTSTAT_MISSED 1 n).count CTE_SLOTSTAT_MISSCNT n with
    cte := { s.cte with missBeat := tabSet s.cte.missBeat n (some s.beatNow) } }
  if beatSince last s.beatNow then emit ev_SLOT_MISSED (341 + n / 128) s1 .none 0 n else s1

/-- A coefficient-memory error is corrected: the slot misses its deadline (R316, R333). -/
def cteEcc (n : Nat) (s : State) : State :=
  let s1 := emit ev_CTE_ECC 346 s
  if s1.runOf n = 0 then s1 else slotMissed n (s1.modCslot n (fun c => { c with due := c.due + s1.slotPeriod n }))

/-- An uncorrectable coefficient-memory error: the slot goes to manual at its last output, or at SAFE_DUTY (R319). -/
def cteEccFatal (n : Nat) (s : State) : State :=
  let s1 := react ev_CTE_ECC_FATAL 346 .none (fun t =>
    let m : Int := if t.kindOf n = 1 then (t.get CTE_RAILSAFE_SAFE_DUTY (t.destOf n) : Nat) else t.slotOut n
    let t1 := (t.setMan n m).put CTE_SLOTCFG_MODE 0 n
    if t1.runOf n = 0 then t1 else setRun n 1 t1) s
  if s1.runOf n = 0 then s1 else slotMissed n s1

/-- The following error after an execution in auto (R317); one in manual starts the count again, a hold does not (log 169). -/
def followError (n : Nat) (e : Int) (s : State) : State :=
  let lim := s.get CTE_SLOTFE_FE_CNT n
  let k := if (s.get CTE_SLOTFE_FE_LIM n) < e.natAbs then (s.cslot n).fe + 1 else 0
  let s1 := s.modCslot n (fun c => { c with fe := k })
  if lim = 0 || k ≠ lim then s1
  else
    let s2 := s1.put CTE_SLOTSTAT_FOLLOW 1 n
    if s2.kindOf n = 1 then
      let r := s2.destOf n
      if s2.flag CTE_SLOTCFG_FE_ACT n then react { ev_RAIL_FOLLOW with cls := 2 } (336 + r) (.rail r) (railSafe n) s2
      else emit { ev_RAIL_FOLLOW with cls := 0 } (336 + r) s2
    else emit ev_SLOT_FOLLOW (341 + n / 128) s2

/-! ### Test injection (R320) -/

/-- A write of CTE_TESTCFG (R320). -/
def testWrite (val : Nat) (s : State) : State :=
  let running := s.get CTE_TESTSTAT_STATE = 1
  let slot := val % 512
  let go := val / 1024 % 2 = 1
  if running || (go && s.runOf slot ≠ 2) then discard (regOff CTE_TESTCFG 0 0) false s
  else
    let s1 := ((s.put CTE_TESTCFG_SLOT slot).put CTE_TESTCFG_KIND (val / 512 % 2)).put CTE_TESTCFG_AMP (val / 65536)
    if go && s1.runOf slot = 2 then
      let s2 := ((s1.put CTE_TESTCFG_GO 1).put CTE_TESTSTAT_STATE 1).put CTE_TESTSTAT_POINTS 0
      { s2.put CTE_TESTSTAT_CLIPPED 0 with cte := { s2.cte with phase := 0, prbs := 1 } }
    else s1

/-- The injection of the present execution, and the state after it. -/
def injection (s : State) : Int × State :=
  let amp : Int := (s.get CTE_TESTCFG_AMP : Nat)
  if s.get CTE_TESTCFG_KIND = 0 then
    (roundDiv (amp * sinTurn s.cte.phase (2 ^ 32)) (2 ^ 64),
     { s with cte := { s.cte with phase := (s.cte.phase + s.get CTE_TESTFREQ_FREQ) % 2 ^ 32 } })
  else
    let x := s.cte.prbs
    let b := (x / 16384 + x / 8192) % 2
    let plus : Bool := if Config.prbsPositive then b = 1 else b = 0
    (if plus then amp else -amp, { s with cte := { s.cte with prbs := (2 * x + b) % 32768 } })

/-- Drive output u of slot n, with the test injection where one runs: v and u are captured (R320). -/
def driveOut (n : Nat) (u : Int) (s : State) : State :=
  let j := s.get CTE_TESTSTAT_POINTS
  let (v, s1) :=
    if s.get CTE_TESTSTAT_STATE = 1 && s.get CTE_TESTCFG_SLOT = n && j < 4096 then
      let (d, t) := injection s
      let v := t.slotClamp n (u + d)
      let t1 := if v = u + d then t else t.put CTE_TESTSTAT_CLIPPED 1
      let t2 := if j = 0 then (t1.put CTE_CAPTS_V t1.devTime 0).put CTE_CAPTS_V (t1.devTime / 2 ^ 32) 1 else t1
      let t3 := (t2.put CTE_CAPBUF_V (codeOf 32 v) (2 * j)).put CTE_CAPBUF_V (codeOf 32 u) (2 * j + 1)
      (v, t3.put CTE_TESTSTAT_POINTS (j + 1))
    else (u, s)
  let s2 := s1.setOut n v
  if s2.kindOf n = 3 then
    match s2.boundTo n with
    | some b => s2.modPath b (fun p => { p with loop := some v })
    | none => s2
  else s2

/-- After the last point the injection stops (R320). -/
def testDone (s : State) : State :=
  if s.get CTE_TESTSTAT_STATE = 1 && s.get CTE_TESTSTAT_POINTS = 4096 then
    emit ev_TEST_DONE (341 + s.get CTE_TESTCFG_SLOT / 128) ((s.put CTE_TESTSTAT_STATE 2).put CTE_TESTCFG_GO 0)
  else s

/-! ### An execution (R306, R313) -/

/-- Copy the shadow coefficients into use (R312). -/
def coefCopy (n : Nat) (s : State) : State :=
  (s.modCslot n (fun c => { c with coef := (List.range 5).map (fun i => signedOf 32 (s.get CTE_SLOTCOEF_COEF n i)) })).put
    CTE_SLOTCFG_COEF_LOAD 0 n

/-- A cause holds slot n: its path, its channel settling, or feedback loss (R313). -/
def State.slotHeld (s : State) (n : Nat) : Bool :=
  (s.cslot n).lost || s.fbSettling n || (s.kindOf n = 3 && (match s.boundTo n with
    | some b => (s.path b).held || (s.path b).st = 4
    | none => false))

/-- A slot in manual or auto that a cause holds is held at once: its output and history stay (R96, R313). -/
def holdSlot (n : Nat) (s : State) : State :=
  let r := s.runOf n
  if (r = 1 || r = 2) && s.slotHeld n then (setRun n 3 s).modCslot n (fun c => { c with before := r }) else s

/-- The slots bound to paths that are held or in SHUTDOWN (R96). -/
def holdBound (s : State) : State :=
  forAll s.livePaths (fun b t => if (t.route b).loopEn && ((t.path b).held || (t.path b).st = 4) then holdSlot (t.route b).loop t else t) s

/-- Take note of the feedback's tag: a new one ends a loss (R318). -/
def noteTag (n tag : Nat) (s : State) : State :=
  let fresh : Bool := tag ≠ s.get CTE_SLOTSTAT_TAG n || s.get CTE_SLOTCFG_FB_SRC n = 1
  let s1 := if fresh then (s.put CTE_SLOTSTAT_TAG tag n).modCslot n (fun c => { c with tagAt := s.now }) else s
  if fresh && s1.fbSame n < 64 then
    ((s1.put CTE_SLOTSTAT_FB_LOST 0 n).put CTE_SLOTSTAT_FROZEN 0 n).modCslot n (fun c => { c with lost := false })
  else s1

/-- The RUN state slot n executes in now, and whether it enters auto (R313, R314). -/
def State.nextRun (s : State) (n : Nat) : Nat × Bool :=
  let c := s.cslot n
  let auto := s.flag CTE_SLOTCFG_MODE n || c.armed
  if s.slotHeld n then (3, false)
  else
    let r := if s.runOf n = 3 then c.before else s.runOf n
    if r = 2 then (if auto then (2, false) else (1, false))
    else if auto then (2, true) else (1, false)

/-- One execution of slot n (R306-R317). -/
def slotExecute (n : Nat) (s : State) : State :=
  if !s.slotMayRun n then slotStop n s
  else
    let s0 := s.moveTo (s.cslot n).due
    let s1 := if s0.flag CTE_SLOTCFG_COEF_LOAD n then coefCopy n s0 else s0
    let next := if s1.get CTE_SLOTCFG_FB_SRC n = 1 then s1.frameCeil n s1.nextBeat else s1.now + s1.slotPeriod n
    let (y, tag, s2) := slotFeedback n (s1.modCslot n (fun c => { c with due := next }))
    let s3 := noteTag n tag s2
    let s4 := (s3.put CTE_SLOTSTAT_SETTLING (bit (s3.fbSettling n)) n).modCslot n (fun c =>
      { c with wasSettled := c.wasSettled || !s3.fbSettling n })
    if (s4.cslot n).safe then s4
    else
      let r := s4.slotSp n
      let e := sat32 (r - y)
      let s5 := (s4.put CTE_SLOTERR_ERR (codeOf 32 e) n).modCslot n (fun c => { c with rSp := r })
      let was := s5.runOf n
      let (run, enter) := s5.nextRun n
      if run = 3 then (setRun n 3 s5).modCslot n (fun c => { c with before := if was = 3 then c.before else was })
      else
        let s6 := setRun n run (if was = 2 && run = 1 then s5.setMan n (s5.cslot n).u1 else s5)
        if run = 1 then
          let m := s6.slotClamp n (s6.slotMan n)
          driveOut n m (s6.modCslot n (fun c => { c with u1 := m, y1 := y, e1 := e, fe := 0 }))
        else
          let s7 := if enter && (s6.cslot n).armed then
              (s6.put CTE_SLOTTIM_ARM_EN 0 n).put CTE_SLOTCFG_MODE 1 n else s6
          let (c, u) := if enter then s7.preset n (s7.cslot n) e y else s7.compensate n (s7.cslot n) e y
          followError n e (driveOut n u (s7.modCslot n (fun _ => { c with armed := false })))

/-! ### Writes of CTE_SLOTCFG (R312, R313, R321) -/

/-- A KIND is allowed for a slot (R307). -/
def kindAllowed (n k : Nat) : Bool :=
  if k = 1 then n < 64 else if k = 3 then 64 ≤ n else k ≤ 6

/-- DEST is in the range of its KIND. -/
def destOk (k d : Nat) : Bool := if k = 1 then d < 5 else if k = 2 then d < 4 else true

/-- A write of CTE_SLOTCFG of slot n is discarded and counted whole, the held fields apart (R307, R321). -/
def State.slotCfgBad (s : State) (n v : Nat) : Bool :=
  let old := (s.word CTE_SLOTCFG n).toNat
  let k := v / 8 % 8
  let dest := v / 64 % 512
  !kindAllowed n k || (v / 32768 % 4 = 1 && k ≠ 3) || v / 32768 % 4 = 3 || !destOk k dest ||
  (v % 2 = 1 && old % 2 = 0 && (k = 1 || k = 2) && (List.range 512).any (fun m =>
    m ≠ n && s.flag CTE_SLOTCFG_ENABLE m && s.kindOf m = k && s.destOf m = dest))

/-- A write of CTE_SLOTCFG of slot n (R312, R313, R319, R321). -/
def slotCfgWrite (n v : Nat) (s : State) : State :=
  if s.slotCfgBad n v then discard (regOff CTE_SLOTCFG n 0) false s
  else
    let was := s.flag CTE_SLOTCFG_ENABLE n
    let now1 : Bool := v % 2 = 1
    let mode : Bool := v / 2 % 2 = 1
    let s1 := s.putWord CTE_SLOTCFG (BitVec.ofNat 32 (v % 2 ^ 26)) n
    let s2 := if now1 && !was then
        s1.modCslot n (fun c => { c with due := s1.frameCeil n (s1.now + 1), tagAt := s1.now })
      else if !now1 then slotStop n s1 else s1
    let c := s2.cslot n
    if !c.safe then s2
    else if !mode then s2.modCslot n (fun x => { x with leave := true })
    else if c.leave then
      let r := s2.destOf n
      ((setRun n 1 s2).setMan n (s2.get CTE_RAILSAFE_SAFE_DUTY r : Nat)).put CTE_RAILSTAT_FB_LOST 0 r
        |>.modCslot n (fun x => { x with safe := false, leave := false, shedAt := none })
    else s2

/-- The ISHARE_IN sampler converts a sample every 2 µs (R308). -/
def ishareSample (raw dither : Nat) (s : State) : State :=
  let s1 := s.moveTo (s.cte.ishAt + 2 * Config.us)
  let same := if s1.cte.ishRaw = raw then s1.cte.ishSame + 1 else 1
  let s2 := { s1 with cte := { s1.cte with ishRaw := raw, ishSame := same, ishAt := s1.now } }
  (s2.put CTE_ISHARE_CODE (raw - dither)).put CTE_ISHARE_TAG ((s2.get CTE_ISHARE_TAG + 1) % 256)

/-- The presets of CTE_PSEED at start-up (R315). -/
def loadPseeds (s : State) : State :=
  forAll (List.range 32).reverse (fun i t =>
    if t.flag CTE_PSEED_VALID i then t.setMan (t.get CTE_PSEED_SLOT i) (signedOf 20 (t.get CTE_PSEED_VALUE i)) else t) s

end Sys2Proof.Machine
end

