-- ==== Sys2Proof/Machine/PwmOps.lean ====
section
/-!
DEFINITION. Sys2Proof/Machine/PwmOps.lean: PWM channels, trips and blanking, the rails' overshoot guard, and the use of
PSYNC_IN (R323-R332).
-/
namespace Sys2Proof.Machine
open Sys2Proof

/-- Channel ch beside its registers. -/
def State.pwmCh (s : State) (ch : Nat) : PwmCh := tabGet s.pwm.chans ch

/-- Change channel ch. -/
def State.modPwm (s : State) (ch : Nat) (f : PwmCh → PwmCh) : State :=
  { s with pwm := { s.pwm with chans := tabMod s.pwm.chans ch f } }

/-- First channel and phase count of rail r (R323, R327). -/
def railPhases (r : Nat) : Nat × Nat :=
  match r with
  | 0 => (0, 24) | 1 => (24, 4) | 2 => (28, 6) | 3 => (34, 4) | _ => (38, 2)

/-- Rail of a channel below 40. -/
def railOfCh (ch : Nat) : Nat := if ch < 24 then 0 else if ch < 28 then 1 else if ch < 34 then 2 else if ch < 38 then 3 else 4

/-- The slot that drives rail r or pair k (R307). -/
def State.driver (s : State) (kind dest : Nat) : Option Nat :=
  (List.range (if kind = 1 then 64 else 512)).find? (fun n =>
    s.kindOf n = kind && s.destOf n = dest && s.flag CTE_SLOTCFG_ENABLE n)

/-- The slot that drives channel ch, running. -/
def State.chDriver (s : State) (ch : Nat) : Option Nat :=
  let d := if ch < 40 then s.driver 1 (railOfCh ch) else s.driver 2 ((ch - 40) / 2)
  d.bind (fun n => if s.runOf n = 0 || (ch < 40 && !s.flag CTE_RAILCFG_EN (railOfCh ch)) then none else some n)

/-- Period of channel ch, steps (R323). -/
def State.chPeriod (s : State) (ch : Nat) : Nat :=
  if ch < 40 then s.get PWM_PERNOW_T else s.get PWM_PAIRPER_PERIOD ((ch - 40) / 2)

/-- The level channel ch's pin has at tick t (R324, R325); the odd channel of a pair is its low side. -/
def State.pinAt (s : State) (ch t : Nat) : Bool :=
  let low : Bool := 40 ≤ ch && ch % 2 = 1
  let c := if low then ch - 1 else ch
  let x := s.pwmCh c
  let dt := s.get PWM_CHCFG_DT c
  let cc := s.get PWM_CHCMP_C c
  let pos := (t - x.start) / Config.pwmStep
  if !s.flag PWM_CHCFG_EN c || !s.domainOn 73 || x.trip || x.held || s.flag PWM_CHSTAT_TRIPPED c then false
  else match x.form with
    | 0 => false
    | 1 => !low
    | 3 => low
    | _ => if low then cc + dt ≤ pos && pos < x.per else dt ≤ pos && pos < cc

/-! ### Trips (R326) -/

/-- The tick at which the open window of blanking timer k closes; none outside a window. -/
def State.blankEnd (s : State) (k : Nat) : Option Nat :=
  let ref := s.get PWM_BLK_REF k
  let c := if 40 ≤ ref && ref % 2 = 1 then ref - 1 else ref
  let x := s.pwmCh c
  let dt := s.get PWM_CHCFG_DT c
  let cc := s.get PWM_CHCMP_C c
  let rise := if c = ref then dt else cc + dt
  let fall := if c = ref then cc else x.per
  let edge := x.start + (if s.flag PWM_BLK_EDGE k then fall else rise) * Config.pwmStep
  let e := edge + s.get PWM_BLK_LEN k * Config.pwmStep
  if x.form = 2 && edge ≤ s.now && s.now < e then some e else none

/-- Channel ch is blanked now. -/
def State.blanked (s : State) (ch : Nat) : Bool := s.flag PWM_CHCFG_BLK_EN ch && (s.blankEnd (s.get PWM_CHCFG_BLK ch)).isSome

/-- The lowest group of channel ch's mask that is asserted. -/
def State.chGroup (s : State) (ch : Nat) : Option Nat :=
  (List.range 8).find? (fun g => bitOf (s.get PWM_CHTRIP_MASK ch) g && bitOf s.pwm.groups g)

/-- A trip of group g takes effect on channel ch (R326, R333). -/
def tripCh (g ch : Nat) (s : State) : State :=
  let last := (s.pwmCh ch).tripBeat
  let s1 := (s.modPwm ch (fun x => { x with trip := true, tripBeat := some s.beatNow })).count PWM_CHSTAT_TRIPS ch
  if s1.flag PWM_CHCFG_LATCH ch then
    react { ev_PWM_TRIP with cls := 2 } (352 + g) .none (fun t => t.put PWM_CHSTAT_TRIPPED 1 ch) s1 0 ch
  else if beatSince last s.beatNow then emit { ev_PWM_TRIP with cls := 0 } (352 + g) s1 .none 0 ch else s1

/-- Channel ch trips on a group of its mask that is asserted, if no trip is in effect on it yet. -/
def tripNow (ch : Nat) (s : State) : State :=
  match s.chGroup ch with
  | some g => if s.flag PWM_CHCFG_EN ch && !(s.pwmCh ch).trip then tripCh g ch s else s
  | none => s

/-- Slots armed for a trip group that has just been asserted go to auto (R314). -/
def armSlots (new : Nat) (s : State) : State :=
  forAll (List.range 512) (fun n t =>
    if t.runOf n = 1 && t.flag CTE_SLOTTIM_ARM_EN n && bitOf new (t.get CTE_SLOTTIM_ARM_GRP n) then
      t.modCslot n (fun c => { c with armed := true })
    else t) s

/-- Take note of the trip groups: new assertions arm slots, and an asserted one trips the channels that are not blanked (R295, R326). -/
def syncTrips (s : State) : State :=
  let now1 := bitsOf 8 s.groupOn
  let s1 := if now1 = s.pwm.groups then s
    else armSlots (now1 &&& (255 - s.pwm.groups)) { s with pwm := { s.pwm with groups := now1 } }
  if now1 = 0 then s1 else forAll (List.range 48) (fun ch t => if t.blanked ch then t else tripNow ch t) s1

/-- A write of PWM_CHSTAT of channel ch; TRIPPED stays while a group of the mask is asserted (R326). -/
def tripRelease (ch val : Nat) (s : State) : State :=
  let s1 := if bitOf val 3 then s.put PWM_CHSTAT_DROPPED 0 ch else s
  let s2 := if bitOf val 4 then s1.put PWM_CHSTAT_STRETCHED 0 ch else s1
  if bitOf val 1 && (s2.chGroup ch).isNone then s2.put PWM_CHSTAT_TRIPPED 0 ch else s2

/-- The window of blanking timer k closes: a group still asserted acts (R326). -/
def blankClose (k : Nat) (s : State) : State :=
  match s.blankEnd k with
  | none => s
  | some e =>
    let s1 := s.moveTo e
    forAll (List.range 48) (fun ch t =>
      if t.flag PWM_CHCFG_BLK_EN ch && t.get PWM_CHCFG_BLK ch = k then tripNow ch t else t) s1

/-! ### Period starts (R323-R325, R328) -/

/-- Phase 0 of rail r starts a period: the active phases and their starts (R323, R328). -/
def railStart (r : Nat) (s : State) : State :=
  let (first, _) := railPhases r
  let n := s.get CTE_RAILCFG_PH_ON r
  let per := s.get PWM_PERNOW_T
  let s1 := s.put CTE_RAILSTAT_PH_NOW n r
  forAll (List.range n) (fun i t =>
    if i = 0 then t
    else t.modPwm (first + i) (fun x => { x with due := s.now + (roundDiv ((i * per : Nat) : Int) (n : Nat)).toNat * Config.pwmStep })) s1

/-- The form of the running period: low, high, low with a high low side, or a pulse with its compare value (R325, cases 4 to
7). -/
def State.pulseForm (s : State) (ch c t : Nat) : Nat × Nat × Bool × Bool :=
  let dt := s.get PWM_CHCFG_DT ch
  let minp := s.get PWM_CHCFG_MINP ch
  let pair : Bool := 40 ≤ ch
  if c = 0 then (if pair then 3 else 0, c, false, false)
  else if t ≤ c then (1, c, false, false)
  else if c < dt + minp || (pair && t - c < dt + minp) then
    if s.flag PWM_CHCFG_SHORT ch then (2, if c < dt + minp then dt + minp else t - dt - minp, false, true)
    else (0, c, true, false)
  else (2, c, false, false)

/-- Channel ch starts a period (R323-R326). -/
def periodStart (ch : Nat) (s : State) : State :=
  if 40 ≤ ch && ch % 2 = 1 then s
  else
    let t := s.chPeriod ch
    let s1 := s.moveTo (s.pwmCh ch).due
    let r := railOfCh ch
    let phase := ch - (railPhases r).1
    let s2 := if ch < 40 && phase = 0 then railStart r s1 else s1
    let again := (s2.chGroup ch).isSome
    let s3 := s2.modPwm ch (fun x =>
      { x with start := s2.now, due := s2.now + t * Config.pwmStep, per := t, trip := x.trip && again, held := false })
    let shed : Bool := ch < 40 && s3.get CTE_RAILSTAT_PH_NOW r ≤ phase
    let guard : Bool := ch < 40 && s3.pwm.guard.contains r
    match s3.chDriver ch with
    | none => (s3.modPwm ch (fun x => { x with form := 0 })).put PWM_CHSTAT_HELD (bit shed) ch
    | some n =>
      if !s3.flag PWM_CHCFG_EN ch || shed || guard || (s3.pwmCh ch).trip || s3.flag PWM_CHSTAT_TRIPPED ch then
        (s3.modPwm ch (fun x => { x with form := 0 })).put PWM_CHSTAT_HELD (bit (shed || guard)) ch
      else
        let c0 := (roundDiv (s3.slotOut n * (t : Int)) 65536).toNat
        let (form, c, drop, stretch) := s3.pulseForm ch c0 t
        let s4 := ((s3.modPwm ch (fun x => { x with form := form })).put PWM_CHCMP_C c ch).put PWM_CHSTAT_HELD 0 ch
        let s5 := if drop then s4.put PWM_CHSTAT_DROPPED 1 ch else s4
        if stretch then s5.put PWM_CHSTAT_STRETCHED 1 ch else s5

/-! ### The overshoot guard (R329) -/

/-- Rail r's guard is entered: every active phase goes low. -/
def guardHold (r : Nat) (s : State) : State :=
  let (first, cnt) := railPhases r
  let last : Option Nat := tabGet s.pwm.ovBeat r
  let s1 := { s with pwm := { s.pwm with guard := s.pwm.guard ++ [r], ovBeat := tabSet s.pwm.ovBeat r (some s.beatNow) } }
  let s2 := forAll (List.range cnt) (fun i t =>
    (t.modPwm (first + i) (fun x => { x with held := true })).put PWM_CHSTAT_HELD 1 (first + i)) s1
  let s3 := (s2.put CTE_RAILSTAT_HOLD 1 r).count CTE_RAILSTAT_OVCOUNT r
  if beatSince last s.beatNow then emit ev_RAIL_OVERSHOOT (336 + r) s3 else s3

/-- Bring the guard of rail r in line with its two comparators. -/
def guardRail (r : Nat) (s : State) : State :=
  let on := s.flag CTE_RAILCFG_EN r && s.flag CTE_RAILCFG_GUARD_EN r
  let ov := s.get CTE_RAILCFG_OV_CMP r
  let rel := s.get CTE_RAILCFG_REL_CMP r
  let gone := s.cmpOut ov || s.cmpOut rel
  let s1 :=
    if on && gone && !s.flag CTE_RAILSTAT_GUARD_UNAVAIL r then
      emit ev_RAIL_GUARD_UNAVAIL (336 + r) (s.put CTE_RAILSTAT_GUARD_UNAVAIL 1 r) (.rail r)
    else if !gone && s.flag CTE_RAILSTAT_GUARD_UNAVAIL r then s.put CTE_RAILSTAT_GUARD_UNAVAIL 0 r else s
  let held := s1.pwm.guard.contains r
  if on && !gone && !held && s1.get MEA_CMPSTAT_STATE ov = 1 then guardHold r s1
  else if held && (!on || gone || s1.get MEA_CMPSTAT_STATE rel ≠ 1) then
    { s1 with pwm := { s1.pwm with guard := s1.pwm.guard.filter (fun x => x ≠ r) } }.put CTE_RAILSTAT_HOLD 0 r
  else s1

/-- Bring guards, trips and run conditions in line after a change on the power side. -/
def powerSync (s : State) : State :=
  let s1 := syncTrips (forAll (List.range 5) guardRail s)
  forAll (List.range 512) (fun n t => if t.runOf n ≠ 0 && !t.slotMayRun n then slotStop n t else holdSlot n t) s1

/-! ### PSYNC_IN and the rail frequency (R330) -/

/-- 12.8 GHz in units of 2^−20 Hz. -/
def stepHz : Nat := 12800000000 * 2 ^ 20

/-- Set the frequency the rails move to. -/
def railGoal (f : Nat) (s : State) : State :=
  if f = s.pwm.goal then s
  else
    let moving : Bool := s.pwm.freq ≠ s.pwm.goal
    { s with pwm := { s.pwm with goal := f, stepAt := if moving then s.pwm.stepAt else s.now } }.put PWM_GSTAT_SLEWING
      (bit (s.pwm.freq ≠ f))

/-- The frequency of RPER. -/
def State.internalHz (s : State) : Nat := stepHz / max 1 (s.get PWM_GCFG_RPER)

/-- Synchronisation is lost (R330). -/
def syncLost (s : State) : State :=
  let s1 := { s with pwm := { s.pwm with pers := [] } }
  let s2 := railGoal s1.internalHz s1
  if s.flag PWM_GSTAT_SYNC_LOCK || s.pwm.goal ≠ s.internalHz then emit ev_SYNC_LOST 345 (s2.put PWM_GSTAT_SYNC_LOCK 0) else s2

/-- No edge for twice the last measured period (R330). -/
def syncTimeout (s : State) : State :=
  match s.pwm.edge with
  | none => s
  | some e =>
    if s.get PWM_GCFG_SYNC_SEL = 1 && s.pwm.pers ≠ [] then
      syncLost (s.moveTo (e + 2 * s.get PWM_PSYNC_PER * Config.pwmStep))
    else s

/-- 200 kHz to 2 MHz, as a period in steps. -/
def perInRange (p : Nat) : Bool := 6400 ≤ p && p ≤ 64000

/-- 16 consecutive periods within ±1 % of each other. -/
def steady (l : List Nat) : Bool :=
  l.length = 16 && (let hi := l.foldl max 0; let lo := l.foldl min (l.headD 0); 100 * hi ≤ 101 * lo)

/-- Pull the period start of VCORE phase 0 onto an edge by at most 0.1 %; SYNC_LOCK once it stands there (R330). -/
def pullPhase (s : State) : State :=
  let x := s.pwmCh 0
  let t := s.get PWM_PERNOW_T
  let pos := ((s.now - x.start) / Config.pwmStep) % max 1 t
  let lim := t / 1000
  let late : Bool := 2 * pos ≤ t
  let err := if late then pos else t - pos
  let d := min err lim * Config.pwmStep
  let s1 := s.modPwm 0 (fun y => { y with due := if late then y.due + d else y.due - d })
  if err ≤ lim && !s1.flag PWM_GSTAT_SYNC_LOCK then emit ev_SYNC_LOCKED 345 (s1.put PWM_GSTAT_SYNC_LOCK 1) else s1

/-- A rising edge of PSYNC_IN, `gap` ticks after the previous one, with the duty measured over that period (R330). -/
def psyncEdge (gap duty : Nat) (s : State) : State :=
  match s.pwm.edge with
  | none => { s with pwm := { s.pwm with edge := some s.now } }
  | some e =>
    let s1 := s.moveTo (e + gap)
    let per := min (2 ^ 20 - 1) ((s1.now - e) / Config.pwmStep)
    let s2 := ({ s1 with pwm := { s1.pwm with edge := some s1.now, pers := (per :: s1.pwm.pers).take 16 } }.put
      PWM_PSYNC_PER per).put PWM_PSYNC_DUTY (min 4095 duty)
    match s2.get PWM_GCFG_SYNC_SEL with
    | 1 =>
      if !perInRange per then syncLost s2
      else
        let mul := s2.get PWM_GCFG_SYNC_MUL
        let goal := mul * stepHz / max 1 per
        let ok := 200000 * 2 ^ 20 ≤ goal && goal ≤ 2000000 * 2 ^ 20
        if steady s2.pwm.pers && ok then
          let s3 := railGoal goal s2
          if s3.pwm.freq = s3.pwm.goal then pullPhase s3 else s3
        else s2
    | 2 =>
      if !perInRange per then s2
      else
        let p0 := signedOf 32 (s2.get CTE_PULSE_SP 0)
        let p1 := signedOf 32 (s2.get CTE_PULSE_SP 1)
        let v := p0 + roundDiv ((min 4096 duty : Nat) * (p1 - p0)) 4096
        let s3 := { s2 with pwm := { s2.pwm with pulse := v } }.put PWM_GSTAT_PULSE_OK 1
        forAll (List.range 512) (fun n t => if t.flag CTE_SLOTSTAT_SP_LOST n then t.put CTE_SLOTSTAT_SP_LOST 0 n else t) s3
    | _ => s2

/-- Every 50 µs the rail frequency moves 800 Hz (R330). -/
def freqStep (s : State) : State :=
  if s.pwm.freq = s.pwm.goal then s
  else
    let s1 := s.moveTo (s.pwm.stepAt + 50 * Config.us)
    let d := 800 * 2 ^ 20
    let f := if s1.pwm.freq < s1.pwm.goal then min s1.pwm.goal (s1.pwm.freq + d) else max s1.pwm.goal (s1.pwm.freq - d)
    let per := (roundDiv ((stepHz : Nat) : Int) (f : Nat)).toNat
    ({ s1 with pwm := { s1.pwm with freq := f, stepAt := s1.now } }.put PWM_PERNOW_T per).put PWM_GSTAT_SLEWING
      (bit (f ≠ s1.pwm.goal))

/-- No edge for 2 ms: the pulse set-point is lost (R330). -/
def pulseLost (s : State) : State :=
  match s.pwm.edge with
  | none => s
  | some e =>
    if s.get PWM_GCFG_SYNC_SEL = 2 && s.flag PWM_GSTAT_PULSE_OK then
      let s1 := (s.moveTo (e + 2 * Config.ms)).put PWM_GSTAT_PULSE_OK 0
      forAll (List.range 512) (fun n t =>
        if t.get CTE_SLOTCFG_SP_SRC n = 2 && t.runOf n ≠ 0 then
          emit ev_SLOT_SP_LOST (341 + n / 128) (t.put CTE_SLOTSTAT_SP_LOST 1 n)
        else t) s1
    else s

/-- A write of PWM_GCFG: out-of-range values are discarded (R330, R331). -/
def gcfgWrite (val : Nat) (s : State) : State :=
  let sel := val % 4
  let mul := val / 4 % 8
  let rper := val / 32 % 65536
  if sel = 3 || mul < 1 || 4 < mul || rper < 6400 || 64000 < rper then discard (regOff PWM_GCFG 0 0) false s
  else
    let was := s.get PWM_GCFG_SYNC_SEL
    let s1 := s.putWord PWM_GCFG (BitVec.ofNat 32 (val % 2 ^ 21))
    let s2 := if sel = was && sel = 1 then s1
      else { s1 with pwm := { s1.pwm with pers := [] } }.put PWM_GSTAT_SYNC_LOCK 0
    if sel = 1 && s2.flag PWM_GSTAT_SYNC_LOCK then s2 else railGoal s2.internalHz s2

end Sys2Proof.Machine
end

