-- ==== Sys2Proof/Machine/RackOps.lean ====
section
/-!
DEFINITION. Sys2Proof/Machine/RackOps.lean: PMBus devices and segments, rack measurements, hold-up, and the shedding ladder
(R334-R350). Powers are in units of 2^−20 pW.
-/
namespace Sys2Proof.Machine
open Sys2Proof

/-! ### Measurements (R338) -/

/-- 1 W. -/
def watt : Int := 1000000000000 * 1048576

/-- Rack quantity q on channel ch with zero point z, in units of 2^−8 µV or µA (R338). -/
def State.rackQ (s : State) (q ch : Nat) (z : Int) : Int := (s.chOut ch - z * 256) * ((s.get RPS_GAIN_GAIN q : Nat) : Int)

/-- V_bus. -/
def State.vBus (s : State) : Int := s.rackQ 0 (s.get RPS_MEAS0_VBUS_CH) 0
/-- I_k, discharge positive. -/
def State.iStr (s : State) (k : Nat) : Int := s.rackQ (3 + k) (s.get RPS_STRCFG_ICH k) 32768
/-- Voltage of string k. -/
def State.vStr (s : State) (k : Nat) : Int := s.rackQ (7 + k) (s.get RPS_STRCFG_VCH k) 0

/-- P_dev (R338). -/
def State.pDev (s : State) : Int := s.rackQ 1 (s.get RPS_MEAS0_V12_CH) 0 * s.rackQ 2 (s.get RPS_MEAS0_I12_CH) 32768 * 16

/-- A LINEAR11 word in units of 2^−16 (R334). -/
def linear11 (w : Nat) : Int := signedOf 11 w * 2 ^ (signedOf 5 (w / 2048) + 16).toNat

/-- Device i is enabled as a device of a kind: 1 rectifier, 2 point-of-load stage (R335). -/
def State.pmKind (s : State) (i kind : Nat) : Bool := s.flag RPS_DEVCFG_EN i && s.get RPS_DEVCFG_KIND i = kind

/-- P_rack (R338). -/
def State.pRack (s : State) : Int :=
  if s.get RPS_STAT_STATE = 1 then
    (List.range 28).foldl (fun a i =>
      if s.pmKind i 1 then a + linear11 (s.get RPS_DEVRD_V i 0 / 65536) * 16 * 1000000000000 else a) 0
  else s.vBus * (List.range 4).foldl (fun a k => a + max 0 (s.iStr k)) 0 * 16

/-! ### The effective cap (R344, R358) -/

/-- Rack cap in force, W; 0xFFFF is none. -/
def State.rackCap (s : State) : Nat := if s.get RPS_STAT_STATE = 1 then s.get RPS_CAP_RACK_CAP else s.get RPS_CAP_BATT_CAP

/-- The thermal cap, B × (16 − n) / 16 while n > 0 (R357). -/
def State.thermCap (s : State) : Option Int :=
  let n := s.get PWR_THSTAT_N
  if n = 0 then none else some (s.therm.base * ((16 - n : Nat) : Int) / 16)

/-- C_eff with its source: 0 host, 1 rack, 2 thermal, the lowest code on ties (R344, R349, R358). -/
def State.cEff (s : State) : Nat × Int :=
  let rack := if s.get RPS_STAT_STATE ≠ 0 && s.rackCap ≠ 0xFFFF then
      [(1, s.pDev + ((s.rackCap : Nat) : Int) * watt - s.pRack)] else []
  let therm := match s.thermCap with | some c => [(2, c)] | none => []
  lowest (0, ((s.get RPS_SHEDCFG_DEV_CAP : Nat) : Int) * watt) (rack ++ therm)

/-- Show C_eff in 0.1 W, and its source. -/
def showCap (s : State) : State :=
  let (src, c) := s.cEff
  (s.put RPS_SHEDSTAT_C_EFF (codeOf 16 (clampI (-32768) 32767 (roundDiv (c * 10) watt)))).put RPS_SHEDSTAT_SRC src

/-! ### PMBus (R334-R337) -/

/-- Device i beside its registers. -/
def State.pm (s : State) (i : Nat) : PmDev := tabGet s.rps.devs i

/-- Change device i. -/
def State.modPm (s : State) (i : Nat) (f : PmDev → PmDev) : State := { s with rps := { s.rps with devs := tabMod s.rps.devs i f } }

/-- Segment g is connected. -/
def State.segOn (s : State) (g : Nat) : Bool := s.get RPS_SEGCTL_STATE g = 0

/-- Bring SEG_OK in line with the segments. -/
def segOk (s : State) : State := s.put RPS_STAT_SEG_OK (bitsOf 4 s.segOn)

/-- OPERATION and VOUT_COMMAND are written to a point-of-load stage when they change, and after LOST (R335). -/
def stageWrite (i : Nat) (s : State) : State :=
  if !s.pmKind i 2 || !s.segOn (s.get RPS_DEVCFG_SEG i) then s
  else
    let v := s.get RPS_DEVCFG_VOUT i
    s.modPm i (fun d => { d with sentOn := some (s.flag RPS_DEVCFG_ON i), sentV := if v = 0 then d.sentV else some v })

/-- Device i becomes LOST (R336). -/
def pmLost (i : Nat) (s : State) : State :=
  if s.get RPS_DEVSTAT_STATE i = 3 then s
  else if s.pmKind i 1 then emit ev_RECT_LOST 365 (s.put RPS_DEVSTAT_STATE 3 i) .none 0 i
  else emit ev_POL_LOST 366 (s.put RPS_DEVSTAT_STATE 3 i) .none 0 i

/-- A STATUS_WORD puts a device in FAULT: VOUT, IOUT or TEMPERATURE, or OFF on a stage whose ON is 1; the bit places are those
of PMBus (R336). -/
def State.pmFault (s : State) (i status : Nat) : Bool :=
  bitOf status 15 || bitOf status 14 || bitOf status 2 || (s.pmKind i 2 && s.flag RPS_DEVCFG_ON i && bitOf status 6)

/-- A complete answer of device i to a poll (R335, R336). -/
def pmAnswer (i status : Nat) (words : List Nat) (s : State) : State :=
  let was := s.get RPS_DEVSTAT_STATE i
  let bad := s.pmFault i status
  let s1 := (s.modPm i (fun d => { d with misses := 0, first := false })).put RPS_DEVSTAT_STATUS status i
  let w := fun j => words.getD j 0 % 65536
  let s2 := (s1.put RPS_DEVRD_V (w 0 + 65536 * w 1) i 0).put RPS_DEVRD_V (w 2 + 65536 * w 3) i 1
  let s3 := s2.put RPS_DEVSTAT_STATE (if bad then 2 else 1) i
  let s4 := if bad && was ≠ 2 then
      (if s.pmKind i 1 then emit ev_RECT_FAULT 365 s3 .none 0 i else emit ev_POL_FAULT 366 s3 .none 0 i)
    else s3
  if was = 3 then stageWrite i s4 else s4

/-- Device i does not answer a poll: NACK, PEC failure or timeout (R336); on a segment that is not connected nothing is sent that could
fail. -/
def pmMiss (i : Nat) (s : State) : State :=
  let g := s.get RPS_DEVCFG_SEG i
  let n := (s.pm i).misses + 1
  let s1 := s.modPm i (fun d => { d with misses := n, first := false })
  let s2 := if s.segOn g then s1.count RPS_SEGCTL_ERRORS g else s1
  if 3 ≤ n then pmLost i s2 else s2

/-- The sharing check of the rectifiers in service after a poll (R336). -/
def imbalance (s : State) : State :=
  let l := (List.range 28).filter (fun i => s.pmKind i 1 && s.get RPS_DEVSTAT_STATE i = 1)
  let cur := fun i => linear11 (s.get RPS_DEVRD_V i 1 / 65536)
  let sum := l.foldl (fun a i => a + cur i) 0
  let n : Int := (l.length : Nat)
  forAll (List.range 28) (fun i t => if !l.contains i then t.modPm i (fun d => { d with imbal := 0 }) else
    let off : Bool := sum.natAbs < 10 * (n * cur i - sum).natAbs
    let k := if off then (t.pm i).imbal + 1 else 0
    let t1 := t.modPm i (fun d => { d with imbal := k })
    if k = 10 then emit ev_RECT_IMBALANCE 365 t1 .none 0 i else t1) s

/-- Change the rack state; RACK_STATE carries the old and the new one (R341). -/
def setRack (new : Nat) (s : State) : State :=
  let old := s.get RPS_STAT_STATE
  if old = new then s else emit ev_RACK_STATE 364 (s.put RPS_STAT_STATE new) .none 0 (pack2 old new)

/-! ### Hold-up (R339-R342) -/

/-- UMIN of slot n as its output takes it. -/
def State.slotUmin (s : State) (n : Nat) : Int := s.slotClamp n (signedOf 32 (s.get CTE_SLOTUMIN_UMIN n))

/-- The bus slot is held in manual at its UMIN (R340, R341). -/
def busManual (s : State) : State :=
  let n := s.get RPS_HOLD_BUS_SLOT
  let m := s.slotUmin n
  ((s.put CTE_SLOTCFG_MODE 0 n).setMan n m).modCslot n (fun c => { c with u1 := m })

/-- In state AC the bus slot stands in manual at UMIN, armed on the sag group while hold-up is ready (R339, R340; log 104). -/
def busArmed (s : State) : State :=
  let n := s.get RPS_HOLD_BUS_SLOT
  if (s.cslot n).armed then s
  else ((busManual s).put CTE_SLOTTIM_ARM_GRP (s.get RPS_HOLD_SAG_GRP) n).put CTE_SLOTTIM_ARM_EN
    (bit s.rps.ready) n

/-- The current slot of string k is enabled again (R342). -/
def stringOn (k : Nat) (s : State) : State :=
  let n := s.get RPS_STRCFG_SLOT k
  ((s.put CTE_SLOTCFG_ENABLE 1 n).modCslot n (fun c => { c with due := s.frameCeil n (s.now + 1), tagAt := s.now })).put
    RPS_STRSTAT_STATE 0 k

/-- Entry to AC (R340-R342). -/
def rackAc (s : State) : State :=
  let s1 := setRack 1 (busArmed (s.modCslot (s.get RPS_HOLD_BUS_SLOT) (fun c => { c with armed := false })))
  let s2 := { s1 with rps := { s1.rps with retSince := none, slowAt := none } }
  forAll (List.range 4) (fun k t =>
    if t.flag RPS_STRCFG_EN k && t.get RPS_STRSTAT_STATE k = 2 then stringOn k t else t) s2

/-- The sag comparator reads BELOW. -/
def State.sagBelow (s : State) : Bool := s.get MEA_CMPSTAT_STATE (s.get RPS_HOLD_SAG_CMP) = 2

/-- A written EN starts the rack logic at the next poll (R341). -/
def rackStart (s : State) : State :=
  let s0 := { s with rps := { s.rps with enabling := false } }
  if s0.get RPS_STAT_STATE ≠ 0 || !s0.flag RPS_CFG_EN then s0
  else if s0.sagBelow then
    let n := s0.get RPS_HOLD_BUS_SLOT
    setRack 2 ((s0.setMan n (s0.slotUmin n)).put CTE_SLOTCFG_MODE 1 n)
  else rackAc s0

/-- String k is in service (R339, R342). -/
def State.stringOk (s : State) (k : Nat) : Bool :=
  let r := s.runOf (s.get RPS_STRCFG_SLOT k)
  s.flag RPS_STRCFG_EN k && s.get RPS_STRSTAT_STATE k ≠ 2 && (r = 1 || r = 2)

/-- HOLD_READY (R339). -/
def State.holdReady (s : State) : Bool :=
  let c := s.get RPS_HOLD_SAG_CMP
  s.flag CTE_SLOTCFG_ENABLE (s.get RPS_HOLD_BUS_SLOT) && (List.range 4).any (fun k => s.get RPS_STRSTAT_STATE k = 1) &&
  !s.cmpOut c && s.flag MEA_CMPROUTE_TRIP_EN c && s.get MEA_CMPROUTE_TRIP_GRP c = s.get RPS_HOLD_SAG_GRP &&
  s.get MEA_CMPROUTE_ON c = 2

/-- Bring strings, HOLD_READY and the bus slot in line after a change on the power side (R339-R342). -/
def rackSync (s : State) : State :=
  let s1 := forAll (List.range 4) (fun k t =>
    if t.get RPS_STRSTAT_STATE k = 2 && t.flag RPS_STRCFG_EN k then t else t.put RPS_STRSTAT_STATE (bit (t.stringOk k)) k) s
  let ready := s1.holdReady
  let s2 := { s1 with rps := { s1.rps with ready := ready } }.put RPS_STAT_HOLD_READY (bit ready)
  let s3 := if s1.rps.ready && !ready && s2.get RPS_STAT_STATE = 1 then emit ev_HOLD_NOT_READY 373 s2 else s2
  if s3.get RPS_STAT_STATE = 1 then busArmed s3
  else if s3.get RPS_STAT_STATE = 2 && (List.range 4).all (fun k => s3.get RPS_STRSTAT_STATE k ≠ 1) then
    let s4 := setRack 3 (busManual s3)
    { s4 with rps := { s4.rps with retSince := none } }
  else if s3.get RPS_STAT_STATE = 3 then busManual s3
  else s3

/-- What an execution of slot n means to the rack: the take-over, and the bus slot at UMIN (R340, R341). -/
def rackAfterSlot (n : Nat) (s : State) : State :=
  if n ≠ s.get RPS_HOLD_BUS_SLOT || s.get RPS_STAT_STATE = 0 then s
  else
    let st := s.get RPS_STAT_STATE
    let s1 := if st = 1 && s.runOf n = 2 then
        setRack 2 { s with rps := { s.rps with slowAt := some (s.now + 200 * Config.us), retSince := none } }
      else s
    if st = 2 || st = 3 then
      let low : Bool := s1.runOf n ≠ 0 && s1.slotOut n = s1.slotUmin n
      { s1 with rps := { s1.rps with retSince := if low then some (s1.rps.retSince.getD s1.now) else none } }
    else s1

/-- A sag that falls restarts the count of RETURN_S (R341). -/
def rackSag (c : Nat) (s : State) : State :=
  if c = s.get RPS_HOLD_SAG_CMP && s.sagBelow then { s with rps := { s.rps with retSince := none } } else s

/-- A filter output has come: the strings' voltages against EOD, and the powers (R338, R342). -/
def rackChannel (s : State) : State :=
  let s1 := forAll (List.range 4) (fun k t =>
    let low : Bool := t.get RPS_STRSTAT_STATE k = 1 && t.vStr k < ((t.get RPS_STRCFG_EOD k * 25600000 : Nat) : Int)
    let old : Option Nat := tabGet t.rps.eodSince k
    { t with rps := { t.rps with eodSince := tabSet t.rps.eodSince k (if low then some (old.getD t.now) else none) } }) s
  showCap s1

/-- SAG_CMP still reads BELOW 200 µs after the take-over (R340). -/
def holdupSlow (s : State) : State :=
  match s.rps.slowAt with
  | none => s
  | some t =>
    let s1 := { s.moveTo t with rps := { s.rps with slowAt := none } }
    if s1.sagBelow then emit ev_HOLDUP_SLOW 364 s1 else s1

/-- The bus slot has stood at UMIN for RETURN_S seconds (R341). -/
def rackReturnAc (s : State) : State :=
  match s.rps.retSince with
  | none => s
  | some t =>
    let st := s.get RPS_STAT_STATE
    if st = 2 || st = 3 then rackAc (s.moveTo (t + s.get RPS_CFG_RETURN_S * Config.sec)) else s

/-- String k has stayed below EOD for 1 s (R342). -/
def stringEod (k : Nat) (s : State) : State :=
  match (tabGet s.rps.eodSince k : Option Nat) with
  | none => s
  | some t =>
    if s.get RPS_STRSTAT_STATE k ≠ 1 then s
    else
      let s1 := s.moveTo (t + Config.sec)
      react ev_STRING_EOD (367 + k) (.string k) (fun u =>
        let n := u.get RPS_STRCFG_SLOT k
        let u1 := (slotStop n (u.put CTE_SLOTCFG_ENABLE 0 n)).put RPS_STRSTAT_STATE 2 k
        { u1 with rps := { u1.rps with eodSince := tabSet u1.rps.eodSince k none } }) s1

/-! ### Polls, alerts and segments (R334-R337) -/

/-- A poll: the answers of the enabled devices, those that answered an alert first (R335, R336); a written EN takes effect
(R341). A device for which no answer is given has not answered. -/
def pmbusPoll (answers : List (Nat × Bool × Nat × List Nat)) (s : State) : State :=
  let s1 := s.moveTo (s.rps.pollAt + s.get RPS_CFG_POLL * Config.ms)
  let s2 := segOk { s1 with rps := { s1.rps with pollAt := s1.now } }
  let all := (List.range 28).filter (fun i => s2.pmKind i 1 || s2.pmKind i 2)
  let order := all.filter (fun i => (s2.pm i).first) ++ all.filter (fun i => !(s2.pm i).first)
  let s3 := forAll order (fun i t =>
    match answers.find? (fun a => a.1 = i && a.2.1) with
    | some a => if t.segOn (t.get RPS_DEVCFG_SEG i) then pmAnswer i a.2.2.1 a.2.2.2 t else pmMiss i t
    | none => pmMiss i t) s2
  let s4 := imbalance s3
  if s4.rps.enabling && s4.get GLB_BOOTSTAT_STAGE = 3 then rackStart s4 else s4

/-- PMB_ALERT_N of segment g: the Alert Response Address is read, and the device that answers is read first at the next poll
(R334, R335). -/
def pmbAlert (g : Nat) (answer : Option Nat) (s : State) : State :=
  if s.flag RPS_SEGCTL_ALERT_STUCK g || !s.segOn g then s
  else
    match answer with
    | none => s
    | some a =>
      forAll ((List.range 28).filter (fun i =>
        (s.pmKind i 1 || s.pmKind i 2) && s.get RPS_DEVCFG_SEG i = g && s.get RPS_DEVCFG_ADDR i = a))
        (fun i t => t.modPm i (fun d => { d with first := true })) s

/-- Segment g is isolated; its devices become LOST (R337). -/
def segIsolate (g : Nat) (s : State) : State :=
  react ev_PMB_SEG_ISOLATED (360 + g) (.segment g) (fun t =>
    forAll ((List.range 28).filter (fun i => (t.pmKind i 1 || t.pmKind i 2) && t.get RPS_DEVCFG_SEG i = g)) pmLost
      (segOk (t.put RPS_SEGCTL_STATE 2 g))) s

/-- A line of segment g has been held low for 35 ms; `freed`: SDA alone was low and nine clocks freed both lines (R337). -/
def segStuck (g : Nat) (freed : Bool) (s : State) : State :=
  if !s.segOn g then s else if freed then emit ev_PMB_SEG_RECOVERED (360 + g) s else segIsolate g s

/-- An alert held for 1 s without an answer is ignored from then on (R337). -/
def alertStuck (g : Nat) (s : State) : State :=
  if s.flag RPS_SEGCTL_ALERT_STUCK g then s else emit ev_PMB_ALERT_STUCK (360 + g) (s.put RPS_SEGCTL_ALERT_STUCK 1 g)

/-- A write of RPS_SEGCTL of segment g (R337). -/
def segWrite (g val : Nat) (s : State) : State :=
  let en := val % 2
  segOk (((s.put RPS_SEGCTL_EN en g).put RPS_SEGCTL_ALERT_STUCK 0 g).put RPS_SEGCTL_STATE (if en = 1 then 0 else 3) g)

/-- A write of RPS_DEVCFG of device i is discarded: KIND 3, or more than 12 rectifiers or 16 stages enabled (R335, R349). -/
def State.devCfgBad (s : State) (i val : Nat) : Bool :=
  let kind := val / 2 % 4
  let others := ((List.range 28).filter (fun j => j ≠ i && s.pmKind j kind)).length
  kind = 3 || (val % 2 = 1 && ((kind = 1 && 12 ≤ others) || (kind = 2 && 16 ≤ others)))

/-- A write of RPS_DEVCFG of device i (R335). -/
def devCfgWrite (i val : Nat) (s : State) : State :=
  if s.devCfgBad i val then discard (regOff RPS_DEVCFG i 0) false s
  else
    let on := s.flag RPS_DEVCFG_ON i
    let v := s.get RPS_DEVCFG_VOUT i
    let s1 := s.putWord RPS_DEVCFG (BitVec.ofNat 32 val &&& 0xFFFF3FFF#32) i
    let s2 := if s1.flag RPS_DEVCFG_EN i then s1 else (s1.put RPS_DEVSTAT_STATE 0 i).modPm i (fun _ => {})
    if on ≠ s2.flag RPS_DEVCFG_ON i || v ≠ s2.get RPS_DEVCFG_VOUT i then stageWrite i s2 else s2

/-- RPS_CFG has been written, and EN was `was` before: the rack logic starts or stops (R341). -/
def rpsEnWritten (was : Bool) (s : State) : State :=
  if s.flag RPS_CFG_EN then
    (if was then s else { s with rps := { s.rps with enabling := true } })
  else
    setRack 0 { s with rps := { s.rps with enabling := false, slowAt := none, retSince := none } }

/-- A write of RPS_CFG (R341, R349). -/
def rpsCfgWrite (val : Nat) (s : State) : State :=
  if val / 4 % 256 < 10 then discard (regOff RPS_CFG 0 0) false s
  else rpsEnWritten (s.flag RPS_CFG_EN) (persistWrite 67 val s)

/-! ### Shedding (R345-R347, R358) -/

/-- Watch slices in the order the ladder takes them (R345). -/
def shedOrder (keep : Nat) : List Nat := (List.range 8).reverse.filter (fun w => !bitOf keep w)

/-- Top rung of a ladder. -/
def topRung (l : Nat × Nat × Nat) : Nat := 1 + (shedOrder l.1).length + l.2.1 + l.2.2

/-- What rung r of a ladder sheds: coarsening, slices, DL_RED, UL_RED (R345). -/
def rungSheds (l : Nat × Nat × Nat) (r : Nat) : Bool × Nat × Nat × Nat :=
  let o := shedOrder l.1
  let k := r - 1
  let rest := k - o.length
  (decide (1 ≤ r), (o.take k).foldl (fun a w => a + 2 ^ w) 0, min rest l.2.1, rest - l.2.1)

/-- The rung sheds no more than what is shed at present. -/
def State.contained (s : State) (x : Bool × Nat × Nat × Nat) : Bool :=
  (!x.1 || s.flag RPS_SHEDSTAT_COARSE) && (x.2.1 &&& s.rps.slices) = x.2.1 &&
  x.2.2.1 ≤ s.get RPS_SHEDSTAT_DL_RED && x.2.2.2 ≤ s.get RPS_SHEDSTAT_UL_RED

/-- Put what rung r sheds in force, with SHED_STEP for a change of rung (R346, R347). -/
def setRung (r : Nat) (s : State) : State :=
  let old := s.get RPS_STAT_RUNG
  let x := rungSheds s.rps.ladder r
  let s1 := ((s.put RPS_SHEDSTAT_COARSE (bit x.1)).put RPS_SHEDSTAT_DL_RED x.2.2.1).put RPS_SHEDSTAT_UL_RED x.2.2.2
  let s2 := { s1 with rps := { s1.rps with slices := x.2.1 } }
  if r = old then s2
  else emit ev_SHED_STEP 371 ((s2.put RPS_STAT_RUNG r).put RPS_SHEDSTAT_EXHAUSTED
    (if r < old then 0 else s2.get RPS_SHEDSTAT_EXHAUSTED)) .none 0 (pack2 old r)

/-- A changed KEEP, DL_MAX or UL_MAX rebuilds the ladder at the evaluation (R346). -/
def shedRebuild (s : State) : State :=
  let l := (s.get RPS_SHEDKEEP_KEEP, s.get RPS_SHEDCFG_DL_MAX, s.get RPS_SHEDCFG_UL_MAX)
  if l = s.rps.ladder then s
  else
    let r := ((List.range (topRung l + 1)).reverse.find? (fun x => s.contained (rungSheds l x))).getD 0
    let s1 := { s with rps := { s.rps with ladder := l, dr := [], advanced := none, room := none } }
    setRung r (if r < topRung l then s1.put RPS_SHEDSTAT_EXHAUSTED 0 else s1)

/-- The ladder at an evaluation (R346). -/
def shedLadder (s : State) : State :=
  let s1 := shedRebuild s
  let m := s1.cEff.2 - s1.pDev
  let r := s1.get RPS_STAT_RUNG
  let s2 := match s1.rps.advanced with
    | some m0 => { s1 with rps := { s1.rps with dr := tabSet s1.rps.dr r (max 0 (m - m0)), advanced := none } }
    | none => s1
  if m < 0 then
    let s3 := { s2 with rps := { s2.rps with room := none } }
    if r < topRung s3.rps.ladder then setRung (r + 1) { s3 with rps := { s3.rps with advanced := some m } }
    else if s3.flag RPS_SHEDSTAT_EXHAUSTED then s3
    else emit ev_SHED_EXHAUSTED 371 (s3.put RPS_SHEDSTAT_EXHAUSTED 1)
  else
    let d : Int := tabGet s2.rps.dr r
    let fits : Bool := ((s2.get RPS_SHEDCFG_HYST : Nat) : Int) * watt + d ≤ m
    if r = 0 || !fits then { s2 with rps := { s2.rps with room := none } }
    else
      let since := s2.rps.room.getD s2.now
      if since + Config.sec ≤ s2.now then setRung (r - 1) { s2 with rps := { s2.rps with room := some s2.now } }
      else { s2 with rps := { s2.rps with room := some since } }

/-- The evaluation every 10 ms (R346, R358). -/
def shedEvaluate (s : State) : State :=
  let s1 := s.moveTo (s.rps.shedAt + 10 * Config.ms)
  let s2 := { s1 with rps := { s1.rps with shedAt := s1.now } }
  let runs := s2.get RPS_STAT_STATE ≠ 0 || s2.thermCap.isSome || s2.get RPS_STAT_RUNG ≠ 0
  showCap (if runs then shedLadder s2 else s2)

end Sys2Proof.Machine
end

