-- ==== Sys2Proof/Machine/ThermOps.lean ====
section
/-!
DEFINITION. Sys2Proof/Machine/ThermOps.lean: temperature sensors, bands, throttling and the thermal shutdown (R351-R360).
Temperatures are in 1/128 °C, so the mean of two readings is exact.
-/
namespace Sys2Proof.Machine
open Sys2Proof

/-! ### Sensors (R351-R354) -/

/-- Sensor x. -/
def State.sensor (s : State) (x : Nat) : Sensor := tabGet s.therm.sensors x

/-- Change sensor x. -/
def State.modSensor (s : State) (x : Nat) (f : Sensor → Sensor) : State :=
  { s with therm := { s.therm with sensors := tabMod s.therm.sensors x f } }

/-- A whole number of degrees. -/
def deg (n : Int) : Int := n * 128

/-- Sensor x is working (R353). -/
def State.working (s : State) (x : Nat) : Bool := (s.sensor x).t.isSome && !(s.sensor x).suspect && !(s.sensor x).broken

/-- Neighbours of sensor x (R353). -/
def neighbours (x : Nat) : List Nat :=
  if x < 48 then [3 * (x / 3), 3 * (x / 3) + 1, 3 * (x / 3) + 2].filter (fun y => y ≠ x) ++ [48 + x / 12]
  else if x < 52 then (List.range 12).map (fun i => 12 * (x - 48) + i)
  else if x = 52 then [48, 49, 50, 51]
  else [52, 53, 54, 55].filter (fun y => y ≠ x)

/-- Twice the median of a sorted list; 0 for none. -/
def median2 (l : List Int) : Int :=
  let n := l.length
  if n = 0 then 0 else if n % 2 = 1 then 2 * l.getD (n / 2) 0 else l.getD (n / 2 - 1) 0 + l.getD (n / 2) 0

/-- Sort numbers upwards. -/
def sorted (l : List Int) : List Int := l.mergeSort (fun a b => decide (a ≤ b))

/-- The median of a list; readings are even numbers of 1/128 °C, so the mean of two is whole. -/
def median (l : List Int) : Int := median2 (sorted l) / 2

/-- The agreeing set of sorted readings: the largest window that spans at most 3 °C, of those the narrowest, of those the one
with the lowest median (R353). -/
def agreeing (l : List Int) : List Int :=
  let window := fun i => (l.drop i).takeWhile (fun v => v ≤ l.getD i 0 + deg 3)
  let span := fun (w : List Int) => w.getLastD 0 - w.headD 0
  (List.range l.length).foldl (fun (best : List Int) i =>
    let w := window i
    if best.length < w.length || (best.length = w.length && (span w < span best ||
        (span w = span best && median2 w < median2 best))) then w else best) []

/-- Reading v of sensor x is suspect beside the readings of this scan (R352, R353). -/
def State.suspectNow (s : State) (x : Nat) (read : Nat → Int) : Bool :=
  let v := read x
  let ok := (neighbours x).filter (fun y => !(s.sensor y).suspect && !(s.sensor y).broken)
  let set := agreeing (sorted (ok.map read))
  v < deg (-60) || deg 150 < v || (2 ≤ set.length && 2 * deg 6 < (2 * v - median2 set).natAbs)

/-- Note the reading of sensor x (R353, R356). -/
def sensorScan (x code : Nat) (v : Int) (bad : Bool) (s : State) : State :=
  let o := s.sensor x
  let bads := if bad then o.bads + 1 else 0
  let goods := if o.broken && !bad then o.goods + 1 else 0
  let broke : Bool := !o.broken && 4 ≤ bads
  let back : Bool := o.broken && 64 ≤ goods
  let broken := (o.broken || broke) && !back
  let works := !bad && !broken
  let rise : Option Int := if works then o.hist[63]?.map (fun u => v - u) else none
  let steep : Bool := match rise with
    | some d => decide (deg 5 < d)
    | none => o.rate && works
  let s1 := s.modSensor x (fun _ =>
    { t := some v, suspect := bad, bads := bads, goods := if back then 0 else goods, broken := broken
      hist := if works then (v :: o.hist).take 64 else [], rate := steep })
  let shown := clampI (-2048) 2047 (roundDiv v 16)
  let s2 := s1.putWord PWR_TEMP (BitVec.ofNat 32
    (codeOf 12 shown + bit bad * 4096 + bit broken * 8192 + bit steep * 16384 + code * 65536)) x
  let s3 := if broke then emit ev_SENSOR_BROKEN 376 s2 .none 0 x else if back then emit ev_SENSOR_RESTORED 376 s2 .none 0 x else s2
  if steep && !o.rate then emit ev_THERM_RATE 376 s3 .none 0 x else s3

/-- Working readings of a list of sensors. -/
def State.workingOf (s : State) (l : List Nat) : List Int :=
  l.filterMap (fun x => if s.working x then (s.sensor x).t else none)

/-- The three sensors of tile t. -/
def tileSensors (t : Nat) : List Nat := [3 * t, 3 * t + 1, 3 * t + 2]

/-- Quadrant temperature; without a working sensor the last one holds (R354). -/
def State.quadTemp (s : State) (q : Nat) : Int :=
  match s.workingOf [48 + q] with
  | v :: _ => v
  | [] =>
    match s.workingOf ((List.range 12).map (fun i => 12 * q + i)) with
    | [] => tabGet s.therm.quad q
    | l => median l

/-- Derive the temperature of quadrant q, which the synthesizer follows (R174, R354). -/
def quadScan (q : Nat) (s : State) : State :=
  let t := s.quadTemp q
  synthTemp q t { s with therm := { s.therm with quad := tabSet s.therm.quad q t } }

/-! ### Tiles: bands, blindness, cold (R354, R355, R359) -/

/-- Lower bound of a band, °C. -/
def bandLow (b : Nat) : Int := [0, 0, 25, 50, 75, 95].getD b 95

/-- The band a tile at temperature v goes to from band b, with 2 °C of hysteresis downwards (R355). -/
def bandFrom (b : Nat) (v : Int) : Nat :=
  let up := ((List.range 6).filter (fun x => x = 0 || deg (bandLow x) ≤ v)).foldl max 0
  let down := ((List.range 6).filter (fun x => x = 0 || deg (bandLow x - 2) ≤ v)).foldl max 0
  if b < up then up else min b down

/-- Put or take a tile in a list. -/
def putIn (on : Bool) (t : Nat) (l : List Nat) : List Nat :=
  let r := l.filter (fun x => x ≠ t)
  if on then r ++ [t] else r

/-- Derive the temperature of tile t, its band, and its caps (R354, R355, R359). -/
def tileScan (t : Nat) (s : State) : State :=
  let l := s.workingOf (tileSensors t)
  let v := if l = [] then s.quadTemp (t / 4) else median l
  let blind : Bool := l = [] && !s.working (48 + t / 4)
  let limit := signedOf 8 (s.get PWR_THCFG_COLD_LIM)
  let was := s.radio.coldCap.contains t
  let cold : Bool := if was then decide (v < deg (limit + 2)) else decide (v < deg limit)
  let wasBlind := s.radio.blindCap.contains t
  let b : Nat := tabGet s.therm.bands t
  let s1 := { s with
    therm := { s.therm with tile := tabSet s.therm.tile t v, bands := tabSet s.therm.bands t (bandFrom b v) }
    radio := { s.radio with coldCap := putIn cold t s.radio.coldCap, blindCap := putIn (wasBlind && blind) t s.radio.blindCap } }
  let shown := clampI (-2048) 2047 (roundDiv v 16)
  let s2 := ((s1.put PWR_TILE_TEMP (codeOf 12 shown) t).put PWR_TILE_BLIND (bit (l = [])) t).put PWR_TILE_COLD (bit cold) t
  let s3 := if cold && !was then emit ev_THERM_COLD 376 s2 .none 0 t else s2
  if blind && !wasBlind then
    react { ev_THERM_BLIND with cls := 2 } 376 (.tile t)
      (fun u => { u with radio := { u.radio with blindCap := putIn true t u.radio.blindCap } }) s3 0 t
  else s3

/-! ### Throttling (R357-R358) -/

/-- A rate violation stands, or no sensor works (R354, R356). -/
def State.violation (s : State) : Bool := s.therm.none_ || (List.range 56).any (fun x => (s.sensor x).rate)

/-- THR_ON. -/
def State.thrOn (s : State) : Int := deg (signedOf 8 (s.get PWR_THCFG_THR_ON))

/-- The throttle count rises. -/
def State.hotNow (s : State) : Bool := s.violation || s.thrOn < s.therm.hot

/-- Put the throttle count, with the thermal cap and THROTTLE (R357). -/
def setThrottle (n : Nat) (s : State) : State :=
  let old := s.get PWR_THSTAT_N
  let s1 := s.put PWR_THSTAT_N n
  let s2 := if n = 0 then { s1 with therm := { s1.therm with base := 0, stepAt := none, relAt := none } } else s1
  let w := fun (p : Int) => (clampI 0 65534 (roundDiv (p * 10) watt)).toNat
  let s3 := (s2.put PWR_THCAP_CAP (match s2.thermCap with | some c => w c | none => 0xFFFF)).put PWR_THCAP_BASE (w s2.therm.base)
  if n = old then s3 else showCap (emit ev_THROTTLE 376 s3 .none 0 (pack2 old n))

/-- Onset: the base is taken and the count becomes n (R357, R360). -/
def throttleOnset (n : Nat) (s : State) : State :=
  let b := min s.pDev s.cEff.2
  setThrottle n { s with therm := { s.therm with base := b, stepAt := some s.now } }

/-- What a scan means to throttling (R357). -/
def throttleScan (s : State) : State :=
  let s1 := if s.get PWR_THSTAT_N = 0 && s.hotNow then throttleOnset 1 s else s
  let low : Bool := s1.get PWR_THSTAT_N ≠ 0 && !s1.violation && s1.therm.hot ≤ s1.thrOn - deg 3
  { s1 with therm := { s1.therm with relAt := if low then some (s1.therm.relAt.getD s1.now) else none } }

/-- A step of the throttle count (R357). -/
def throttle (s : State) : State :=
  let n := s.get PWR_THSTAT_N
  if n = 0 then s
  else if s.hotNow then
    if n = 15 then s
    else
      let s1 := s.moveTo (s.therm.stepAt.getD s.now + 10 * Config.ms)
      setThrottle (n + 1) { s1 with therm := { s1.therm with stepAt := some s1.now } }
  else
    match s.therm.relAt with
    | none => s
    | some t =>
      let s1 := s.moveTo (t + 100 * Config.ms)
      setThrottle (n - 1) { s1 with therm := { s1.therm with relAt := some s1.now } }

/-! ### Shutdown (R360) -/

/-- The thermal shutdown: latched, FATAL, Dugout; the domains are off by 1.020 ms, and the rails follow. -/
def thermShutdown (s : State) : State :=
  let s1 := { s with latch := true, therm := { s.therm with down := some 0, downAt := s.now + 1020 * Config.us } }
  raise ev_THERM_SHUTDOWN 376 s1

/-- 118 °C or more on one working sensor, or on two (R360). -/
def hotScan (s : State) : State :=
  let hot := ((List.range 56).filter (fun x => s.working x && deg 118 ≤ (s.sensor x).t.getD 0)).length
  let s1 := { s with therm := { s.therm with single := decide (hot = 1) } }
  if 2 ≤ hot then (if s.latch then s1 else thermShutdown s1)
  else if hot = 1 then
    let s2 := if s.therm.single then s1 else emit ev_THERM_SINGLE 376 s1
    if s2.get PWR_THSTAT_N = 0 then throttleOnset 15 s2 else if s2.get PWR_THSTAT_N = 15 then s2 else setThrottle 15 s2
  else s1

/-! ### The scan (R352) -/

/-- Tick of scan n (R352). -/
def State.scanAt (s : State) (n : Nat) : Nat := s.mea.onAt + 2 * Config.ms + n * 16000000000

/-- A thermal scan, with the codes of the 56 sensors (R352-R360). The conversions it inserts delay the housekeeping tables. -/
def thermalScan (codes : List Nat) (s : State) : State :=
  if !s.mea.corrected || s.get MEA_STAT_UNIT_OK = 0 then s
  else
    let s1 := s.moveTo (s.scanAt s.therm.scan)
    let code := fun x => codes.getD x 0 % 65536
    let read := fun x => 2 * (((code x : Nat) : Int) - 19200 - Config.sensorTrim x)
    let late := fun n (h : HkUnit) => { h with due := h.due + n * 512000 }
    let s2 := if s1.get MEA_STAT_UNIT_OK = 3 then (s1.modHk 0 (late 28)).modHk 1 (late 28)
      else (s1.modHk 0 (late 56)).modHk 1 (late 56)
    let bad := (List.range 56).map (fun x => s2.suspectNow x read)
    let s3 := forAll (List.range 56) (fun x t => sensorScan x (code x) (read x) (bad.getD x false) t) s2
    let works := s3.workingOf (List.range 56)
    let hot := match works with
      | [] => s3.therm.hot
      | v :: l => l.foldl max v
    let s4 := { s3 with therm := { s3.therm with scan := s3.therm.scan + 1, hot := hot, none_ := decide (works = []) } }
    let s5 := ((s4.put PWR_THSTAT_HOT (codeOf 12 (clampI (-2048) 2047 (roundDiv hot 16)))).put PWR_THSTAT_RATE
      (bit ((List.range 56).any (fun x => (s4.sensor x).rate)))).put PWR_THSTAT_ARMED (bit (65 ≤ s4.therm.scan))
    let broken := bitsOf 56 (fun x => (s5.sensor x).broken)
    let s6 := (s5.put PWR_BROKEN0_SENSORS (broken % 2 ^ 32)).put PWR_BROKEN1_SENSORS (broken / 2 ^ 32)
    let s7 := forAll (List.range 16) tileScan (forAll (List.range 4) quadScan s6)
    forceRadio (hotScan (throttleScan s7))

end Sys2Proof.Machine
end

