-- ==== Sys2Proof/Machine/QlkOps.lean ====
section
/-!
DEFINITION. Sys2Proof/Machine/QlkOps.lean: Quirov links and their credits, the stack's master and members, device time, and
the roles of a Bullpen pair (R248-R279).
-/
namespace Sys2Proof.Machine
open Sys2Proof

/-! ### Links and messages (R249-R256) -/

/-- Link l beside its registers. -/
def State.ql (s : State) (l : Nat) : QLink := tabGet s.qlk.links l

/-- Change link l. -/
def State.modQl (s : State) (l : Nat) (f : QLink → QLink) : State := { s with qlk := { s.qlk with links := tabMod s.qlk.links l f } }

/-- State of link l: 0 DOWN, 1 TRAINING, 2 ALIGNING, 3 UP (R255). -/
def State.linkSt (s : State) (l : Nat) : Nat := s.get QLK_LINKSTAT_STATE l

/-- Credits of a pool of link l (R253). -/
def poolSize (l pool : Nat) : Nat :=
  if l = 3 then [0, 64, 960].getD pool 0 else [960, 32, 32].getD pool 0

/-- Flits of a number of payload bytes (R252). -/
def flitsOf (bytes : Nat) : Nat := max 1 ((bytes + 239) / 240)

/-- The flits that wait in a pool of a link. -/
def QLink.waiting (q : QLink) (pool : Nat) : List QFlit := tabGet q.wait pool

/-- Sequence of the flit `n` after the next one (R252). -/
def QLink.seqAfter (q : QLink) (n : Nat) : Nat := (q.seq + n) % 2 ^ 32

/-- Send what waits in a pool as far as its credits reach: each flit takes one and the next sequence, and a message has gone with
its last flit (R252, R253). -/
def drainPool (l pool : Nat) (s : State) : State :=
  let q := s.ql l
  let h : Nat := tabGet q.hand pool
  let go := ((q.waiting pool).take h).zipIdx.map (fun e => { e.1 with seq := q.seqAfter e.2 })
  let t := s.modQl l (fun q =>
    { q with
      hand := tabSet q.hand pool (h - go.length), wait := tabSet q.wait pool ((q.waiting pool).drop h)
      seq := q.seqAfter go.length, sent := q.sent ++ go, wire := q.wire ++ go })
  { t with qlk := { t.qlk with out := t.qlk.out ++ (go.filter (fun f => f.last)).map (fun f => f.msg) } }

/-- The flits of a message of `bytes` payload bytes. -/
def flitsFor (pool : Nat) (m : QMsg) (bytes : Nat) : List QFlit :=
  let n := flitsOf bytes
  (List.range n).map (fun i => { pool := pool, msg := m, last := i + 1 = n })

/-- Hand a message to link l; on a link that is not UP nothing is sent (R252, R253). It goes once its flits have credits. -/
def sendMsg (l : Nat) (kind : QKind) (data : List Nat) (s : State) : State :=
  if s.linkSt l ≠ 3 then s
  else
    let pool := match kind with
      | .mirror | .epoch | .resync => 2
      | _ => 1
    let m : QMsg := { link := l, kind := kind, data := data }
    drainPool l pool (s.modQl l (fun q =>
      { q with wait := tabSet q.wait pool (q.waiting pool ++ flitsFor pool m (4 * data.length)) }))

/-- A received control or bulk flit acknowledges all flits up to `ack`; where it says that the next one failed its CRC, those not
acknowledged are sent again, from the failing sequence (R252, R254). -/
def noteAck (l seq ack : Nat) (again : Bool) (s : State) : State :=
  s.modQl l (fun q =>
    let left := q.sent.filter (fun f => 0 < (f.seq + 2 ^ 32 - ack) % 2 ^ 32 && (f.seq + 2 ^ 32 - ack) % 2 ^ 32 < 2 ^ 31)
    { q with got := seq, sent := left, wire := if again then q.wire ++ left else q.wire })

/-- A received flit returns credits of a pool; it was a good one (R252-R254). A control or bulk flit acknowledges too. -/
def creditsReturned (l pool n : Nat) (flit : Option CtlFlit) (s : State) : State :=
  if s.linkSt l ≠ 3 then s
  else
    let s1 := match flit with
      | some f => noteAck l f.seq.toNat f.ack.toNat f.again s
      | none => s
    drainPool l pool (s1.modQl l (fun q =>
      { q with fails := 0, hand := tabSet q.hand pool (min (poolSize l pool) ((tabGet q.hand pool : Nat) + n)) }))

/-- Bytes 0-11 of a flit (R252). -/
def flitHeader (type pool credits seq ack : Nat) : List Nat :=
  [type % 16, pool % 4] ++ leBytes 2 credits ++ leBytes 4 seq ++ leBytes 4 ack

/-- The 256 bytes of a flit: header, CRC-32C of header and payload, payload (R252). -/
def flitBytes (type pool credits seq ack : Nat) (payload : List Nat) : List Nat :=
  let h := flitHeader type pool credits seq ack
  let p := fitLen 240 0 payload
  h ++ leBytes 4 (crc32c (h ++ p)) ++ p

/-- The header of a control or bulk flit: it acknowledges the latest good one received (R252). -/
def QLink.headerOf (q : QLink) (f : QFlit) : List Nat := flitHeader (if f.pool = 2 then 3 else 2) f.pool 0 f.seq q.got

/-- A sub-band sample as 36 bits: the word, then the side field (R64, R252). -/
def Smp.bits36 (x : Smp) : Nat := codeOf 16 x.i + codeOf 16 x.q * 2 ^ 16 + x.f % 16 * 2 ^ 32

/-- The payload of a stream flit: stream number, the low half of its first index, 52 samples of 36 bits, 2 bytes of 0 (R252). -/
def streamPayload (num first : Nat) (l : List Smp) : List Nat :=
  leBytes 2 num ++ leBytes 2 first ++ leBytes 234 ((l.zipIdx.map (fun e => e.1.bits36 * 2 ^ (36 * e.2))).sum)

/-- One sample tick of a link stream this device sends, the `num`-th of its link: with the last of 52 samples their flit goes, where a
credit of the STREAM pool is in hand (R97, R252, R253). DESIGN CHOICE (log 151): the number, and that first indices are multiples
of 52. -/
def sendStream (n num : Nat) (x : Nat × Nat × Nat) (s : State) : State :=
  let l := s.linkTo x.1
  match s.sampleAt x.2.1 n with
  | none => s
  | some m =>
    if m % 52 ≠ 51 || !s.fab.up.contains l || s.linkSt l ≠ 3 then s
    else
      let q := s.ql l
      let h : Nat := tabGet q.hand 0
      if h = 0 then s.modQl l (fun q => { q with stalled := true })
      else
        let hist : List (Nat × Smp) := tabGet s.fab.ins (skey x.2.1 x.2.2)
        let first := m - 51
        let p := streamPayload num first ((List.range 52).map (fun i => (histAt hist (first + i)).getD gapSmp))
        let t := s.modQl l (fun q => { q with hand := tabSet q.hand 0 (h - 1), seq := q.seqAfter 1 })
        { t with qlk := { t.qlk with
          flits := tabInsert (skey (x.1 * 96 + x.2.1) x.2.2) (flitBytes 1 0 0 q.seq 0 p) t.qlk.flits } }

/-- The link streams this device sends, at sample tick n. -/
def sendStreams (n : Nat) (s : State) : State :=
  forAll s.fab.sends (fun x t =>
    sendStream n ((s.fab.sends.filter (fun y => s.linkTo y.1 = s.linkTo x.1)).idxOf x) x t) s

/-! ### Roles (R269) -/

/-- Role of the stack: 0 SOLO, 1 ACTIVE, 2 BULLPEN, 3 PROMOTING, 4 YIELDING. -/
def State.role (s : State) : Nat := s.get QLK_PAIRSTAT_ROLE

/-- Take a role; BULLPEN and YIELDING force the cap RECEIVE (R269). -/
def setRole (new : Nat) (s : State) : State :=
  let old := s.role
  if old = new then s
  else
    let s1 := emit ev_ROLE_CHANGE 230 (s.put QLK_PAIRSTAT_ROLE new) .none 0 (pack2 old new)
    if new = 2 || new = 4 then forceRadio { s1 with radio := { s1.radio with promoteCap := true } }
    else { s1 with qlk := { s1.qlk with epochAt := if new = 1 then none else s1.qlk.epochAt } }

/-- The level of BULLPEN_SEL[t] (R269): in Dugout too it falls as tile t leaves RELAY, 20 µs after it starts to descend (R274;
DEDUCED, log 164). -/
def State.bullpenSel (s : State) (t : Nat) : Bool :=
  (!s.flt.dugout && s.role = 3) || ((s.role = 1 || s.role = 3 || s.role = 4) && s.rstate t = 4)

/-- PST_LOCKDIG: the digest of bytes 0-251 of pages 5 to 97 as in force (R200). -/
def State.lockDigest (s : State) : List Nat :=
  sha384 (((List.range 93).map (fun i => fitLen 252 0 (s.lockPage (5 + i)))).flatten)

/-- Word i of a digest: bytes 4i to 4i + 3, the first in the low bits (R200). -/
def digestWordOf (d : List Nat) (i : Nat) : Word := BitVec.ofNat 32 (ofLe ((d.drop (4 * i)).take 4))

/-- Word i of PST_LOCKDIG (R209). -/
def State.digestWord (s : State) (i : Nat) : Word := digestWordOf s.lockDigest i

/-- The master compares its locked pages with those of its peer (R276). -/
def compareLocks (s : State) : State :=
  match s.qlk.peerLocks with
  | none => s
  | some l =>
    if !s.isMaster || s.linkSt 3 ≠ 3 then s
    else if l = (List.range 12).map (digestWordOf s.lockDigest) then s.put QLK_PAIRSTAT_LOCKS_EQUAL 1
    else emit ev_LOCK_MISMATCH 230 (s.put QLK_PAIRSTAT_LOCKS_EQUAL 0)

/-! ### Members (R266, R267) -/

/-- A member declares its master lost, and enters Dugout (R266). -/
def masterLost (s : State) : State :=
  raise ev_STACK_MASTER_LOST 228 ({ s with qlk := { s.qlk with orphan := true } }.put QLK_STACKSTAT_MASTER_OK 0)

/-- Four beats without a token on an UP link to the master (R266). -/
def tokenTimeout (s : State) : State :=
  if s.ownSid = 0 || s.linkSt (s.linkTo 0) ≠ 3 || s.qlk.orphan then s
  else masterLost (s.moveTo (s.qlk.tokenAt + 4 * Config.beat))

/-- DUGOUT from the master (R266). -/
def dugoutMsg (s : State) : State := if s.ownSid = 0 then s else raise ev_STACK_MASTER_LOST 228 s

/-- A member ceases to be present on the master (R267). -/
def memberLost (sid : Nat) (s : State) : State :=
  let p := s.get QLK_STACKSTAT_PRESENT
  if s.ownSid ≠ 0 || sid = 0 || !bitOf p sid then s
  else
    let s1 := emit ev_STACK_MEMBER_LOST 228 (s.put QLK_STACKSTAT_PRESENT (p - 2 ^ sid)) .none 0 sid
    remoteLost (s.linkTo sid) s1

/-! ### Link states (R250, R255, R256) -/

/-- EN = 1 and signal on all lanes: TRAINING (R255). -/
def linkTrain (l : Nat) (s : State) : State :=
  if !s.flag QLK_LINKCFG_EN l || s.linkSt l ≠ 0 || (s.ql l).retry.isSome then s
  else (s.put QLK_LINKSTAT_STATE 1 l).modQl l (fun q => { q with timer := some (s.now + 100 * Config.ms) })

/-- The peer of link l is the one R249 names: stack ID, PAIR_SIDE, link index (R250). -/
def State.peerOk (s : State) (l sid : Nat) (side : Bool) (link : Nat) : Bool :=
  let own := s.flag QLK_STACKSTAT_PAIR_SIDE
  if l = 3 then side ≠ own && sid = s.ownSid && link = 3
  else side = own && sid = (s.ownSid + l + 1) % 4 && link = 2 - l

/-- This end's stack ID, PAIR_SIDE and link index go out on link l (R250). -/
def sayIdentity (l : Nat) (s : State) : State :=
  let m : QMsg := { link := l, kind := .identity, data := [s.ownSid, s.get QLK_STACKSTAT_PAIR_SIDE, l] }
  { s with qlk := { s.qlk with out := s.qlk.out ++ [m] } }

/-- Lanes and FEC locked: ALIGNING; identities are exchanged and the delay measured, in ns (R250, R255, R256). -/
def linkAligning (l sid : Nat) (side : Bool) (link delay : Nat) (s : State) : State :=
  if s.linkSt l ≠ 1 then s
  else
    let ok := s.peerOk l sid side link
    let s1 := ((s.put QLK_LINKSTAT_STATE 2 l).put QLK_LINKSTAT_PEER_SID sid l).put QLK_LINKSTAT_PEER_SIDE (bit side) l
    let s2 := (s1.put QLK_LINKDLY_D (min delay 65535) l).modQl l (fun q =>
      { q with timer := none, transit := 12 + (delay + 24) / 25 })
    let s3 := sayIdentity l (s2.put QLK_LINKSTAT_MISMATCH (bit (!ok)) l)
    if ok then s3 else emit ev_LINK_PEER_MISMATCH (224 + l) s3 (.qlink l)

/-- No lock by 100 ms: DOWN, and a retry after 10 ms (R255). -/
def linkTimeout (l : Nat) (s : State) : State :=
  match (s.ql l).timer with
  | none => s
  | some t =>
    if s.linkSt l ≠ 1 then s
    else
      let s1 := s.moveTo t
      (s1.put QLK_LINKSTAT_STATE 0 l).modQl l (fun q => { q with timer := none, retry := some (s1.now + 10 * Config.ms) })

/-- The retry (R255). -/
def linkRetry (l : Nat) (s : State) : State :=
  match (s.ql l).retry with
  | none => s
  | some t => linkTrain l ((s.moveTo t).modQl l (fun q => { q with retry := none }))

/-- Roles are exchanged when link 3 of a master first reaches UP (R269). -/
def firstRole (peer : Nat) (s : State) : State :=
  if s.role ≠ 0 || !s.isMaster then s
  else if peer = 1 then setRole 2 s
  else if s.flag QLK_STACKSTAT_PAIR_SIDE then setRole 2 s else setRole 1 s

/-- Link l reaches UP at the next beat boundary (R253, R255, R256, R267, R269). -/
def linkUp (l peerRole : Nat) (locks : List Word) (s : State) : State :=
  if s.linkSt l ≠ 2 || s.flag QLK_LINKSTAT_MISMATCH l || 500 < s.get QLK_LINKDLY_D l then s
  else
    let s1 := s.moveTo s.beatCeil
    let s2 := ((s1.put QLK_LINKSTAT_STATE 3 l).put QLK_LINKSTAT_TRANSIT (s1.ql l).transit l).modQl l (fun q =>
      { q with fails := 0, wait := [], sent := [], wire := [], stalled := false, hand := (List.range 3).filterMap (fun p =>
          if poolSize l p = 0 then none else some (p, poolSize l p)) })
    let s3 := emit ev_LINK_UP (224 + l) s2
    if l = 3 then
      let s4 := { s3 with qlk := { s3.qlk with peerLocks := some locks, downAt := none } }.put QLK_PAIRSTAT_PEER_UP 1
      compareLocks (firstRole peerRole s4)
    else
      let sid := s3.get QLK_LINKSTAT_PEER_SID l
      let s4 := if s3.ownSid = 0 then s3.put QLK_STACKSTAT_PRESENT (s3.get QLK_STACKSTAT_PRESENT ||| 2 ^ sid)
        else if sid = 0 then { s3 with qlk := { s3.qlk with tokenAt := s3.now, orphan := false } } else s3
      lossAgain l (pathLatencies s4)

/-- Link l goes DOWN: credits are reclaimed, its streams and its peer are lost (R253, R255, R266, R267, R273). -/
def linkDown (l : Nat) (s : State) : State :=
  let st := s.linkSt l
  if st = 0 then s
  else
    let s1 := ((s.put QLK_LINKSTAT_STATE 0 l).put QLK_LINKSTAT_TRANSIT 0 l).modQl l (fun q => { transit := q.transit })
    if st ≠ 3 then s1.put QLK_LINKSTAT_MISMATCH 0 l
    else if l = 3 then
      let s2 := emit ev_LINK_DOWN (224 + l) (s1.put QLK_PAIRSTAT_PEER_UP 0)
      let s3 := { s2 with qlk := { s2.qlk with downAt := some s2.now } }
      if s3.role ≠ 0 && !s3.flag QLK_PAIRCFG_AUTO_LINKLOSS then emit ev_PAIR_LINK_LOST 230 s3 else s3
    else
      let sid := s.get QLK_LINKSTAT_PEER_SID l
      let s2 := remoteLost l (emit { ev_LINK_DOWN with cls := 2 } (224 + l) s1 (.qlink l))
      if s2.ownSid = 0 then memberLost sid s2 else if sid = 0 && !s2.qlk.orphan then masterLost s2 else s2

/-- The samples of a stream flit that failed its CRC are discarded, so that GAP stands for them (R98, R254): SID, port, sub-band and
first index. -/
def dropFlit (x : Nat × Nat × Nat × Nat) (s : State) : State :=
  let key := skey (x.1 * 96 + x.2.1) x.2.2.1
  let first := x.2.2.2
  { s with fab := { s.fab with remote := tabMod s.fab.remote key (fun h => h.filter (fun e => e.1 < first || first + 52 ≤ e.1)) } }

/-- A flit of link l fails its CRC; eight in a row take the link down (R254). A stream flit is lost with its samples; of a control or
bulk flit nothing acts until its sender has sent it again. -/
def linkCrc (l : Nat) (stream : Option (Nat × Nat × Nat × Nat)) (s0 : State) : State :=
  if s0.linkSt l ≠ 3 then s0
  else
    let s := match stream with
      | some x => dropFlit x s0
      | none => s0
    let n := (s.ql l).fails + 1
    let s1 := emit ev_LINK_CRC (224 + l) ((s.count QLK_LINKCRC_FLITS l).modQl l (fun q => { q with fails := n }))
    if 8 ≤ n then linkDown l s1 else s1

/-- A stream flit was not sent because its sender lacks a credit (R253). -/
def creditStall (l : Nat) (s : State) : State :=
  if l = 3 || s.linkSt l ≠ 3 || !(s.ql l).stalled then s
  else emit ev_LINK_CREDIT_STALL (224 + l) (s.modQl l (fun q => { q with stalled := false })) (.qlink l)

/-- LINK_RETRAIN (R276). -/
def linkRetrain (r tag mask : Nat) (s : State) : State :=
  if 16 ≤ mask then completeCmd r tag stINVALID_FIELD s
  else completeCmd r tag stSUCCESS (forAll ((List.range 4).filter (fun l => bitOf mask l)) linkDown s)

/-! ### Alignment in a stack (R257-R259) -/

/-- STACK_REALIGN: a pulse at the first beat boundary at least 4 beats later (R259). -/
def stackRealign (r tag : Nat) (s : State) : State :=
  if !s.isMaster then completeCmd r tag stNOT_MASTER s
  else
    completeCmd r tag stSUCCESS
      { s with qlk := { s.qlk with realignAt := some (s.beatTick (s.beatAt (s.now + 4 * Config.beat))) } }

/-- A member that waited at SYNTH goes on. -/
def joined (s : State) : State :=
  if s.qlk.waits then kickRadio { s with qlk := { s.qlk with waits := false } } else s

/-- An alignment pulse: the master's own at the boundary it scheduled, or one on ALIGN_IN of a member (R17, R257-R259). -/
def alignmentPulse (s : State) : State :=
  if s.isMaster then
    match s.qlk.realignAt with
    | none => s
    | some t => let s1 := s.moveTo t
                alignNow { s1 with qlk := { s1.qlk with realignAt := none } }
  else joined (alignNow s)

/-- A grid mark of the master: at each beat boundary b with b mod 4,096 = 0 it drives ALIGN_OUT for 10 ns and sends b to the
members over the CONTROL pool (R257, R258). -/
def sendGridMark (s : State) : State :=
  let b := s.beatNow
  if s.isMaster && b % 4096 = 0 then
    forAll [0, 1, 2] (fun l t => sendMsg l .gridMark [b, t.devTime] t) (driveAlign 10 s)
  else s

/-- The beat token of the master, on every mesh link at every beat boundary (R260, R265, R266): device time, VALID, role, the
promotion beat plus 1 or 0, and whether to send the configuration (log 163). -/
def sendToken (s : State) : State :=
  if s.isMaster then
    let promo := match s.qlk.promoAt with
      | some t => s.beatAt t + 1
      | none => 0
    let t := forAll [0, 1, 2] (fun l u =>
      sendMsg l .token [u.devTime, u.get TIM_STAT_VALID, u.role, promo, bit u.qlk.resyncDue] u) s
    { t with qlk := { t.qlk with resyncDue := false } }
  else s

/-- A grid mark: a member that waits pins on it and takes the master's beat index and time; the mark is its alignment pulse (R258,
R260). -/
def gridMark (b time : Nat) (s : State) : State :=
  if s.isMaster || !s.qlk.waits then s
  else
    joined (alignNow { s with tim := { s.tim with run := true, base := time, since := s.now } } b)

/-! ### Device time (R260-R265) -/

/-- A read of TIM_FRAC latches the seconds (R261). -/
def timFracRead (s : State) : State :=
  let t := s.devTime
  ((s.put TIM_FRAC_FRAC (t % 2 ^ 32)).put TIM_SEC_LO_SEC (t / 2 ^ 32 % 2 ^ 32)).put TIM_SEC_HI_SEC (t / 2 ^ 64 % 65536)

/-- T_A as TIM_ALIGN shows it. -/
def State.tAlignReg (s : State) : Nat :=
  s.get TIM_ALIGN_V 0 + s.get TIM_ALIGN_V 1 * 2 ^ 32 + s.get TIM_ALIGN_V 2 * 2 ^ 64

/-- Device time becomes `t` now; T_A moves by the same amount (R260, R262, R265). -/
def setTime (t : Nat) (s : State) : State :=
  let old := s.devTime
  let ta := (s.tAlignReg + t + (2 ^ 80 - old % 2 ^ 80)) % 2 ^ 80
  let s1 := setTAlign ta { s with tim := { s.tim with run := true, base := t, since := s.now } }
  emit ev_TIME_SET 229 (s1.put TIM_STAT_VALID 1)

/-- A write of TIM_SET0 to TIM_SET2 or TIM_CFG is discarded: on a member, and of TIM_SET0 to TIM_SET2 while a set is armed
(R262). -/
def State.timLocked (s : State) (off : Nat) : Bool :=
  !s.isMaster || (s.tim.armed.isSome && off ≠ regOff TIM_CFG 0 0)

/-- A write of TIM_SET2 (R262). -/
def timeSetArm (val : Nat) (s : State) : State :=
  if s.timLocked (regOff TIM_SET2 0 0) then discard (regOff TIM_SET2 0 0) false s
  else
    let s1 := s.putWord TIM_SET2 (BitVec.ofNat 32 val &&& 0xC000FFFF#32)
    if val / 2 ^ 31 % 2 = 1 then
      { s1 with tim := { s1.tim with
        armed := some (s1.get TIM_SET0_FRAC + s1.get TIM_SET1_SEC * 2 ^ 32 + val % 65536 * 2 ^ 64)
        setNow := bitOf val 30, armAt := s1.now } }
    else s1

/-- ARM falls once the set has applied. -/
def armDone (s : State) : State :=
  { s with tim := { s.tim with armed := none } }.putWord TIM_SET2 (setBits (s.word TIM_SET2) 31 1 0)

/-- A PTP step removes the offset (R264). -/
def ptpStep (d : Int) (s : State) : State :=
  let t := ((s.devTime : Nat) : Int) - roundDiv (d * 4294967296) 1000000000
  (setTime t.toNat { s with tim := { s.tim with step := none } }).put TIM_STAT_STEPPED 1

/-- An armed set with SET_NOW, or a PTP step without a PPS, applies at the first beat boundary after it was armed (R262,
R264). -/
def timeSet (s : State) : State :=
  let at_ := s.beatTick ((s.tim.armAt - s.align) / Config.beat + 1)
  match s.tim.armed, s.tim.step with
  | some t, _ => if s.tim.setNow then armDone (setTime t (s.moveTo at_)) else s
  | none, some d => if s.tim.stepNow then ptpStep d (s.moveTo at_) else s
  | none, none => s

/-- A rising edge of PPS_IN: the offset from the whole second, and a set that waits for it (R262-R264). -/
def ppsEdge (s : State) : State :=
  let t := s.devTime
  let frac := t % 2 ^ 32
  let err : Int := if frac < 2 ^ 31 then (frac : Nat) else ((frac : Nat) : Int) - 2 ^ 32
  let steady : Bool := match s.tim.pps with
    | none => false
    | some (_, u) =>
      let d : Int := ((t : Nat) : Int) - ((u : Nat) : Int) - 2 ^ 32
      d.natAbs * 1000000 ≤ 2 ^ 32
  let s1 := (s.put TIM_PPSERR_ERR (codeOf 32 (roundDiv (err * 1000000000) 4294967296))).put TIM_STAT_PPS_OK (bit steady)
  let s2 := match s1.tim.armed with
    | some v =>
      if s1.tim.setNow then s1
      else if s1.now < s1.tim.armAt + Config.beat then s1.put TIM_STAT_SET_LATE 1
      else armDone (setTime v s1)
    | none =>
      match s1.tim.step with
      | some d => if s1.tim.stepNow then s1 else ptpStep d s1
      | none => s1
  { s2 with tim := { s2.tim with pps := some (s2.now, s2.devTime) } }

/-- No edge for 1.1 s (R263). -/
def ppsLost (s : State) : State :=
  match s.tim.pps with
  | none => s
  | some (t, _) =>
    let s1 := s.moveTo (t + 1100 * Config.ms)
    emit ev_PPS_LOST 229 ({ s1 with tim := { s1.tim with pps := none } }.put TIM_STAT_PPS_OK 0)

/-- PPS_OUT rises at a whole second of device time, for 100 ms (R263). -/
def ppsOut (s : State) : State :=
  if !s.isMaster || !s.flag TIM_CFG_PPS_OUT_EN || !s.tim.run then s
  else
    let t := s.devTime
    let whole := if t % 2 ^ 32 = 0 then t else (t / 2 ^ 32 + 1) * 2 ^ 32
    let s1 := s.moveTo (s.tickOf whole)
    { s1 with tim := { s1.tim with outTill := s1.now + 100 * Config.ms } }

/-- A PTP Sync through export port 0 or 1, with the measured offset in ns (R264). -/
def ptpSync (port domain : Nat) (offset : Int) (s : State) : State :=
  let en := s.flag (if port = 0 then TIM_CFG_PTP0_EN else TIM_CFG_PTP1_EN)
  if !s.isMaster || !s.flag TIM_CFG_SRC || !en || domain ≠ s.get TIM_CFG_DOMAIN then s
  else
    let first := !s.flag TIM_STAT_PTP_LOCK
    let s1 := ((s.put TIM_PTPOFS_OFS (codeOf 32 (clampI (-2147483648) 2147483647 offset))).put TIM_STAT_PTP_LOCK 1).put
      TIM_STAT_PTP_PORT port
    let big := if 1000 < offset.natAbs then s1.tim.big + 1 else 0
    let again : Bool := s1.flag TIM_CFG_AUTO_STEP && 16 ≤ big
    let t := { s1.tim with big := if again || first then 0 else big }
    if first || again then
      { s1 with tim := { t with step := some offset, stepNow := !s1.flag TIM_STAT_PPS_OK, armAt := if t.armed.isSome then t.armAt else s1.now } }
    else { s1 with tim := t }

/-! ### Mirrors and epochs (R271, R272) -/

/-- The register is mirrored (R271). -/
def mirrored (off : Nat) : Bool :=
  match blkOf off with
  | some .tile => (famIndex TILE_CALFAC off).isNone
  | some .fab | some .iso | some .spw | some .clk => true
  | _ => false

/-- An ACTIVE device sends the mirror of a Volley that has applied and has mirrored members (R271; DESIGN CHOICE, log 121: its
sequence counts the mirrors). -/
def sendMirror (regs : List (Nat × Word)) (s : State) : State :=
  let l := regs.filter (fun e => mirrored e.1)
  if s.role ≠ 1 || l = [] then s
  else
    let n := (s.get QLK_MIRRORSEQ_SEQ + 1) % 2 ^ 32
    sendMsg 3 .mirror (n :: (l.map (fun e => [e.1, e.2.toNat])).flatten) (s.put QLK_MIRRORSEQ_SEQ n)

/-- MIRROR_SYNC is lost: a member tells its master, so that both masters clear it (R271). -/
def mirrorUnsync (seq : Nat) (s : State) : State :=
  let t := s.put QLK_PAIRSTAT_MIRROR_SYNC 0
  if s.isMaster then t else sendMsg (s.linkTo 0) .mirror [seq] t

/-- A Volley mirror arrives on a Bullpen; one cut short is discarded (R271). A mirror message without members is a refusal, of the
counterpart or of a member of the own stack: it clears MIRROR_SYNC (DESIGN CHOICE, log 121). -/
def mirrorReceive (seq : Nat) (whole : Bool) (regs : List (Nat × Word)) (s : State) : State :=
  if whole && regs = [] then mirrorUnsync seq s
  else if s.role ≠ 2 || !whole then s
  else { s with qlk := { s.qlk with mirrors := s.qlk.mirrors ++ [(seq, regs)] } }

/-- What the device holds, as an epoch (R272). -/
def State.epochNow (s : State) : Epoch :=
  { time := s.devTime, valid := s.flag TIM_STAT_VALID
    links := s.liveLinks.map (fun l =>
      { link := Fin.ofNat 16384 l, cfg := s.word ISO_LCFG l, taps := (s.link l).taps, rhobar := (s.link l).rhobar
        shift := Fin.ofNat 8 (s.lShift l), band := Fin.ofNat 8 (s.lBand l) })
    paths := ((List.range 4096).filter (fun b => (s.path b).st ≠ 0 || s.hist b ≠ {} || s.gov b ≠ {})).map (fun b =>
      { path := Fin.ofNat 4096 b, state := Fin.ofNat 8 (s.path b).st, gain := s.gApp b
        ages := (s.hist b).times.map (fun t => s.opTime - t), hold := (s.hist b).holdEnd.map (fun t => t - s.opTime)
        lockout := (s.hist b).lockout, offside := (s.gov b).causes % 2 = 1 })
    slots := s.cte.slots.map (fun e => { slot := Fin.ofNat 512 e.1, integ := e.2.integ, out := s.slotOut e.1 }) }

/-- An ACTIVE device takes an epoch at a beat boundary and sends it (R272). -/
def takeEpoch (s : State) : State :=
  let s1 := s.moveTo s.beatCeil
  let n := (s1.get QLK_EPOCH_NUMBER + 1) % 2 ^ 32
  let e := s1.epochNow
  let s2 := { s1 with qlk := { s1.qlk with epochAt := some s1.now, taken := some e } }.put QLK_EPOCH_NUMBER n
  sendMsg 3 .epoch (n :: List.replicate (16 * e.links.length + 8 * e.paths.length + 4 * e.slots.length) 0) s2

/-- The ACTIVE side yields: RELINQUISH is sent, and the tiles descend to RECEIVE (R269, R273-R275). -/
def yieldRole (s : State) : State := setRole 4 (sendMsg 3 .relinquish [] s)

/-- The periodic epoch, every 3,906 beats; the final one of a swap this side has asked for comes at the next boundary (R272, R275). -/
def epochTake (s : State) : State :=
  if s.role ≠ 1 then s
  else
    match s.qlk.swap, s.qlk.epochAt with
    | some d, _ =>
      let t := takeEpoch s
      yieldRole (completeDefer d stSUCCESS { t with qlk := { t.qlk with swap := none } })
    | none, some t => takeEpoch (s.moveTo (t + 3906 * Config.beat))
    | none, none => takeEpoch s

/-- An epoch received by the Bullpen; none when it was cut short or failed its check (R272). -/
def epochReceive (number : Nat) (e : Option Epoch) (s : State) : State :=
  if s.role ≠ 2 then s
  else
    match e with
    | none => emit ev_EPOCH_DISCARD 231 s
    | some e =>
      ({ s with qlk := { s.qlk with held := some e } }.put QLK_EPOCH_NUMBER number).put QLK_PAIRSTAT_EPOCH_VALID 1

/-! ### Promotion (R273-R276) -/

/-- A trigger reaches a Bullpen device: P is the first beat boundary at least 2 beats later (R274). -/
def promote (s : State) : State :=
  if s.role ≠ 2 || s.qlk.promoAt.isSome then s
  else { s with qlk := { s.qlk with promoAt := some (s.beatTick (s.beatAt (s.now + 2 * Config.beat))) } }

/-- RELINQUISH received (R273); it answers a swap this side has asked for (R275). A member passes the trigger to its master, and the
master of an ACTIVE stack yields when a member passes one on (R273, R274; log 163). -/
def relinquish (s : State) : State :=
  if s.role = 1 && s.isMaster then setRole 4 s
  else if s.role ≠ 2 then s
  else if !s.isMaster then sendMsg (s.linkTo 0) .relinquish [] s
  else
    let s1 := promote s
    match s1.qlk.swap with
    | some d => completeDefer d stSUCCESS { s1 with qlk := { s1.qlk with swap := none } }
    | none => s1

/-- Link 3 has been DOWN for 1 ms with AUTO_LINKLOSS: the Bullpen promotes, the ACTIVE side yields; a member tells its master (R273,
log 163). -/
def link3Timer (s : State) : State :=
  match s.qlk.downAt with
  | none => s
  | some t =>
    if !s.flag QLK_PAIRCFG_AUTO_LINKLOSS then s
    else
      let s1 := s.moveTo (t + Config.ms)
      let s2 := { s1 with qlk := { s1.qlk with downAt := none } }
      if !s2.isMaster then sendMsg (s2.linkTo 0) .relinquish [] s2
      else if s2.role = 2 then promote s2 else if s2.role = 1 then setRole 4 s2 else s2

/-- A link of an epoch as a seed record, stamped with the epoch time (R130, R274). -/
def epochSeed (e : Epoch) (x : EpochLink) : Seed :=
  let ex := tapExp x.taps
  let f := fun v : Int => clampI (-2048) 2047 (roundDiv v (2 ^ (16 + ex)))
  { good := true, key := getBits x.cfg 0 27 + x.link.val / 2048 * 2 ^ 27, sec := e.time / 2 ^ 32 % 2 ^ 32, band := x.band.val
    valid := e.valid, exp := ex, shift := x.shift.val
    iso := if x.rhobar = 0 then 3000 else (dbFloor 200 (2 ^ 96) (x.rhobar * 4 ^ x.shift.val) 0 3000).toNat
    taps := (List.range 32).map (fun k => let h := x.taps.getD k (0, 0); (f h.1, f h.2)) }

/-- The histories, lock-outs and Offside mutes of an epoch replace the device's own (R274). -/
def takeHistories (e : Epoch) (s : State) : State :=
  let s1 := { s with iso := { s.iso with
    hist := []
    govs := (s.iso.govs.map (fun g => (g.1, { g.2 with causes := g.2.causes / 2 * 2 }))).filter (fun g => g.2 ≠ {}) } }
  forAll e.paths (fun x t =>
    let h : Hist := { times := x.ages.map (fun a => t.opTime - a), holdEnd := x.hold.map (fun a => t.opTime + a), lockout := x.lockout }
    let t1 := { t with iso := { t.iso with hist := tabSet t.iso.hist x.path.val h } }
    if x.offside then t1.modGov x.path.val (fun g => { g with causes := g.causes / 2 * 2 + 1 }) else t1) s1

/-- Beat P (R274): the last complete epoch is taken, and BULLPEN_SEL rises. -/
def promotionBeat (s : State) : State :=
  match s.qlk.promoAt with
  | none => s
  | some p =>
    let s1 := s.moveTo p
    let s2 := { s1 with qlk := { s1.qlk with promoAt := none, liftAt := some (p + 100 * Config.us), mirrors := [] } }
    setRole 3 (match s2.qlk.held with
      | some e => takeHistories e { s2 with pst := { s2.pst with epochSeeds := e.links.map (epochSeed e) } }
      | none => s2)

/-- P + 100 µs: the forced cap is lifted (R274). -/
def promotionLift (s : State) : State :=
  match s.qlk.liftAt with
  | none => s
  | some t =>
    let s1 := s.moveTo t
    kickRadio { s1 with qlk := { s1.qlk with liftAt := none }, radio := { s1.radio with promoteCap := false } }

/-- PAIR_SWAP (R275, R276). -/
def pairSwap (r tag : Nat) (s : State) : State :=
  if !s.isMaster then completeCmd r tag stNOT_MASTER s
  else if s.linkSt 3 ≠ 3 then completeCmd r tag stUNREACHABLE s
  else if !(s.role = 1 || s.role = 2) || !s.flag QLK_PAIRSTAT_MIRROR_SYNC then completeCmd r tag stWRONG_STATE s
  else if s.qlk.swap.isSome then completeCmd r tag stBUSY s
  else
    let s1 := { s with qlk := { s.qlk with swap := some (s.defer r tag) } }
    sendMsg 3 .swap [] s1

/-- A swap request of the peer (R275). -/
def swapRequest (s : State) : State :=
  if !s.isMaster then s
  else
    match s.qlk.swap with
    | some d => emit ev_SWAP_COLLIDED 230 (completeDefer d stSWAP_COLLIDED { s with qlk := { s.qlk with swap := none } })
    | none => if s.role = 1 then yieldRole (takeEpoch s) else s

/-- PAIR_PROMOTE (R273, R276). -/
def pairPromote (r tag : Nat) (s : State) : State :=
  if !s.isMaster then completeCmd r tag stNOT_MASTER s
  else if s.role ≠ 2 || s.linkSt 3 ≠ 0 then completeCmd r tag stWRONG_STATE s
  else completeCmd r tag stSUCCESS (promote s)

/-- The registers of the mirrored blocks that are not at their reset values: offset and value in force (R271, R276). -/
def State.mirrorRegs (s : State) : List (Nat × Word) :=
  (s.regs.tile ++ s.regs.fab ++ s.regs.iso ++ s.regs.spw ++ s.regs.clk).filterMap (fun e =>
    match rwsAt e.1 with
    | some (f, _, _) => if mirrored e.1 then some (e.1, e.2 &&& BitVec.ofNat 32 f.rws) else none
    | none => none)

/-- The configuration in force of the mirrored blocks goes to the counterpart (R276). -/
def sendConfig (s : State) : State :=
  sendMsg 3 .resync (s.get QLK_MIRRORSEQ_SEQ :: (s.mirrorRegs.map (fun e => [e.1, e.2.toNat])).flatten)
    (s.put QLK_PAIRSTAT_MIRROR_SYNC 1)

/-- PAIR_RESYNC: the mirrored configuration goes to every counterpart (R276). -/
def pairResync (r tag : Nat) (s : State) : State :=
  if !s.isMaster then completeCmd r tag stNOT_MASTER s
  else if s.role ≠ 1 then completeCmd r tag stWRONG_STATE s
  else if s.linkSt 3 ≠ 3 then completeCmd r tag stUNREACHABLE s
  else
    completeCmd r tag stSUCCESS (sendConfig { s with qlk := { s.qlk with resyncDue := true } })

/-- A member follows the role of its stack, which its master decides (R269; DESIGN CHOICE, log 163): out of SOLO it takes it, from
ACTIVE it yields with its last epoch, and a BULLPEN whose stack is ACTIVE joins it. -/
def followRole (role : Nat) (s : State) : State :=
  if s.role = 0 then (if role = 0 then s else setRole (if role = 1 then 1 else 2) s)
  else if s.role = 1 && (role = 2 || role = 4) then setRole 4 (takeEpoch s)
  else if s.role = 2 && role = 1 && s.qlk.promoAt.isNone then
    kickRadio { setRole 1 s with radio := { s.radio with promoteCap := false } }
  else s

/-- A member takes P from its master (R273, R274). -/
def followPromotion (b : Option Nat) (s : State) : State :=
  match b with
  | some b => if s.role = 2 && s.qlk.promoAt.isNone then { s with qlk := { s.qlk with promoAt := some (s.beatTick b) } } else s
  | none => s

/-- A beat token of the master: its device time at the beat boundary the token is for, and its validity; a step of the master's time
moves T_A too (R260, R265, R266). With it come what its stack does (R269, R274, R276; log 163). -/
def beatToken (time : Nat) (token : Token) (s : State) : State :=
  if s.ownSid = 0 then s
  else
    let at_ := s.beatTick s.beatNow
    let old := { s with now := at_ }.devTime
    let ta := (s.tAlignReg + time + (2 ^ 80 - old % 2 ^ 80)) % 2 ^ 80
    let s1 := if time ≤ old + 1 && old ≤ time + 1 then s else setTAlign ta s
    let s2 := { s1 with
      qlk := { s1.qlk with tokenAt := s.now, orphan := false }
      tim := { s1.tim with run := true, base := time, since := at_ } }
    let s3 := ((s2.put QLK_STACKSTAT_MASTER_OK 1).put TIM_STAT_VALID (bit token.valid)).modQl (s.linkTo 0) (fun q => { q with fails := 0 })
    let s4 := followPromotion token.promo (followRole token.role s3)
    if token.resync && s4.role = 1 then sendConfig s4 else s4

/-- Bring the pair and the stack in line after a change: DUGOUT and RELINQUISH on entry to Dugout, the end of a promotion and
of a yield; a member left alone at SYNTH aligns itself (R248, R266, R269, R273, R274). -/
def pairSync (s0 : State) : State :=
  let s := if s0.qlk.waits && s0.isMaster then joined (alignNow s0) else s0
  let s1 := if s.flt.dugout && !s.qlk.dugSent && s.isMaster then
      forAll [0, 1, 2] (fun l t => sendMsg l .dugout [] t) { s with qlk := { s.qlk with dugSent := true } }
    else if !s.flt.dugout && (s.qlk.dugSent || s.qlk.gone) then { s with qlk := { s.qlk with dugSent := false, gone := false } }
    else s
  let s2 := if s1.flt.dugout && !s1.qlk.gone && s1.role = 1 && s1.flag QLK_PAIRCFG_FAILOVER_DUGOUT then
      let t := yieldRole { s1 with qlk := { s1.qlk with gone := true } }
      if t.isMaster then t else sendMsg (t.linkTo 0) .relinquish [] t
    else s1
  if s2.role = 3 && s2.qlk.liftAt.isNone && (List.range 16).all (fun t => min s2.devGoal (s2.tileCeil t) < 4 || s2.rstate t = 4) then
    setRole 1 s2
  else if s2.role = 4 && (List.range 16).all (fun t => s2.rstate t ≤ 3) then setRole 2 s2
  else s2

end Sys2Proof.Machine
end

