-- ==== Sys2Proof/Machine/CheckOps.lean ====
section
/-!
DEFINITION. Sys2Proof/Machine/CheckOps.lean: the writes of a Volley's members and the refusal tables of the blocks, each in its
own order (R34, R35, R48, R50, R62, R63, R79, R86-R89, R97-R101, R106, R118, R119, R152, R155, R164, R165, R173, R177, R184,
R224, R228, R234, R246, R364). A refusal is a status and the index of the first failing member (log 60).
-/
namespace Sys2Proof.Machine
open Sys2Proof

/-- One register write of a Volley: the member it comes from, its BAR0 offset and its value. -/
structure Wr where
  m : Nat
  off : Nat
  v : Word
  deriving DecidableEq, Repr

/-- The index of a refusal by a Volley-level check (R221). -/
def volleyLevel : Nat := 0x1FFF

/-- The writes of a member with index `m`: consecutive registers (R220). -/
def Member.writes (x : Member) (m : Nat) : List Wr := x.words.zipIdx.map (fun e => { m := m, off := x.off + 4 * e.2, v := e.1 })

/-- The writes of a Volley for device `sid`, in member order. -/
def Slot.writesFor (x : Slot) (sid : Nat) : List Wr :=
  ((x.members.zipIdx.filter (fun e => e.1.sid = sid)).map (fun e => e.1.writes e.2)).flatten

/-- Put an RWS register: only its RWS bits change. -/
def putRws (off : Nat) (v : Word) (s : State) : State :=
  match rwsAt off with
  | none => s
  | some (f, i, j) =>
    if f = TILE_CALFAC then s.setCalfac i j v
    else
      let mask := BitVec.ofNat 32 f.rws
      s.putWord f ((s.word f i j &&& ~~~mask) ||| (v &&& mask)) i j

/-- A configuration with the writes of a Volley added, in member order (R224, R228). -/
def withWrites (ws : List Wr) (s : State) : State := forAll ws (fun w t => putRws w.off w.v t) s

/-- The configuration in force with every STAGED Volley added, in the order they apply (R228). -/
def State.stagedView (s : State) : State :=
  forAll s.stagedOrder (fun v t => withWrites ((s.slot v).writesFor (if v < 4 && !(s.slot v).stack then 0 else s.ownSid)) t) s

/-- Some member touches a block. -/
def touches (b : Blk) (ws : List Wr) : Bool := ws.any (fun w => blkOf w.off = some b)

/-- The first write of a family for which `p` holds of instance and value: the index of its member. -/
def firstOn (f : RegFam) (ws : List Wr) (p : Nat → Nat → Word → Bool) : Option Nat :=
  (ws.find? (fun w => match famIndex f w.off with
    | some (i, j) => p i j w.v
    | none => false)).map (fun w => w.m)

/-- The least of the failing members of several checks that share a row. -/
def leastOf (l : List (Option Nat)) : Option Nat :=
  l.foldl (fun a x => match a, x with
    | none, y => y
    | y, none => y
    | some p, some q => some (min p q)) none

/-- A refusal with a status. -/
def refuse (st : Nat) (x : Option Nat) : Option (Nat × Nat) := x.map (fun i => (st, i))

/-- A refusal with a status by a Volley-level condition, or by the member `i`. -/
def refuseIf (c : Bool) (st : Nat) (i : Nat := volleyLevel) : Option (Nat × Nat) := if c then some (st, i) else none

/-- The first refusal of a list of rows. -/
def firstRow (l : List (Option (Nat × Nat))) : Option (Nat × Nat) := l.findSome? id

/-! ### PWR (R361, R364) -/

/-- The domain is enabled by the host (R361). -/
def hostDomain (d : Nat) : Bool := d = 69 || d = 70 || d = 71 || (48 ≤ d && d ≤ 67) || d = 75

/-- The rows of R364: `s0` in force with the STAGED Volleys, `s1` with this one. -/
def checkPwr (s0 s1 : State) (ws : List Wr) : Option (Nat × Nat) :=
  let cleared := fun d : Nat => firstOn PWR_DOMEN ws (fun i _ v => i = d / 32 && !bitOf v.toNat (d % 32))
  let exp := fun lo : Nat => (List.range 4).any (fun e => s0.flag EXP_CFG_EN (lo + e) || s1.flag EXP_CFG_EN (lo + e))
  let anyLink := (List.range 4).any (fun l => s0.flag QLK_LINKCFG_EN l)
  firstRow [
    refuse stINVALID_FIELD (firstOn PWR_DOMEN ws (fun i _ v =>
      (i = 2 && v.toNat / 65536 ≠ 0) ||
      (List.range 32).any (fun b => 32 * i + b < 80 && !hostDomain (32 * i + b) && !bitOf v.toNat b))),
    refuse stWRONG_STATE (leastOf [
      if exp 0 then cleared 69 else none, if exp 4 then cleared 70 else none, if anyLink then cleared 71 else none])]

/-! ### CLK (R173, R184, R185) -/

/-- A write differs from the value in force with every STAGED Volley added. -/
def changes (s0 : State) (f : RegFam) (i j : Nat) (v : Word) : Bool :=
  let mask := BitVec.ofNat 32 f.rws
  s0.word f i j &&& mask ≠ v &&& mask

/-- A calibration runs: CONV_CAL, the start-up calibration, or a synthesizer's. -/
def State.calibrating (s : State) : Bool :=
  s.cal.running || (List.range 4).any (fun q => s.flag CLK_SYNSTAT_CAL_RUN q)

/-- The rows of the CLK block. -/
def checkClk (s0 : State) (ws : List Wr) : Option (Nat × Nat) :=
  let inbound := fun f : RegFam => firstOn f ws (fun e j v => e < 4 && (s0.quiet e).req && changes s0 f e j v)
  firstRow [
    refuse stINVALID_FIELD (leastOf [
      firstOn CLK_RCFG ws (fun _ _ v => 4 < getBits v 0 3),
      firstOn CLK_TCAP ws (fun _ _ v => getBits v 0 3 = 0 || 4 < getBits v 0 3),
      firstOn CLK_QCTL ws (fun e _ v => 4 ≤ e && getBits v 2 10 = 0)]),
    refuse stWRONG_STATE (leastOf [inbound CLK_QCTL, inbound CLK_QPORT, inbound CLK_QSB]),
    if s0.calibrating then
      refuse stBUSY (leastOf [firstOn CLK_RCFG ws (fun _ _ _ => true), firstOn CLK_TCAP ws (fun _ _ _ => true)])
    else none]

/-! ### TILE (R34, R35, R48, R50, R62, R63, R177) -/

/-- The rows of the TILE block: field limits, then the states a change is not allowed in. -/
def checkTile (s0 : State) (ws : List Wr) : Option (Nat × Nat) :=
  let setsTx := fun t p : Nat => (firstOn TILE_DACCFG ws (fun i j v => i = t && j = p && getBits v 0 1 = 1)).isSome
  let txBarred := fun t p : Nat =>
    s0.flag TILE_DACCFG_TX_EN t p || s0.get TILE_PORTSTAT_RAMP t p ≠ 0 || setsTx t p
  firstRow [
    refuse stINVALID_FIELD (leastOf [
      firstOn TILE_PORTCFG ws (fun _ _ v =>
        60 < getBits v 0 6 || 60 < getBits v 22 6 || getBits v 22 6 < getBits v 16 6 || 13 < getBits v 12 4),
      firstOn TILE_ARCCFG ws (fun _ _ v => !(getBits v 0 6 < getBits v 6 6 && getBits v 6 6 < getBits v 12 6)),
      firstOn TILE_BANKCFG ws (fun _ _ v => 6 ≤ getBits v 4 3),
      firstOn TILE_PACFG ws (fun _ _ v => 999 < getBits v 0 10),
      firstOn TILE_ORXCFG ws (fun _ _ v => 6 ≤ getBits v 1 3),
      firstOn TILE_ORXATT ws (fun _ _ v => 60 < getBits v 0 6),
      firstOn TILE_CALFAC ws (fun _ i v => !tileWordOk i v)]),
    refuse stWRONG_STATE (leastOf [
      firstOn TILE_BANKCFG ws (fun t p v => getBits v 1 1 ≠ s0.get TILE_BANKCFG_TX_PROTO t p && txBarred t p),
      firstOn TILE_CALFAC ws (fun t i v =>
        i < 240 && i % 40 = 8 && getBits v 16 16 ≠ getBits (s0.calfac t i) 16 16 && txBarred t (i / 40)),
      firstOn TILE_PACFG ws (fun t p v =>
        getBits v 10 2 ≠ getBits (s0.word TILE_PACFG t p) 10 2 && s0.rstate t = 4)])]

/-! ### FAB (R79, R86-R89, R97, R99, R101, R118) -/

/-- Paths whose ENABLE is 1 in a configuration. -/
def State.enabledPaths (s : State) : List Nat :=
  s.regs.fab.filterMap (fun e =>
    match famIndex FAB_PCFG0 e.1 with
    | some (b, _) => if getBits e.2 0 1 = 1 then some b else none
    | none => none)

/-- New paths of crossfades that wait, run or turn back: they count until position 0 is reached (R89, R101). One that waits and that a
Volley turns back may run before the apply beat. -/
def State.fadingPaths (s : State) : List Nat :=
  (List.range 64).filterMap (fun x => if 1 ≤ s.get FAB_XFSTAT_PHASE x then some (s.get FAB_XFPATH_NEW x) else none)

/-- Paths that are not DISABLED in a configuration. -/
def State.countedPaths (s : State) : List Nat :=
  s.enabledPaths ++ s.fadingPaths.filter (fun b => !s.enabledPaths.contains b)

/-- Path of a write to a record. -/
def pathOf (off : Nat) : Option Nat := if 0x150000 ≤ off && off < 0x160000 then some ((off - 0x150000) / 16) else none

/-- The first member that touches the record of path b, or the output set it names. -/
def touchesPath (s1 : State) (b : Nat) (ws : List Wr) : Option Nat :=
  (ws.find? (fun w => pathOf w.off = some b || (match famIndex FAB_OSET w.off with
    | some (i, _) => i = (s1.route b).oset
    | none => false))).map (fun w => w.m)

/-- The record of path b is not one an enabled path may have (R86, R89, R307). -/
def badRecord (s1 : State) (live : List Nat) (b : Nat) : Bool :=
  let r := s1.route b
  let ins := r.inputs.map (fun x => (x.2.1, x.2.2))
  let lps := live.filter (fun c => c ≠ b && (s1.route c).loopEn && (s1.route c).loop = r.loop)
  1200 < r.gain || r.gain < -1200 || r.kIn = 0 || r.kOut = 0 || 1023 < r.kIn + r.width - 1 || 1023 < r.kOut + r.width - 1 ||
  ins = [] || ins.any (fun x => 96 ≤ x.1) || ins.eraseDups.length ≠ ins.length || r.outPorts = [] ||
  (r.loopEn && (r.loop < 64 || lps ≠ [] || s1.kindOf r.loop ≠ 3))

/-- Crossfade entries that a Volley starts. -/
def xfStarts (ws : List Wr) : List (Nat × Nat) :=
  ws.filterMap (fun w => match famIndex FAB_XFCTL w.off with
    | some (x, _) => if getBits w.v 16 1 = 1 then some (x, w.m) else none
    | none => none)

/-- The field errors of a crossfade that a Volley starts (R99). -/
def badXfade (s0 s1 : State) (starts : List (Nat × Nat)) (x : Nat) : Bool :=
  let n := s1.get FAB_XFPATH_NEW x
  let o := s1.get FAB_XFPATH_OLD x
  let others := (List.range 64).filter (fun y => y ≠ x && (s0.flag FAB_XFCTL_EN y || starts.any (fun e => e.1 = y)))
  let inOther := fun b : Nat => others.any (fun y => s1.get FAB_XFPATH_NEW y = b || s1.get FAB_XFPATH_OLD y = b)
  n = o || (s0.route n).en || s0.fadingPaths.contains n || !(s1.route n).en || !(s0.route o).en || !(s1.route o).en ||
  (s1.route n).uplink ≠ (s1.route o).uplink || inOther n || inOther o

/-- A restart hold-off of path b runs, or it is locked out (R118). -/
def State.enableBarred (s : State) (b : Nat) : Bool :=
  (s.hist b).lockout || (match (s.hist b).holdEnd with
    | some t => decide (s.opTime < t)
    | none => false)

/-- A record write of path b that the state does not allow (R88, R101, R118). -/
def badPathWrite (s0 s1 : State) (w : Wr) : Bool :=
  match pathOf w.off with
  | none => false
  | some b =>
    let old := s0.word FAB_PCFG0 b
    let new := w.v
    match s0.xfOf b with
    | some x =>
      -- GAIN of either path, and ENABLE = 0 of the new one
      let en : Bool := getBits new 0 1 = getBits old 0 1 || (getBits new 0 1 = 0 && s0.get FAB_XFPATH_NEW x = b)
      !(w.off % 16 = 0 && en && getBits new 1 11 = getBits old 1 11 && getBits new 24 7 = getBits old 24 7)
    | none =>
      if (s0.route b).en && (s1.route b).en then
        if w.off % 16 = 0 then getBits new 1 1 ≠ getBits old 1 1 || getBits new 24 7 ≠ getBits old 24 7
        else match rwsAt w.off with
          | some (f, i, j) => changes s0 f i j new
          | none => false
      else !(s0.route b).en && (s1.route b).en && s0.enableBarred b

/-- A write of an output set that a path live before and after the Volley names (R88). -/
def badSetWrite (s0 s1 : State) (w : Wr) : Bool :=
  match famIndex FAB_OSET w.off with
  | none => false
  | some (i, j) => changes s0 FAB_OSET i j w.v && s0.countedPaths.any (fun b =>
      (s0.route b).oset = i && ((s1.route b).en || (s0.xfOf b).isSome))

/-- A write of a crossfade entry in use (R101). -/
def badEntryWrite (s0 : State) (w : Wr) : Bool :=
  match famIndex FAB_XFPATH w.off, famIndex FAB_XFCTL w.off with
  | some (x, _), _ => s0.flag FAB_XFCTL_EN x
  | _, some (x, _) => s0.flag FAB_XFCTL_EN x
  | _, _ => false

/-- Bit mask of the output sub-bands of a record. -/
def Route.subMask (r : Route) : Nat := ((2 ^ r.width - 1) * 2 ^ r.kOut) % 2 ^ 1024

/-- Some output sub-band of one port sums more than 4 input streams (R89). -/
def sumOver (s1 : State) (live : List Nat) : Bool :=
  (List.range 96).any (fun o =>
    let rs := (live.map s1.route).filter (fun r => r.outPorts.contains o)
    (List.range 1024).any (fun k => 4 < (rs.filter (fun r => r.routes o k)).foldl (fun a r => a + r.inputs.length) 0))

/-- Some port has more than 256 active sub-bands (R79). -/
def synthOver (s1 : State) (live : List Nat) : Bool :=
  (List.range 96).any (fun o =>
    256 < popBits 1024 ((live.map s1.route).foldl (fun a r => if r.outPorts.contains o then a ||| r.subMask else a) 0))

/-- Remote streams a set of paths receives: SID, port, sub-band (R97). -/
def remoteStreams (s1 : State) (live : List Nat) : List (Nat × Nat × Nat) :=
  (live.map (fun b => (s1.route b).remote s1.ownSid)).flatten.eraseDups

/-- A link carries more than 1,024 streams in one direction: `send` are the streams this device sends (R89, R97). -/
def linkOver (s1 : State) (live : List Nat) (send : List (Nat × Nat × Nat)) : Bool :=
  let ins := remoteStreams s1 live
  (List.range 4).any (fun j => 1024 < (ins.filter (fun x => x.1 = j)).length || 1024 < (send.filter (fun x => x.1 = j)).length)

/-- SID j is a present member of the stack: the device itself, a member the master shows PRESENT, or, seen from a member, one
whose mesh link is UP (R248, R267). -/
def State.sidPresent (s : State) (j : Nat) : Bool :=
  j = s.ownSid || (if s.ownSid = 0 then bitOf (s.get QLK_STACKSTAT_PRESENT) j else s.linkSt (s.linkTo j) = 3)

/-- The rows of R89. -/
def checkFab (s0 s1 : State) (ws : List Wr) (stack : Bool) (send : List (Nat × Nat × Nat)) : Option (Nat × Nat) :=
  let live := s1.countedPaths
  let starts := xfStarts ws
  let touched := (live ++ s0.countedPaths).eraseDups.filter (fun b => (touchesPath s1 b ws).isSome)
  let who := fun b : Nat => (touchesPath s1 b ws).getD volleyLevel
  let remote := fun b : Nat => (s0.route b).inputs.any (fun x => (s0.route b).en && x.2.2 ≠ s0.ownSid) ||
    (s1.route b).inputs.any (fun x => (s1.route b).en && x.2.2 ≠ s1.ownSid)
  let away := fun b : Nat => (s1.route b).en && (s1.route b).inputs.any (fun x => !s1.sidPresent x.2.2)
  firstRow [
    refuse stINVALID_FIELD (leastOf (
      ((live.filter (badRecord s1 live)).map (fun b => some (who b))) ++
      ((starts.filter (fun e => badXfade s0 s1 starts e.1)).map (fun e => some e.2)))),
    refuse stWRONG_STATE ((ws.find? (fun w =>
      badPathWrite s0 s1 w || badSetWrite s0 s1 w || badEntryWrite s0 w)).map (fun w => w.m)),
    if stack then none else refuse stSTACK_REQUIRED (leastOf ((touched.filter remote).map (fun b => some (who b)))),
    refuse stUNREACHABLE (leastOf ((touched.filter away).map (fun b => some (who b)))),
    refuseIf (sumOver s1 live) stSUM_LIMIT,
    refuseIf (synthOver s1 live) stSYNTH_LIMIT,
    refuseIf (linkOver s1 live send) stLINK_LIMIT]

/-! ### ISO (R106, R119, R134) -/

/-- Link l covers a path that is not DISABLED in a configuration (R112). -/
def coversCounted (s0 : State) (l : Nat) : Bool :=
  s0.countedPaths.any (fun b => (s0.exposed b).any (fun e => e.1 = s0.ownSid && s0.coversOn l (s0.route b) e.2.1 e.2.2))

/-- Links enabled in a configuration. -/
def State.enabledLinks (s : State) : List Nat :=
  s.regs.iso.filterMap (fun e => match famIndex ISO_LCFG e.1 with
    | some (l, _) => if getBits e.2 27 4 ≠ 0 then some l else none
    | none => none)

/-- The fields of a link are out of range (R106): K_S is K, K + 1 or K − 1. -/
def badLink (v : Word) : Bool :=
  let k := getBits v 11 10
  let d := getBits v 21 2
  11 < getBits v 0 4 || 95 < getBits v 4 7 || k = 0 || d = 2 || (d = 1 && 1023 < k + 1) || (d = 3 && k < 2)

/-- The rows of the ISO block. -/
def checkIso (s0 s1 : State) (ws : List Wr) : Option (Nat × Nat) :=
  let lk := s1.enabledLinks
  let crowded := fun l : Nat => 16 < (lk.filter (fun m => s1.lVictim m = s1.lVictim l && s1.lK m = s1.lK l)).length
  firstRow [
    refuse stINVALID_FIELD (leastOf [
      firstOn ISO_LCFG ws (fun _ _ v => badLink v),
      firstOn ISO_OSCCFG ws (fun _ _ v => 200 ≤ getBits v 0 8 || getBits v 8 8 < 10),
      firstOn ISO_CLEAR ws (fun _ _ v => getBits v 12 2 = 3)]),
    refuse stWRONG_STATE (firstOn ISO_LCFG ws (fun l _ v =>
      let old := s0.word ISO_LCFG l
      getBits old 27 4 ≠ 0 && (getBits v 27 4 = 0 || getBits v 0 27 ≠ getBits old 0 27 || getBits v 31 1 ≠ getBits old 31 1) &&
      coversCounted s0 l)),
    refuseIf (touches .iso ws && (lk.any crowded || 4096 < (lk.filter (fun l => s1.flag ISO_LCFG_SEED l)).length)) stCXL_LIMIT]

/-! ### SPW (R152, R155, R164, R165) -/

/-- What a list of writes leaves of ARM of snapshot slot x. -/
def armWritten (ws : List Wr) (x : Nat) : Option Bool :=
  ws.foldl (fun a w => match famIndex SPW_SNAPCFG0 w.off with
    | some (y, _) => if y = x then some (getBits w.v 24 1 = 1) else a
    | none => a) none

/-- Writes of every STAGED Volley. -/
def State.stagedWrites (s : State) : List Wr :=
  (s.stagedOrder.map (fun v => (s.slot v).writesFor (if v < 4 && !(s.slot v).stack then 0 else s.ownSid))).flatten

/-- Slot x is not IDLE once the STAGED Volleys and `ws` have applied. -/
def State.slotBusy (s : State) (ws : List Wr) (x : Nat) : Bool := (armWritten (s.stagedWrites ++ ws) x).getD (s.snapState x ≠ 0)

/-- Region of slot x in MiB: first and end. -/
def State.snapRegion (s : State) (x : Nat) : Nat × Nat :=
  (s.get SPW_SNAPCFG1_BASE x, s.get SPW_SNAPCFG1_BASE x + s.get SPW_SNAPCFG1_SIZE_M1 x + 1)

/-- The fields of slot x are out of range, or its region overlaps that of another slot that is not IDLE (R155). -/
def badSnap (s1 : State) (busy : Nat → Bool) (x : Nat) : Bool :=
  let (lo, hi) := s1.snapRegion x
  let k := s1.get SPW_SNAPCFG0_K_LO x
  111 < s1.get SPW_SNAPCFG0_PORT x || 16384 < hi ||
  (s1.get SPW_SNAPCFG0_KIND x = 1 && (k = 0 || 1023 < k + s1.get SPW_SNAPCFG0_WM1 x)) ||
  (busy x && (List.range 16).any (fun y => y ≠ x && busy y && lo < (s1.snapRegion y).2 && (s1.snapRegion y).1 < hi))

/-- The snapshot slot a write addresses. -/
def snapOf (off : Nat) : Option Nat :=
  if 0x181000 ≤ off && off < 0x181100 && off % 16 < 12 then some ((off - 0x181000) / 16) else none

/-- Configured product rate: (K_HI − K_LO + 1) · 1,024 · 80 bits per (MM1 + 1) · 51.2 µs, compared exactly against
BUDGET · 10^9 bit/s; the sum is in units of 1/(Π) as a ratio (R152). -/
def State.productRate (s : State) : Nat × Nat :=
  (List.range 96).foldl (fun a n =>
    if s.flag SPW_PCFG_EN n then
      let w := s.get SPW_PRANGE_K_HI n + 1 - s.get SPW_PRANGE_K_LO n
      let m := s.get SPW_PCFG_MM1 n + 1
      (a.1 * m + w * 1600000000 * a.2, a.2 * m)
    else a) (0, 1)

/-- The write rate of the slots not IDLE, in 10 MB/s (R155). -/
def captureRate (s1 : State) (busy : Nat → Bool) : Nat :=
  (List.range 16).foldl (fun a x =>
    if busy x then a + (if s1.get SPW_SNAPCFG0_KIND x = 0 then 6272 else 18 * (s1.get SPW_SNAPCFG0_WM1 x + 1)) else a) 0

/-- The rows of the SPW block: field limits, the product budget, the slot states, the capture rate, domain 75. -/
def checkSpw (s s0 s1 : State) (ws : List Wr) : Option (Nat × Nat) :=
  let busy0 := s.slotBusy []
  let busy1 := s.slotBusy ws
  let (num, den) := s1.productRate
  let snapBad := ws.find? (fun w => match snapOf w.off with
    | some x => badSnap s1 busy1 x
    | none => false)
  let changed := ws.find? (fun w => match snapOf w.off, rwsAt w.off with
    | some x, some (f, i, j) =>
      busy0 x && changes s0 f i j (if f = SPW_SNAPCFG0 then setBits w.v 24 1 (s0.get SPW_SNAPCFG0_ARM i) else w.v)
    | _, _ => false)
  firstRow [
    refuse stINVALID_FIELD (leastOf [
      firstOn SPW_GCFG ws (fun _ _ v => 3200 < getBits v 0 12 || getBits v 12 8 < 10),
      firstOn SPW_PCFG ws (fun _ _ v => getBits v 1 20 < 15),
      firstOn SPW_PRANGE ws (fun _ _ v => getBits v 10 10 < getBits v 0 10),
      snapBad.map (fun w => w.m)]),
    refuseIf (s1.get SPW_GCFG_BUDGET * 1000000000 * den < num) stBUDGET_EXCEEDED,
    refuse stWRONG_STATE (changed.map (fun w => w.m)),
    refuseIf (25600 < captureRate s1 busy1) stCAPTURE_LIMIT,
    if s.domainOn 75 then none else refuse stWRONG_STATE (firstOn SPW_SNAPCFG0 ws (fun _ _ v => getBits v 24 1 = 1))]

/-! ### EXP (R246) -/

/-- The row of the EXP block. -/
def checkExp (s1 : State) (ws : List Wr) : Option (Nat × Nat) :=
  let v4 := fun e : Nat => !s1.flag EXP_CFG_IPV6 e && [1, 2, 3].any (fun i => s1.get EXP_SIP_ADDR e i ≠ 0 || s1.get EXP_DIP_ADDR e i ≠ 0)
  refuse stINVALID_FIELD (leastOf [
    firstOn EXP_CFG ws (fun e _ v =>
      getBits v 13 14 < 1500 || 9000 < getBits v 13 14 || (getBits v 3 1 = 1 && getBits v 2 1 = 0) || v4 e),
    firstOn EXP_SIP ws (fun e i v => 1 ≤ i && v.toNat ≠ 0 && v4 e),
    firstOn EXP_DIP ws (fun e i v => 1 ≤ i && v.toNat ≠ 0 && v4 e)])

/-! ### Row 6 of R228 -/

/-- The refusal tables of the blocks touched, in increasing BAR0 offset (R228, row 6). -/
def blockChecks (s : State) (ws : List Wr) (stack : Bool) (send : List (Nat × Nat × Nat)) : Option (Nat × Nat) :=
  let s0 := s.stagedView
  let s1 := withWrites ws s0
  let on := fun (b : Blk) (x : Option (Nat × Nat)) => if touches b ws then x else none
  firstRow [on .pwr (checkPwr s0 s1 ws), on .clk (checkClk s0 ws), on .tile (checkTile s0 ws),
    on .fab (checkFab s0 s1 ws stack send), on .iso (checkIso s0 s1 ws), on .spw (checkSpw s s0 s1 ws), on .exp (checkExp s1 ws)]

end Sys2Proof.Machine
end

