-- ==== Sys2Proof/Machine/ApplyOps.lean ====
section
/-!
DEFINITION. Sys2Proof/Machine/ApplyOps.lean: what a configuration change does in every block at its apply beat (R23, R40, R48,
R63, R73, R88, R91, R97, R100, R101, R106, R110, R113, R119, R130, R141, R156, R229, R237, R271).
-/
namespace Sys2Proof.Machine
open Sys2Proof

/-- Instances of a family that a list of writes touches. -/
def instances (f : RegFam) (ws : List Wr) : List (Nat × Nat) := (ws.filterMap (fun w => famIndex f w.off)).eraseDups

/-! ### TILE -/

/-- A write of PORTCFG of port n: an attenuation that differs from the one in force is a range change at the apply beat, which
ARC sits out; RX_EN = 0 holds 30 dB (R34, R40). -/
def applyPortCfg (s0 : State) (n : Nat) (s : State) : State :=
  let rx := s.pflag TILE_PORTCFG_RX_EN n
  let was := s0.pflag TILE_PORTCFG_RX_EN n
  let att := if rx then s.pget TILE_PORTCFG_ATT n else 60
  if (rx || was) && att ≠ s.pget TILE_PORTSTAT_ATT_NOW n then
    (rangeChange n att ((s.now - s.align) / Config.convSample) s).modUnit n (fun x => { x with arcSkip := true })
  else s

/-- Rescale link l from s_old to s_new (R110): d = s_old − s_new; a limited tap restarts the estimate. -/
def rescaleLink (d : Int) (l : Nat) (s : State) : State :=
  s.modLink l (fun x =>
    let t := x.taps.map (fun h => (scale2 d h.1, scale2 d h.2))
    let cut := t.any (fun h => clampTap h.1 ≠ h.1 || clampTap h.2 ≠ h.2)
    { x with
      taps := t.map (fun h => (clampTap h.1, clampTap h.2))
      rhobar := if cut then 0 else (scale2 (2 * d) x.rhobar).toNat
      updated := x.updated && !cut })

/-- A write of BANKCFG of port n: a change of prototype or of SBSHIFT (R63, R73, R110). -/
def applyBankCfg (s0 : State) (n : Nat) (s : State) : State :=
  let d : Int := (s0.pget TILE_BANKCFG_SBSHIFT n : Int) - (s.pget TILE_BANKCFG_SBSHIFT n : Int)
  let s1 := if s0.pget TILE_BANKCFG_RX_PROTO n ≠ s.pget TILE_BANKCFG_RX_PROTO n then protoSwitch n s else s
  let s2 := if d ≠ 0 then forAll (s1.liveLinks.filter (fun l => s1.lVictim l = n)) (rescaleLink d) s1 else s1
  relat n (noteBank s0 n s2)

/-- A write of CALFAC word i of tile t: a change of a pipeline delay in word 8 (R63, R73). -/
def applyCalfac (s0 : State) (t i : Nat) (s : State) : State :=
  if i < 240 && i % 40 = 8 then
    let n := 6 * t + i / 40
    let s1 := if loS (s0.calfac t i) ≠ loS (s.calfac t i) then protoSwitch n s else s
    relat n s1
  else s

/-- A write of ORXCFG of tile t: a manual selection switches the input (R48). -/
def applyOrxCfg (t : Nat) (s : State) : State :=
  let sel := s.get TILE_ORXCFG_SEL t
  if s.flag TILE_ORXCFG_MANUAL t && s.get TILE_ORXSTAT_INPUT t ≠ sel then orxSwitchTo t sel s else s

/-- A write of PACFG of port n that takes its amplifier away (R177). -/
def applyPaCfg (s0 : State) (n : Nat) (s : State) : State :=
  if s0.pflag TILE_PACFG_PA_PRESENT n && !s.pflag TILE_PACFG_PA_PRESENT n then paRemoved n s else s

/-- The TILE block at the apply beat. -/
def applyTile (s0 : State) (ws : List Wr) (s : State) : State :=
  let s1 := forAll (instances TILE_PORTCFG ws) (fun x t => applyPortCfg s0 (6 * x.1 + x.2) t) s
  let s2 := forAll (instances TILE_BANKCFG ws) (fun x t => applyBankCfg s0 (6 * x.1 + x.2) t) s1
  let s3 := forAll (instances TILE_CALFAC ws) (fun x t => applyCalfac s0 x.1 x.2 t) s2
  let s4 := forAll (instances TILE_PACFG ws) (fun x t => applyPaCfg s0 (6 * x.1 + x.2) t)
    (forAll (instances TILE_ORXCFG ws) (fun x t => applyOrxCfg x.1 t) s3)
  if instances TILE_BANKCFG ws ≠ [] || instances TILE_CALFAC ws ≠ [] then pathLatencies s4 else s4

/-! ### ISO -/

/-- The state a link starts in: LOST without its slice, FROZEN under FREEZE, else PROBING until the paths have entered TRAINING
(R113, R126). -/
def State.linkStart (s : State) (l : Nat) : Nat :=
  if s.iso.lost.contains (l / 2048) || !s.domainOn (56 + l / 2048) then 5
  else if s.flag ISO_SLICECFG_FREEZE (l / 2048) then 4 else 1

/-- A write of ISO_LCFG of link l: enabled with zero taps, disabled (its seed record is written under SEED), or its taps and
estimates cleared by a change other than of MU (R106, R113, R130). `s0` still holds the old record. -/
def applyLink (s0 : State) (l : Nat) (s : State) : State :=
  let old := s0.word ISO_LCFG l
  let new := s.word ISO_LCFG l
  let was : Bool := getBits old 27 4 ≠ 0
  let is : Bool := getBits new 27 4 ≠ 0
  let zeroed : Link := { st := s.linkStart l, hourFrom := s.opTime }
  if is && !was then
    let t := s.modLink l (fun _ => zeroed)
    if zeroed.st = 5 then latchLost l t else t
  else if was && !is then s.modLink l (fun _ => {})
  else if is && (getBits old 0 27 ≠ getBits new 0 27 || getBits old 31 1 ≠ getBits new 31 1) then
    s.modLink l (fun x => { st := x.st, hourFrom := x.hourFrom })
  else s

/-- Seed records of the links a Volley disables, taken before anything changes (R130). -/
def seedDisabled (ws : List Wr) (s1 s : State) : State :=
  forAll (instances ISO_LCFG ws) (fun x t =>
    if s.flag ISO_LCFG_SEED x.1 && s.get ISO_LCFG_MU x.1 ≠ 0 && s1.get ISO_LCFG_MU x.1 = 0 then startSeed x.1 t else t) s

/-- A link that is PROBING without a covering path in a probe cold start tracks (R113). -/
def settleLink (l : Nat) (s : State) : State :=
  if (s.link l).st = 1 && !s.livePaths.any (fun b => (s.gov b).probe && (s.covering b).contains l) then
    s.modLink l (fun x => { x with st := 3 })
  else s

/-- FREEZE of slice c (R113). -/
def applyFreeze (c : Nat) (s : State) : State :=
  let on := s.flag ISO_SLICECFG_FREEZE c
  forAll (s.liveLinks.filter (fun l => l / 2048 = c)) (fun l t =>
    t.modLink l (fun x => if on && 1 ≤ x.st && x.st ≤ 3 then { x with st := 4 }
      else if !on && x.st = 4 then { x with st := 3 } else x)) s

/-- A write of ISO_CLEAR (R119). -/
def applyClear (v : Word) (s : State) : State :=
  let b := getBits v 0 12
  let k := getBits v 12 2
  let s1 := if k = 0 || k = 2 then clearLockout b s else s
  if k = 1 || k = 2 then clearOffside b s1 else s1

/-! ### FAB -/

/-- ENABLE = 0 on path b: the new path of a crossfade turns it back, and stays enabled until position 0 is reached; any other
path becomes DISABLED with its tail (R88, R91, R101). -/
def applyDisable (s0 : State) (b : Nat) (s : State) : State :=
  match s0.xfOf b with
  | some x =>
    if s0.get FAB_XFPATH_NEW x = b then
      let t := s.put FAB_PCFG0_ENABLE 1 b
      if s.get FAB_XFSTAT_PHASE x = 3 then t else xfReverse x t
    else disablePath true (s0.route b) b s
  | none => disablePath true (s0.route b) b s

/-- The FAB block at the apply beat: paths leave first, crossfades start waiting, and new paths enter TRAINING. -/
def applyFab (s0 : State) (ws : List Wr) (s : State) : State :=
  let ps := (instances FAB_PCFG0 ws).map Prod.fst
  let gone := ps.filter (fun b => (s.path b).st ≠ 0 && !(s.route b).en)
  let s1 := forAll gone (fun b t => applyDisable s0 b t) s
  let moved := ps.filter (fun b => (s1.path b).st ≠ 0 &&
    ((s0.route b).loopEn ≠ (s1.route b).loopEn || (s0.route b).loop ≠ (s1.route b).loop))
  let s2 := forAll moved (fun b t => t.modPath b (fun p => { p with loop := none })) s1
  let started := (xfStarts ws).filter (fun e => s2.get FAB_XFSTAT_PHASE e.1 = 0 && s2.flag FAB_XFCTL_EN e.1)
  let s3 := forAll started (fun e t =>
    { t with fab := { t.fab with xfs := tabSet t.fab.xfs e.1 {} } }.put FAB_XFSTAT_PHASE 1 e.1) s2
  let new := ps.filter (fun b => (s3.path b).st = 0 && (s3.route b).en)
  forAll new enablePath s3

/-! ### The other blocks -/

/-- The SPW block at the apply beat (R141, R156). -/
def applySpw (s0 : State) (ws : List Wr) (s : State) : State :=
  let cut := (List.range 96).filter (fun n =>
    s0.word SPW_PCFG n ≠ s.word SPW_PCFG n || s0.word SPW_PRANGE n ≠ s.word SPW_PRANGE n)
  let s1 := forAll cut (watchCut s0) s
  forAll (List.range 16) (fun x t =>
    match armWritten ws x with
    | some true => if t.snapState x = 0 && t.domainOn 75 then snapArm x t else t
    | some false => if t.snapState x ≠ 0 then snapIdle x t else t
    | none => t) s1

/-- An export port that stops accepting: started and waiting records are dropped; a snapshot slot stays FROZEN (R237). -/
def closeDest (ring : Bool) (d : Nat) (s : State) : State :=
  let (gone, t) := abandon ring d s
  forAll gone (fun w u =>
    let u1 := match w.slot with
      | some x => u.put SPW_SNAPSTAT_STATE 3 x
      | none => u
    match w.cmd with
    | some c => openStatus c u1
    | none => u1) t

/-- The EXP block at the apply beat (R237). -/
def applyExp (s0 : State) (s : State) : State :=
  forAll (List.range 8) (fun e t => if s0.flag EXP_CFG_EN e && !t.flag EXP_CFG_EN e then closeDest false e t else t) s

/-- Apply a list of register writes at the present beat boundary, in every block (R23, R229). -/
def applyWrites (ws : List Wr) (s0 : State) : State :=
  let s1 := withWrites ws (seedDisabled ws (withWrites ws s0) s0)
  let s2 := applyTile s0 ws s1
  let ls := (instances ISO_LCFG ws).map Prod.fst
  let s3 := forAll ls (applyLink s0) s2
  let s4 := applyFab s0 ws s3
  let s5 := forAll ls settleLink s4
  let s6 := forAll ((instances ISO_SLICECFG ws).map Prod.fst) applyFreeze s5
  let s7 := forAll (ws.filter (fun w => (famIndex ISO_CLEAR w.off).isSome)) (fun w t => applyClear w.v t) s6
  let s8 := forAll ((instances ISO_PUL ws).map Prod.fst) applyPul (applyExp s0 (applySpw s0 ws s7))
  if touches .clk ws then kickRadio s8 else s8

/-- The values that writes have left in force. -/
def writtenNow (ws : List Wr) (s : State) : List (Nat × Word) :=
  ws.filterMap (fun w => match rwsAt w.off with
    | some (f, i, j) => some (w.off, if f = TILE_CALFAC then s.calfac i j else s.word f i j)
    | none => none)

/-! ### Streams sent to other devices (R97) -/

/-- FAB registers of the other devices with the writes of a stack Volley added. -/
def peersWith (x : Slot) (own : Nat) (p : Tab (Tab Word)) : Tab (Tab Word) :=
  forAll ((List.range 4).filter (fun j => j ≠ own)) (fun j t =>
    forAll ((x.writesFor j).filter (fun w => blkOf w.off = some .fab)) (fun w u => tabMod u j (fun r => tabInsert w.off w.v r)) t) p

/-- Streams the enabled paths of the other devices take from device `own`. -/
def peerStreams (own : Nat) (p : Tab (Tab Word)) : List (Nat × Nat × Nat) :=
  ((p.map (fun e =>
    let word := fun off : Nat => tabGetD (0 : Word) e.2 off
    (e.2.filterMap (fun r => (famIndex FAB_PCFG0 r.1).map (fun i => i.1))).map (fun b =>
      let o := 0x150000 + 16 * b
      let r : Route := { w0 := word o, w1 := word (o + 4), w2 := word (o + 8), w3 := word (o + 12) }
      if r.en then
        ((r.inputs.filter (fun x => x.2.2 = own)).map (fun x => (List.range r.width).map (fun j => (e.1, x.2.1, r.kIn + j)))).flatten
      else []))).flatten).flatten.eraseDups

end Sys2Proof.Machine
end

