-- ==== Sys2Proof/Machine/VolleyOps.lean ====
section
/-!
DEFINITION. Sys2Proof/Machine/VolleyOps.lean: Volleys from BEGIN to completion: members, COMMIT, validation, stack agreement,
application and ABORT (R199, R220, R224-R231).
-/
namespace Sys2Proof.Machine
open Sys2Proof

/-! ### Members (R224, R225, R227) -/

/-- A BEGIN: a Volley OPEN on the ring ends; the lowest free slot opens, or the ring drains up to the COMMIT (R227). -/
def beginVolley (r tag flags : Nat) (bad : Bool) (s : State) : State :=
  descriptor r (fun t =>
    let u := match t.openOn r with
      | some v => endOpen v stINVALID_FIELD t
      | none => t
    match (List.range 4).find? (fun v => (u.slot v).st = .free) with
    | some v => u.setSlot v { st := .opened, ring := r, cpl := u.get CMD_CFG_CPL r, tag := tag, stack := bitOf flags 0,
                              prot := bitOf flags 1, flagErr := bad || 4 ≤ flags }
    | none => u.modRing .cmd r (fun x => { x with drain := some tag })) s

/-- A member descriptor: its completion slot is given back; outside an OPEN Volley it completes with WRONG_STATE (R217,
R227). `data` none: the host-memory read failed (R224). -/
def addMember (r tag size : Nat) (data : Option Member) (s : State) : State :=
  descriptor r (fun t =>
    match t.openOn r with
    | none => completeCmd r tag stWRONG_STATE t
    | some v =>
      let x := t.slot v
      let t1 := releaseSlot (t.get CMD_CFG_CPL r) t
      if x.tooLarge then t1
      else if 4096 ≤ x.members.length || 262144 < x.bytes + size then t1.setSlot v { x with tooLarge := true }
      else
        match data with
        | none => endOpen v stDMA_ERROR t1
        | some m => t1.setSlot v { x with members := x.members ++ [m], bytes := x.bytes + size }) s

/-- Lead L of a Volley in beats (R226). -/
def Slot.lead (x : Slot) : Nat := if x.prot then 2344 else (if x.stack then 4 else 2) + (x.bytes + 16383) / 16384

/-- Other Volleys in VALIDATING or STAGED, by their apply beats. -/
def State.pendingBeats (s : State) (v : Nat) : List Nat :=
  ((List.range 8).filter (fun w => w ≠ v && ((s.slot w).st = .validating || (s.slot w).st = .staged) &&
    !((s.slot w).st = .validating && (s.slot v).order < (s.slot w).order))).map (fun w => (s.slot w).beat)

/-- The first beat the earliest mode may give (R226). -/
def State.earliestBeat (s : State) (v : Nat) : Nat :=
  (s.pendingBeats v).foldl max ((s.slot v).fBeat + (s.slot v).lead)

/-- The apply beat its mode gives a Volley (R226). -/
def State.modeBeat (s : State) (v : Nat) : Nat :=
  let x := s.slot v
  match x.mode with
  | .beat => x.given
  | .time => s.beatAt (s.tickOf x.given)
  | .earliest | .reserved => s.earliestBeat v

/-- A COMMIT: the Volley goes to VALIDATING; a protected one has rows 1 to 7 of R197 checked now. It ends a drain with BUSY, in
the slot its BEGIN reserved (R226, R227, R197). -/
def commitVolley (r tag : Nat) (bad : Bool) (op : CommitOp) (s : State) : State :=
  if s.nextRing ≠ some r then s
  else if s.validatingOn r && (s.openOn r).isSome then s.modRing .cmd r (fun x => { x with held := true })
  else
    let t := fetch r s
    let head := t.get CMD_STAT_INDEX r
    if t.draining r then
      let u := releaseSlot (t.get CMD_CFG_CPL r) (t.modRing .cmd r (fun x => { x with drain := none }))
      writeCpl (u.get CMD_CFG_CPL r) { tag := tag, status := stBUSY, ring := r, volley := true, head := head } u
    else
      match t.openOn r with
      | none => completeCmd r tag stWRONG_STATE t
      | some v =>
        let x := t.slot v
        let mode : ApplyMode := match op.mode.val with
          | 0 => .earliest | 1 => .beat | 2 => .time | _ => .reserved
        let given := if mode = .beat then op.beat.toNat else op.sec.toNat * 2 ^ 32 + op.frac.toNat
        let y := { x with
          st := .validating, cTag := tag, cHead := head, flagErr := x.flagErr || bad, mode := mode
          nextBeat := op.nextBeat, given := given, fBeat := t.beatNow, order := t.hif.orderNext }
        let u := { releaseSlot (t.get CMD_CFG_CPL r) t with
          hif := { (releaseSlot (t.get CMD_CFG_CPL r) t).hif with orderNext := t.hif.orderNext + 1 } }.setSlot v y
        let w := u.setSlot v { y with beat := u.modeBeat v }
        if y.prot && !y.tooLarge then lockCommit v ((w.put PST_STAT_PROV_N (bit (op.provN || !w.ioOk 0))).put PST_STAT_LOCK_BUSY 1)
        else w

/-! ### Validation (R228) -/

/-- Refuse the Volley of slot v: completion with the status and the result of R221. -/
def refuseVolley (v st : Nat) (s : State) (index : Nat := volleyLevel) (sid : Nat := 0) : State :=
  completeVolley v (s.slot v).cTag st s (index % 8192 + sid % 4 * 8192)

/-- A protected Volley is refused under R197: LOCK_REFUSED with the status, and in P1 the signatures that fail. -/
def refuseLock (v st sig : Nat) (s : State) : State := emit ev_LOCK_REFUSED 241 (refuseVolley v st s) .none st sig

/-- INTERVAL is refused (R234). -/
def State.badInterval (s : State) (n : Nat) : Bool := n = 0 || 100 < n || s.limHbMax < n

/-- A member fails row 2 of R228. -/
def badMember (s : State) (x : Slot) (m : Member) (i : Nat) : Bool :=
  m.bad || 3 < m.sid || (m.sid ≠ 0 && !x.stack) || m.lock.isSome || (m.words = [] && m.lock.isNone) ||
  (m.writes i).any (fun w => match rwsAt w.off with
    | none => true
    | some (f, _, _) => w.v &&& ~~~(BitVec.ofNat 32 f.rws) ≠ 0 || (f = HIF_HBCFG && s.badInterval (getBits w.v 0 7)))

/-- Rows 2 to 5 of R228: the first refusal. -/
def earlyRows (v : Nat) (s : State) : Option (Nat × Nat) :=
  let x := s.slot v
  let bad := (x.members.zipIdx.filter (fun e => badMember s x e.1 e.2)).map (fun e => some e.2)
  let own := if x.flagErr || x.mode = .reserved then [some volleyLevel] else []
  firstRow [
    refuse stINVALID_FIELD (leastOf (bad ++ own)),
    refuseIf (x.mode = .time && !s.flag TIM_STAT_VALID) stWRONG_STATE,
    refuseIf (x.stack && s.ownSid ≠ 0) stNOT_MASTER,
    refuseIf ((x.mode = .beat || x.mode = .time) && s.modeBeat v < (s.pendingBeats v).foldl max 0) stORDER]

/-- The Volley is late (R226). -/
def State.late (s : State) (v : Nat) : Bool :=
  let x := s.slot v
  (x.mode = .beat || x.mode = .time) && s.modeBeat v < x.fBeat + x.lead

/-- The apply beat after the late policy: under APPLY_NEXT_BEAT a late Volley takes the earliest beat, a protected one the first
after its journal is sealed, shown as 0 until then (R199, R226). -/
def State.finalBeat (s : State) (v : Nat) : Nat :=
  if s.late v then (if (s.slot v).prot then 0 else s.earliestBeat v) else s.modeBeat v

/-- Stage the Volley of slot v at its apply beat. -/
def stage (v : Nat) (s : State) : State := s.setSlot v { s.slot v with st := .staged, beat := s.finalBeat v }

/-- Devices a stack Volley names, the master included (R231). -/
def Slot.named (x : Slot) : List Nat := (List.range 4).filter (fun j => j = 0 || x.members.any (fun m => m.sid = j))

/-- Send PREPARE to every device named; the master's own part is checked at once (R231). -/
def prepare (v : Nat) (s : State) : State :=
  let x := s.slot v
  let peers := peersWith x s.ownSid s.qlk.peers
  let send := peerStreams s.ownSid peers
  let own := x.writesFor s.ownSid
  let answer := match blockChecks s own true send with
    | none => 0
    | some (st, i) => st + 65536 * i
  let t := s.setSlot v { x with beat := s.finalBeat v, send := send, answers := tabSet [] s.ownSid (some answer) }
  forAll (x.named.filter (fun j => j ≠ s.ownSid)) (fun j u =>
    sendMsg (u.linkTo j) .prepare (v :: (t.slot v).beat :: ((x.writesFor j).map (fun w => [w.off, w.v.toNat])).flatten) u) t

/-- A Volley in VALIDATING is checked (R228); a stack Volley that passes is sent for agreement. -/
def volleyValidation (v : Nat) (s : State) : State :=
  let x := s.slot v
  if x.st ≠ .validating || x.answers ≠ [] || 4 ≤ v then s
  else if x.tooLarge then refuseVolley v stTOO_LARGE s
  else if x.prot then
    match x.early with
    | some st => refuseLock v st 0 s
    | none =>
      let sig := s.sigFails v
      if sig ≠ 0 then refuseLock v stSIGNATURE_INVALID sig s
      else if s.late v && !x.nextBeat then refuseVolley v stLATE s
      else stage v s
  else
    match earlyRows v s with
    | some (st, i) => refuseVolley v st s i
    | none =>
      if x.stack then
        if s.late v && !x.nextBeat then
          match blockChecks s (x.writesFor s.ownSid) true (peerStreams s.ownSid (peersWith x s.ownSid s.qlk.peers)) with
          | some (st, i) => refuseVolley v st s i
          | none => refuseVolley v stLATE s
        else prepare v s
      else
        match blockChecks s (x.writesFor 0) false s.fab.sends with
        | some (st, i) => refuseVolley v st s i
        | none => if s.late v && !x.nextBeat then refuseVolley v stLATE s else stage v s

/-! ### Application (R229, R199) -/

/-- A signed change takes effect; one of RPS_CFG starts or stops the rack logic as a write of it does (R199, R341). -/
def lockInForce (kind : Nat) (entries : List (Nat × List Nat)) (gen : Nat) (s : State) : State :=
  let t := lockTakeEffect kind entries gen s
  let u := forAll (entries.filter (fun e => 131 ≤ e.1 && e.1 < 163)) (fun e v => cmpMoved s (e.1 - 131) v) t
  if entries.any (fun e => e.1 = 195) then rpsEnWritten (s.flag RPS_CFG_EN) u else u

/-- The STAGED Volley that applies next: the lowest apply beat, in the order of the COMMITs (R229). -/
def State.nextStaged (s : State) : Option Nat :=
  let l := s.stagedOrder.filter (fun w => !(s.slot w).applied && (s.slot w).beat ≠ 0)
  (l.mergeSort (fun a b => (s.slot a).beat ≤ (s.slot b).beat)).head?

/-- The apply beat of slot v: its writes take effect in every block. An ordinary Volley completes; a protected one takes effect
once its journal is sealed, and completes when its pages are written; a stack Volley completes by agreement (R199, R227,
R229, R231). A part held for the master (slots 4-7) has no completion of its own. -/
def volleyApply (v : Nat) (s : State) : State :=
  let x := s.slot v
  if x.st ≠ .staged || s.nextStaged ≠ some v then s
  else
    let s1 := s.moveTo (s.beatTick x.beat)
    if x.prot then
      if x.sealedAt.isNone then s
      else
        let r := x.record.getD []
        lockInForce (recKind r) (recEntries r) (s1.get PST_LOCKGEN_GEN + 1) (s1.setSlot v { x with applied := true })
    else
      let ws := x.writesFor (if x.stack then s.ownSid else 0)
      let s2 := if x.stack then
          { s1 with fab := { s1.fab with sends := x.send }
                    qlk := { s1.qlk with peers := if v < 4 then peersWith x s.ownSid s1.qlk.peers else s1.qlk.peers } }
        else s1
      let s3 := refreshPast (1024 * x.beat) (applyWrites ws s2)
      let s4 := sendMirror (writtenNow ws s3) s3
      if 4 ≤ v then s4.setSlot v {}
      else if x.stack then s4.setSlot v { s4.slot v with applied := true }
      else completeVolley v x.cTag stSUCCESS s4 (x.beat % 2 ^ 32)

/-! ### The agreement of a stack Volley (R231) -/

/-- A device answers a PREPARE: READY (status 0) or a refusal with its member index. -/
def stackReady (v sid status index : Nat) (s : State) : State :=
  let x := s.slot v
  if x.st ≠ .validating || !x.stack || x.answers = [] || !x.named.contains sid then s
  else s.setSlot v { x with answers := tabSet x.answers sid (some (status + 65536 * index)) }

/-- At A − 2 the master decides: GO when every device is READY; else ABORT, with the refusal of the lowest SID, or UNREACHABLE
for a silent device. -/
def stackGoDecision (v : Nat) (s : State) : State :=
  let x := s.slot v
  if x.st ≠ .validating || !x.stack || x.answers = [] then s
  else
    let s1 := s.moveTo (s.beatTick (x.beat - 2))
    let others := x.named.filter (fun j => j ≠ s.ownSid)
    match x.named.find? (fun j => (tabGet x.answers j : Option Nat) ≠ some 0) with
    | none =>
      let s2 := forAll others (fun j t => sendMsg (t.linkTo j) .go [v] t) s1
      s2.setSlot v { x with st := .staged, goSent := true, acks := tabSet [] s.ownSid true }
    | some j =>
      let s2 := forAll others (fun k t => sendMsg (t.linkTo k) .abort [v] t) s1
      match (tabGet x.answers j : Option Nat) with
      | some a => refuseVolley v (a % 65536) s2 (a / 65536) j
      | none => refuseVolley v stUNREACHABLE s2 volleyLevel j

/-- A member device receives its part of a stack Volley: it runs row 6 against its own state, and holds READY or answers with a
status. -/
def stackPrepare (slot beat mode given : Nat) (offs : List (Nat × Word)) (sends : List (Nat × Nat × Nat)) (s : State) : State :=
  if s.ownSid = 0 then s
  else
    let own := s.ownSid
    let ms : List Member := offs.map (fun e => { sid := own, off := e.1, words := [e.2] })
    let m : ApplyMode := match mode with
      | 1 => .beat | 2 => .time | _ => .earliest
    let part : Slot := { st := .validating, stack := true, members := ms, beat := beat, mode := m, given := given, send := sends
                         order := s.hif.orderNext, answers := tabSet [] own (some 0) }
    match blockChecks s (part.writesFor own) true sends with
    | some (st, i) => sendMsg (s.linkTo 0) .ready [slot, own, st, i] s
    | none =>
      sendMsg (s.linkTo 0) .ready [slot, own, 0, 0]
        ({ s with hif := { s.hif with orderNext := s.hif.orderNext + 1 } }.setSlot (4 + slot) part)

/-- GO before A − 1: the device stages its part and acknowledges. -/
def stackGo (slot : Nat) (s : State) : State :=
  let x := s.slot (4 + slot)
  if x.st ≠ .validating || s.beatTick (x.beat - 1) ≤ s.now then s
  else sendMsg (s.linkTo 0) .ack [slot, s.ownSid] (s.setSlot (4 + slot) { x with st := .staged })

/-- ABORT from the master: the part is dropped. -/
def stackAbort (slot : Nat) (s : State) : State :=
  if (s.slot (4 + slot)).st = .validating then s.setSlot (4 + slot) {} else s

/-- READY held without GO at A − 1: the part is discarded, STACK_VOLLEY_DISCARD. -/
def stackDiscard (slot : Nat) (s : State) : State :=
  let x := s.slot (4 + slot)
  if x.st ≠ .validating then s
  else emit ev_STACK_VOLLEY_DISCARD 210 ((s.moveTo (s.beatTick (x.beat - 1))).setSlot (4 + slot) {})

/-- A device acknowledges GO. -/
def stackAck (v sid : Nat) (s : State) : State :=
  let x := s.slot v
  if !x.goSent then s else s.setSlot v { x with acks := tabSet x.acks sid true }

/-- The end of a stack Volley that has applied: SUCCESS with every acknowledgement, else SPLIT at A + 1. -/
def stackCompletion (v : Nat) (s : State) : State :=
  let x := s.slot v
  if !x.applied || !x.stack then s
  else
    let got := fun j : Nat => (tabGet x.acks j : Bool)
    if x.named.all got then completeVolley v x.cTag stSUCCESS s (x.beat % 2 ^ 32)
    else
      let s1 := s.moveTo (s.beatTick (x.beat + 1))
      emit ev_VOLLEY_SPLIT 210 (completeVolley v x.cTag stSPLIT s1 (bitsOf 4 got))

/-! ### ABORT (R227) -/

/-- ABORT: of the Volley OPEN on its ring, or of the most recently committed STAGED Volley, neither protected nor stack, before
beat A − 2. -/
def abortVolley (r tag : Nat) (bad opened : Bool) (slot : Nat) (s : State) : State :=
  descriptor r (fun t =>
    match t.openOn r with
    | some v =>
      if opened && !bad then completeCmd r tag stSUCCESS (endOpen v stABORTED t)
      else completeCmd r tag stWRONG_STATE (endOpen v stINVALID_FIELD t)
    | none =>
      if bad then completeCmd r tag stINVALID_FIELD t
      else
        let x := t.slot slot
        if !opened && (t.stagedOrder.filter (fun w => w < 4)).getLast? = some slot && !x.prot && !x.stack && t.beatNow + 2 < x.beat then
          completeCmd r tag stSUCCESS (completeVolley slot x.cTag stABORTED t)
        else completeCmd r tag stWRONG_STATE t) s

end Sys2Proof.Machine
end

