-- ==== Sys2Proof/Machine/HostOps.lean ====
section
/-!
DEFINITION. Sys2Proof/Machine/HostOps.lean: the host interface outside Volleys: doorbells, ring enable and disable, interrupts,
heartbeat and host loss, export ports, and the PCI Express link (R211-R219, R232-R241, R244).
-/
namespace Sys2Proof.Machine
open Sys2Proof

/-- A write of the host over the PCI Express link: lost while the link is down. -/
def hostWrite (f : State → State) (s : State) : State := if s.hif.linkUp then f s else s

/-- The firmware runs (R394). -/
def State.running (s : State) : Bool := s.get GLB_BOOTSTAT_STAGE = 3

/-- A BAR0 write outside the GLB block: discarded and counted until the firmware runs (R394). -/
def bar0Write (off : Nat) (f : State → State) (s : State) : State :=
  hostWrite (fun t => if t.running then f t else discard off false t) s

/-! ### Doorbells (R218, R219, R223) -/

/-- Posted stream buffers enter their entries from index `i` on (R223). -/
def postBuffers (r : Nat) (bufs : List (Nat × Nat)) (i : Nat) (s : State) : State :=
  forAll bufs.zipIdx (fun e t =>
    { t with hif := { t.hif with
      str := tabSet t.hif.str (ekey r ((i + e.2) % t.depth .str r)) { addr := e.1.1, len := e.1.2 } } }) s

/-- Stream ring r after a write of its tail: where an error has stopped the ring, what had started on it is abandoned and what
waited for it is dropped (R237). -/
def afterTail (r : Nat) (s t : State) : State :=
  if !s.flag STR_STAT_STOPPED r && t.flag STR_STAT_STOPPED r then closeDest true r t else t

/-- Stream ring r tail: the entries between the old and the new tail are posted, and records that wait resume; a buffer below
4,096 bytes is a ring error, and so is a read of the entries from host memory that fails (R219, R223, R247). -/
def streamTail (r v : Nat) (bufs : Option (List (Nat × Nat))) (s : State) : State :=
  let old := (s.ring .str r).other
  afterTail r s (doorbell .str r v (0xA00 + 0x40 * r) (fun t =>
    let n := used (t.depth .str r) old v
    match bufs with
    | none => ringError .str r 2 t
    | some l =>
      if (l.take n).any (fun b => b.2 < 4096) then ringError .str r 1 t else pump (postBuffers r (l.take n) old t)) s)

/-! ### Ring configuration (R215) -/

/-- The ring whose CFG register an offset addresses. -/
def ringAt (off : Nat) : Option (RKind × Nat) :=
  match famIndex CMD_CFG off, famIndex CPL_CFG off, famIndex EVT_CFG off, famIndex STR_CFG off with
  | some (i, _), _, _, _ => some (.cmd, i)
  | _, some (i, _), _, _ => some (.cpl, i)
  | _, _, some (i, _), _ => some (.evt, i)
  | _, _, _, some (i, _) => some (.str, i)
  | _, _, _, _ => none

/-- CFG family of a ring kind. -/
def cfgFam : RKind → RegFam
  | .cmd => CMD_CFG | .cpl => CPL_CFG | .evt => EVT_CFG | .str => STR_CFG

/-- Put the writable bits of the CFG of a ring. -/
def putCfg (k : RKind) (i : Nat) (v : Word) (s : State) : State :=
  s.putWord (cfgFam k) (v &&& BitVec.ofNat 32 (cfgFam k).rw) i

/-- A ring enabled with a bad configuration stays disabled with ERR = 3, and RING_ERROR is raised (R215, R247). -/
def badConfig (k : RKind) (i : Nat) (s : State) : State :=
  emit ev_RING_ERROR (if k = .cmd then 192 + i else 208) ((s.put (fEN k) 0 i).put (fERR k) 3 i) .none 0 (pack2 (rkCode k) i)

/-- A write of CFG with EN = 1: discarded while the ring is enabled; a bad configuration leaves it disabled with ERR = 3; else it
starts with both indices at 0 (R215). -/
def ringEnable (k : RKind) (i off : Nat) (v : Word) (s : State) : State :=
  if s.flag (fEN k) i then discard off false s
  else
    let t := putCfg k i v s
    let n := t.get (fLOG2D k) i
    if n < 4 || 16 < n || (t.ring k i).badBase then badConfig k i t
    else
      ((((t.put (fINDEX k) 0 i).put (fERR k) 0 i).put (fSTOPPED k) 0 i)).modRing k i (fun r =>
        { r with other := 0, pass := 0, unsig := 0, sigAt := none, servedAt := t.now, held := false, drain := none })

/-- A write of CFG with EN = 0: what is OPEN on a command ring ends, and the records of a stream ring are abandoned (R215, R227,
R237). -/
def ringDisable (k : RKind) (i : Nat) (v : Word) (s : State) : State :=
  let t := match k with
    | .cmd => endRingVolley i s
    | .str => closeDest true i s
    | .cpl | .evt => s
  (putCfg k i v t).modRing k i (fun r => { r with unsig := 0, sigAt := none })

/-- A BAR0 write of a ring's CFG. -/
def cfgWrite (off : Nat) (v : Word) (s : State) : State :=
  match ringAt off with
  | none => s
  | some (k, i) => if getBits v 0 1 = 1 then ringEnable k i off v s else ringDisable k i v s

/-! ### Interrupts (R213, R244) -/

/-- Issue the pending vectors that may be issued now (R213). -/
def flushPending (s : State) : State :=
  if !s.hif.masterEn then s
  else forAll (List.range 64) (fun v t =>
    if bitOf (t.get MSIX_PBA_PENDING (v / 32)) (v % 32) && !bitOf (t.get MSIX_CTL_V v) 0 then
      let u := t.put MSIX_PBA_PENDING (t.get MSIX_PBA_PENDING (v / 32) - 2 ^ (v % 32)) (v / 32)
      { u with hif := { u.hif with msi := tabSet u.hif.msi v (tabGet u.hif.msi v + 1) } }
    else t) s

/-- ITIME of a ring expires with entries not yet signalled (R244). -/
def interruptTimer (k : RKind) (i : Nat) (s : State) : State :=
  match (s.ring k i).sigAt with
  | none => s
  | some t => signalRing k i (s.moveTo t)

/-! ### Heartbeat and host loss (R232, R233) -/

/-- The effective interval, ms (R232). -/
def State.hbInterval (s : State) : Nat := min (s.get HIF_HBCFG_INTERVAL) s.limHbMax

/-- The heartbeat doorbell: supervision is armed, and the first one after a loss is reported (R232, R233). -/
def heartbeat (s : State) : State :=
  let resumed : Bool := s.hif.lost && !s.hif.beatSince
  let t := { s with hif := { s.hif with armed := true, hbAt := s.now, beatSince := s.hif.lost } }
  if resumed then emit ev_HOST_RESUMED 209 t else t

/-- The host is lost: LOST, MISSES, HOST_LOST, and every OPEN Volley ends (R233). -/
def hostLoss (s : State) : State :=
  let t := { s with hif := { s.hif with lost := true, beatSince := false, misses := satInc 16 s.hif.misses } }
  forAll (List.range 16) endRingVolley (emit ev_HOST_LOST 209 t)

/-- No heartbeat has come for longer than the effective interval, seen at the 100 µs grid from VAUX (R232). -/
def heartbeatMissed (s : State) : State :=
  if !s.hif.armed || (s.hif.lost && !s.hif.beatSince) then s
  else
    let due := s.hif.hbAt + s.hbInterval * Config.ms - s.vauxAt
    hostLoss (s.moveTo (s.vauxAt + (due / (100 * Config.us) + 1) * (100 * Config.us)))

/-- A write of HIF_HBSTAT: LOST is cleared once a heartbeat has arrived since the loss, else discarded (R233). -/
def hostLostClear (v : Word) (s : State) : State :=
  if getBits v 1 1 = 1 && s.hif.lost && s.hif.beatSince then { s with hif := { s.hif with lost := false, beatSince := false } } else s

/-! ### Records and export ports (R236-R240) -/

/-- A waiting record has made no progress for 100 ms: dropped; a snapshot stays FROZEN (R236). -/
def recordTimeout (i : Nat) (s : State) : State :=
  match s.hif.waiting[i]? with
  | none => s
  | some w =>
    if w.bytes.length ≤ w.done then s
    else
      let s1 := s.moveTo (w.since + 100 * Config.ms)
      let s2 := dropWaiting w { s1 with hif := { s1.hif with waiting := s1.hif.waiting.eraseIdx i } }
      let s3 := match w.slot with
        | some x => s2.put SPW_SNAPSTAT_STATE 3 x
        | none => s2
      match w.cmd with
      | some c => openStatus c s3
      | none => s3

/-- The link of export port e comes up or goes down (R237, R247). -/
def exportLink (e : Nat) (up : Bool) (s : State) : State :=
  if (s.exportPort e).link = up then s
  else
    let t := emit ev_EXPORT_LINK (212 + e) (s.modExport e (fun x => { x with link := up }))
    if up then pump t else closeDest false e t

/-- A frame leaves the transmit buffer of port e, unless its priority is paused (R238, R240). -/
def exportTransmit (e : Nat) (s : State) : State :=
  let x := s.exportPort e
  match x.queue with
  | [] => s
  | f :: rest =>
    if !s.exportOpen e || (s.flag EXP_CFG_PFC_EN e && x.paused) then s
    else pump (s.modExport e (fun y => { y with queue := rest, wire := f, sent := y.sent + 1 }))

/-- A priority flow control frame pauses or releases PRIO on port e (R238). -/
def pfcPause (e : Nat) (pause : Bool) (s : State) : State :=
  if s.flag EXP_CFG_PFC_EN e && s.flag EXP_CFG_VLAN e then s.modExport e (fun x => { x with paused := pause }) else s

/-- A frame an export port receives: a priority flow control frame, a time frame, or any other (R238). -/
inductive RxFrame where
  | pfc (pause : Bool)
  | time
  | other
  deriving DecidableEq, Repr

/-- Port e receives a frame: a time frame is read by the time plane on ports 0 and 1 (R264), and every other frame but a
priority flow control frame is discarded (R238). -/
def exportReceive (e : Nat) (f : RxFrame) (s : State) : State := match f with
  | .pfc pause => pfcPause e pause s
  | .time | .other => s

/-! ### The doorbell space BAR2 (R212, R218) -/

/-- A doorbell. -/
inductive Bell where
  | cmd (r : Nat)
  | cpl (c : Nat)
  | evt (e : Nat)
  | str (r : Nat)
  | heartbeat
  deriving DecidableEq, Repr

/-- The doorbell at a BAR2 offset; every other offset is reserved. -/
def bellAt (off : Nat) : Option Bell :=
  if off = 0x1A00 then some .heartbeat
  else if off % 0x40 ≠ 0 then none
  else if off < 0x400 then some (.cmd (off / 0x40))
  else if off < 0x800 then some (.cpl ((off - 0x400) / 0x40))
  else if off < 0xA00 then some (.evt ((off - 0x800) / 0x40))
  else if off < 0x1A00 then some (.str ((off - 0xA00) / 0x40))
  else none

/-- An aligned 32-bit write of a doorbell; `bufs` are the stream entries it posts. -/
def ring (b : Bell) (v : Word) (bufs : Option (List (Nat × Nat))) (s : State) : State := match b with
  | .cmd r => doorbell .cmd r v.toNat (0x40 * r) (fun t => t) s
  | .cpl c => doorbell .cpl c v.toNat (0x400 + 0x40 * c) (fun t => t) s
  | .evt e => doorbell .evt e v.toNat (0x800 + 0x40 * e) (fun t => t) s
  | .str r => streamTail r v.toNat bufs s
  | .heartbeat => heartbeat s

/-- A write of `bytes` bytes in BAR2: a narrower write than 32 bits is discarded, and so is a write of a reserved offset. -/
def bar2Write (off bytes : Nat) (v : Word) (bufs : Option (List (Nat × Nat))) (s : State) : State :=
  match bellAt off with
  | some b => if bytes = 4 then ring b v bufs s else s
  | none => s

/-- A read of BAR2 returns 0. -/
def bar2Read (_off : Nat) : Word := 0#32

/-! ### The PCI Express link (R211, R233, R392) -/

/-- The word of the function's configuration space at a multiple of 4, in the standard header of type 0 (log 158): identity, Bus
Master Enable, revision and class, the types of the base address registers. Their addresses are the host's (log 158). -/
def State.configWord (s : State) (off : Nat) : Word :=
  let f := Config.pciFunction
  let barType := fun (b : Config.Bar) => (if b.bits = 64 then 4 else 0) + bit b.prefetchable * 8
  if off = 0x00 then BitVec.ofNat 32 (f.vendor + f.device * 65536)
  else if off = 0x04 then BitVec.ofNat 32 (bit s.hif.masterEn * 4)
  else if off = 0x08 then BitVec.ofNat 32 (f.revision + f.classCode * 256)
  else match Config.bars.find? (fun b => 0x10 + 4 * b.index = off) with
    | some b => BitVec.ofNat 32 (barType b)
    | none => 0#32

/-- The widths the link trains to (R211). -/
def linkWidths : List Nat := [1, 2, 4, 8, 16]

/-- The link has trained: the endpoint is ready and PERST_N is high (R392). -/
def pcieUp (gen width : Nat) (s : State) : State :=
  if !s.hif.linkReady || !s.boot.perst || !s.domainOn 68 || gen = 0 || Config.pciFunction.maxGen < gen || !linkWidths.contains width then s
  else { s with hif := { s.hif with linkUp := true, gen := gen, width := width } }

/-- The link goes down: the host is lost where supervision is armed (R232). -/
def pcieDown (s : State) : State :=
  if !s.hif.linkUp then s
  else
    let t := { s with hif := { s.hif with linkUp := false, gen := 0, width := 0, masterEn := false } }
    if t.hif.armed && !(t.hif.lost && !t.hif.beatSince) then hostLoss t else t

/-- The host writes Bus Master Enable. -/
def masterEnable (on : Bool) (s : State) : State := flushPending { s with hif := { s.hif with masterEn := on } }

end Sys2Proof.Machine
end

