-- ==== Sys2Proof/Machine/DomOps.lean ====
section
/-!
DEFINITION. Sys2Proof/Machine/DomOps.lean: the 80 power domains: when each is due, the order in which they come on and go off,
and their failure (R361-R364).
-/
namespace Sys2Proof.Machine
open Sys2Proof

/-- The domains that are on while VAUX is valid (R361). -/
def alwaysOn (d : Nat) : Bool := (72 ≤ d && d ≤ 74) || d = 78 || d = 79

/-- The prerequisite of domain d (R361). -/
def domPrereq (d : Nat) : Option Nat :=
  if d < 48 then (if d % 3 = 2 then some (76 + d / 24) else some (d / 3 * 3 + 2))
  else if d < 56 then some (76 + (d - 48) / 4)
  else if d < 64 then some (76 + (d - 56) / 4)
  else if d < 68 then some (76 + (d - 64) / 2)
  else none

/-- The domains whose prerequisite is d. -/
def domDependants (d : Nat) : List Nat := (List.range 68).filter (fun x => domPrereq x = some d)

/-- The five main rails are valid (R361, R393). -/
def State.railsGood (s : State) : Bool := s.boot.good.length = 5

/-- The conditions of its own row hold for domain d, and it has not failed (R361, R363). -/
def State.dueSelf (s : State) (d : Nat) : Bool :=
  let dev := s.rstate 16
  let host := s.bitAt PWR_DOMEN_EN d
  !s.bitAt PWR_DOMFAIL_FAIL d &&
  (alwaysOn d ||
    (s.railsGood && !s.latch &&
      (if d < 48 then decide (2 ≤ s.rstate (d / 3))
       else if d < 56 then 3 ≤ dev && host && !bitOf s.rps.slices (d - 48)
       else if d < 68 || d = 75 then 3 ≤ dev && host
       else if d = 68 then decide (1 ≤ dev)
       else if d < 72 then 1 ≤ dev && host
       else decide (2 ≤ dev))))

/-- Domain d is due on: its own conditions hold, and those of its prerequisite (R361, R363). -/
def State.domDue (s : State) (d : Nat) : Bool :=
  s.dueSelf d &&
  match domPrereq d with
  | none => true
  | some p => s.dueSelf p &&
    match domPrereq p with
    | none => true
    | some q => s.dueSelf q

/-- Domain d beside its bits. -/
def State.dom (s : State) (d : Nat) : Dom := tabGet s.doms d

/-- Change domain d. -/
def State.modDom (s : State) (d : Nat) (f : Dom → Dom) : State := { s with doms := tabMod s.doms d f }

/-- Nothing of domain d is powered: not on, not ramping, its switch open. -/
def State.domOff (s : State) (d : Nat) : Bool := !s.domainOn d && (s.dom d).ramp.isNone && (s.dom d).off.isNone

/-- The order in which domains start (R362). -/
def domOrder : List Nat :=
  [76, 77] ++ (List.range 16).map (fun t => 3 * t + 2) ++
  ((List.range 16).map (fun t => [3 * t, 3 * t + 1])).flatten ++
  [64, 65, 66, 67] ++ (List.range 8).map (fun c => 56 + c) ++ (List.range 8).map (fun w => 48 + w) ++ [75, 68, 69, 70, 71] ++
  [72, 73, 74, 78, 79]

/-- Domain d goes off where it is not due: its clamps are applied, and its switch opens 2 µs later; never before its dependants
(R362). Under the shutdown latch the switches follow the table of R360. -/
def domClose (d : Nat) (s : State) : State :=
  let up := s.domainOn d || (s.dom d).ramp.isSome
  if s.latch || !up || s.domDue d || !(domDependants d).all s.domOff then s
  else (s.putBit PWR_DOMSTAT_ON d false).modDom d (fun x => { x with ramp := none, off := some (s.now + 2 * Config.us) })

/-- Domains that ramp. -/
def State.ramping (s : State) : Nat := ((List.range 80).filter (fun d => (s.dom d).ramp.isSome)).length

/-- Domain d starts where it is due, after its prerequisite, at most eight at once; a ramp takes 20 µs (R362). -/
def domStart (d : Nat) (s : State) : State :=
  let ready := match domPrereq d with
    | none => true
    | some p => s.domainOn p
  if !s.domDue d || !s.domOff d || !ready || 8 ≤ s.ramping then s
  else s.modDom d (fun x => { x with ramp := some (s.now + 20 * Config.us) })

/-- Switch domains off and on as they are due (R361, R362). -/
def domSync (s : State) : State := forAll domOrder domStart (forAll domOrder.reverse domClose s)

/-- Export ports of domain 69 or 70 lose their link; what was to be sent is dropped (R237). -/
def exportsOff (d : Nat) (s : State) : State :=
  forAll ((List.range 4).map (fun i => 4 * (d - 69) + i)) (fun e t =>
    closeDest false e (t.modExport e (fun x => { x with link := false, paused := false, queue := [] }))) s

/-- What the units of a domain do when its power goes (R113, R154, R155, R237, R254, R284; log 105). -/
def unitsOff (d : Nat) (s : State) : State :=
  if 48 ≤ d && d < 56 then watchOff (d - 48) s
  else if 56 ≤ d && d < 64 then
    let t := emit ev_CXL_SLICE_LOST (116 + (d - 56)) s (.slice (d - 56))
    loseSlice (d - 56) t
  else if d = 75 then
    forAll (List.range 16) (fun x t =>
      if t.snapState x = 1 || t.snapState x = 2 then snapIdle x (emit ev_SNAP_ABORT (152 + x) t) else t) s
  else if d = 68 then pcieDown s
  else if d = 69 || d = 70 then exportsOff d s
  else if d = 71 then forAll (List.range 4) linkDown s
  else if d = 76 || d = 77 then
    (s.put CLK_SYNSTAT_LOCK 0 (2 * (d - 76))).put CLK_SYNSTAT_LOCK 0 (2 * (d - 76) + 1)
  else if d = 74 then
    tableMiss 0 (tableMiss 1 ({ s with mea := { s.mea with corrected := false } }.put MEA_STAT_UNIT_OK 0))
  else s

/-- Domain d loses its power: its units, and the crossings into its island (R21). -/
def domEffectOff (d : Nat) (s : State) : State := islandOff d (unitsOff d s)

/-- What the units of a domain do when its clamps are released: crossings of a quarter or slice wait to be pinned at the next
beat boundary (R362), a watch slice starts with the next whole transform (R142), the housekeeping units correct themselves
(R284), a synthesizer calibrated before locks (log 105). -/
def domEffectOn (d : Nat) (s : State) : State :=
  if 64 ≤ d && d < 68 then unpin (0x10 + (d - 64)) s
  else if 56 ≤ d && d < 64 then unpin (0x14 + (d - 56)) (s.put ISO_SLICESTAT_LOST 0 (d - 56))
  else if 48 ≤ d && d < 56 then
    unpin (0x1C + (d - 48)) (forAll ((List.range 12).map (fun i => 12 * (d - 48) + i)) (fun n t =>
      t.modWatch n (fun x => { x with tj := max x.tj ((t.subNow + 2047) / 2048), part := true })) s)
  else if d = 76 || d = 77 then
    forAll [2 * (d - 76), 2 * (d - 76) + 1] (fun q t =>
      if 2 ≤ t.rstate 16 && (t.synth q).cald && (t.synth q).calEnd.isNone then t.put CLK_SYNSTAT_LOCK 1 q else t) s
  else if d = 74 then
    { s with mea := { s.mea with corrected := false, onAt := s.now }, therm := { s.therm with
        scan := 0, quad := [], sensors := s.therm.sensors.map (fun x => (x.1, { x.2 with hist := [] })) } }
  else s

/-- The ramp of domain d completes: the clamps are released (R362). -/
def domRampDone (d : Nat) (s : State) : State :=
  match (s.dom d).ramp with
  | none => s
  | some t =>
    let s1 := ((s.moveTo t).modDom d (fun x => { x with ramp := none })).putBit PWR_DOMSTAT_ON d true
    domEffectOn d s1

/-- The switch of domain d opens: 2 µs after its clamps, or in the shutdown, in time for the rails to follow (R360, R362). -/
def domSwitchOff (d : Nat) (s : State) : State :=
  match (s.dom d).off with
  | some t => domEffectOff d ((s.moveTo t).modDom d (fun x => { x with off := none }))
  | none =>
    if !s.latch || alwaysOn d || s.domOff d || !(domDependants d).all s.domOff then s
    else
      let s1 := s.moveTo (s.therm.downAt - 6 * Config.us)
      let s2 := (s1.moveTo (s1.now + 2 * Config.us)).putBit PWR_DOMSTAT_ON d false
      domEffectOff d (s2.modDom d (fun x => { x with ramp := none }))

/-- Report the failure of domain d, or note that its report was covered (R363, R377). -/
def domReport (d : Nat) (s : State) : State :=
  let c := s.covered 377
  (emit ev_DOMAIN_FAIL 377 s (.domain d) 0 d).modDom d (fun x => { x with unseen := c })

/-- Domain d has no power good: 100 µs after its ramp started, or at any time while it is on; it is switched off with its bit
in PWR_DOMFAIL (R363). -/
def domFail (d : Nat) (s : State) : State :=
  if !s.domainOn d && (s.dom d).ramp.isNone then s
  else
    let s1 := match (s.dom d).ramp with
      | some t => s.moveTo (t + 80 * Config.us)
      | none => s
    let s2 := ((s1.putBit PWR_DOMSTAT_ON d false).putBit PWR_DOMFAIL_FAIL d true).modDom d (fun x => { x with ramp := none, off := none })
    domReport d (if s.domainOn d then domEffectOff d s2 else s2)

/-- A write clears bits of PWR_DOMFAIL: the domains are retried when next due (R363). -/
def domfailClear (i val : Nat) (s : State) : State :=
  let old := s.get PWR_DOMFAIL_FAIL i
  let s1 := s.put PWR_DOMFAIL_FAIL (old &&& (2 ^ 32 - 1 - val % 2 ^ 32)) i
  forAll ((List.range 32).filter (fun b => bitOf val b && 32 * i + b < 80)) (fun b t =>
    t.modDom (32 * i + b) (fun x => { x with unseen := false })) s1

/-- At the close of a shadow the failed domains reported while covered are reported afresh (R377). -/
def standingDomains (s : State) : State :=
  forAll (List.range 80) (fun d t =>
    if (t.dom d).unseen && t.bitAt PWR_DOMFAIL_FAIL d && !t.covered 377 then domReport d t else t) s

/-! ### What a closing shadow reports afresh (R377) -/

/-- A report of event k from source src with P1. -/
def repOf (k : EvKind) (src : Nat) (p1 : Nat := 0) : Report := { src := src, code := k.code, cls := k.cls, p1 := p1 }

/-- One report for each x below n for which `on` holds. -/
def repsOf (n : Nat) (on : Nat → Bool) (r : Nat → Report) : List Report := ((List.range n).filter on).map r

/-- The conditions of the measurement chain and the loop slots that stand, as the reports that name them (R301, R283, R289, R319,
R326, R329). -/
def State.controlConditions (s : State) : List Report :=
  repsOf 64 (s.flag MEA_CMPSTAT_CHK_FAIL ·) (fun c => repOf ev_CMP_CHECK_FAIL (256 + c) (tabGet s.mea.found c)) ++
  (if s.mea.corrected then repsOf 2 (fun u => !s.unitOk u) (fun u => repOf ev_HK_UNIT_FAIL (320 + u)) else []) ++
  repsOf 32 (s.flag MEA_CHSTAT_FALLBACK ·) (fun ch => repOf ev_CH_FALLBACK (322 + ch / 4) ch) ++
  repsOf 5 (s.flag CTE_RAILSTAT_FB_LOST ·) (fun r => repOf ev_RAIL_FB_LOST (336 + r)) ++
  repsOf 5 (s.flag CTE_RAILSTAT_GUARD_UNAVAIL ·) (fun r => repOf ev_RAIL_GUARD_UNAVAIL (336 + r)) ++
  repsOf 48 (fun ch => s.flag PWM_CHSTAT_TRIPPED ch && (s.chGroup ch).isSome)
    (fun ch => repOf { ev_PWM_TRIP with cls := 2 } (352 + (s.chGroup ch).getD 0) ch)

/-- The conditions of rack power that stand (R336, R337, R340, R342, R343, R346, R350). -/
def State.rackConditions (s : State) : List Report :=
  let dev := fun (kind st : Nat) (i : Nat) => s.pmKind i kind && s.get RPS_DEVSTAT_STATE i = st
  let one := fun (on : Bool) (r : Report) => if on then [r] else []
  repsOf 4 (fun g => s.get RPS_SEGCTL_STATE g = 2) (fun g => repOf ev_PMB_SEG_ISOLATED (360 + g)) ++
  repsOf 4 (s.flag RPS_SEGCTL_ALERT_STUCK ·) (fun g => repOf ev_PMB_ALERT_STUCK (360 + g)) ++
  repsOf 28 (dev 1 3) (fun i => repOf ev_RECT_LOST 365 i) ++ repsOf 28 (dev 1 2) (fun i => repOf ev_RECT_FAULT 365 i) ++
  repsOf 28 (dev 2 3) (fun i => repOf ev_POL_LOST 366 i) ++ repsOf 28 (dev 2 2) (fun i => repOf ev_POL_FAULT 366 i) ++
  repsOf 4 (fun k => s.get RPS_STRSTAT_STATE k = 2) (fun k => repOf ev_STRING_EOD (367 + k)) ++
  one (s.get RPS_STAT_STATE = 2 && s.rps.slowAt.isNone && s.sagBelow) (repOf ev_HOLDUP_SLOW 364) ++
  one (s.flag RPS_SHEDSTAT_EXHAUSTED) (repOf ev_SHED_EXHAUSTED 371) ++
  one (s.flag RPS_HOLD_OV_EN && s.get MEA_CMPSTAT_STATE (s.get RPS_HOLD_OV_CMP) = 1) (repOf ev_BUS_OV 372) ++
  one (s.get RPS_STAT_STATE = 1 && !s.rps.ready) (repOf ev_HOLD_NOT_READY 373)

/-- The thermal conditions that stand, and the host's absence (R233, R353, R354, R356, R359, R360). -/
def State.thermConditions (s : State) : List Report :=
  repsOf 56 (fun x => (s.sensor x).broken) (fun i => repOf ev_SENSOR_BROKEN 376 i) ++
  repsOf 56 (fun x => (s.sensor x).rate) (fun i => repOf ev_THERM_RATE 376 i) ++
  repsOf 16 (s.radio.coldCap.contains ·) (fun i => repOf ev_THERM_COLD 376 i) ++
  repsOf 16 (s.radio.blindCap.contains ·) (fun i => repOf { ev_THERM_BLIND with cls := 2 } 376 i) ++
  (if s.therm.single then [repOf ev_THERM_SINGLE 376] else []) ++ (if s.hif.lost then [repOf ev_HOST_LOST 209] else [])

/-- The conditions of the blocks that run through every reset (R377, R398; DEDUCED, log 70). -/
def State.conditions (s : State) : List Report := s.controlConditions ++ s.rackConditions ++ s.thermConditions

/-- The condition that a withheld report without a reaction names still stands (R377; DEDUCED, log 70). -/
def State.stands (s : State) (r : Report) : Bool :=
  let c := r.code
  if c = ev_LINK_PEER_MISMATCH.code then s.flag QLK_LINKSTAT_MISMATCH (r.src - 224)
  else if c = ev_LINK_DOWN.code then decide (s.linkSt (r.src - 224) ≠ 3)
  else if c = ev_REMOTE_INPUT_LOST.code then (s.path r.p0).lostOn.contains (r.p1 / 65536) && s.linkSt (r.p1 / 65536) ≠ 3
  else if c = ev_STACK_MEMBER_LOST.code then !bitOf (s.get QLK_STACKSTAT_PRESENT) r.p1
  else if c = ev_PAIR_LINK_LOST.code then s.role ≠ 0 && s.linkSt 3 ≠ 3
  else if c = ev_SYNTH_DRIFT.code then s.flag CLK_SYNSTAT_DRIFT (r.src - 177)
  else s.conditions.contains r

/-- A loop slot of rail r for which `p` holds. -/
def State.railSlot (s : State) (r : Nat) (p : Nat → Bool) : Option Nat :=
  (List.range 64).find? (fun n => s.kindOf n = 1 && s.destOf n = r && p n)

/-- The following error of slot n stands with FE_ACT, in auto (R317). -/
def State.follows (s : State) (n : Nat) : Bool :=
  s.flag CTE_SLOTCFG_FE_ACT n && s.runOf n = 2 && s.get CTE_SLOTFE_FE_CNT n ≠ 0 && s.get CTE_SLOTFE_FE_CNT n ≤ (s.cslot n).fe

/-- A withheld report of the power side is reported afresh, with its reaction, where its condition stands (R377). -/
def afreshPower (w : Withheld) (s : State) : State :=
  let r := w.rep
  let c := r.code
  if c = ev_HK_UNIT_FAIL.code then
    let u := r.src - 320
    if s.unitOk u && 2 ≤ (s.hk u).bad then react ev_HK_UNIT_FAIL r.src w.area (unitFail u) s else s
  else if c = ev_CMP_CHECK_FAIL.code then
    let k := r.src - 256
    if s.flag MEA_CMPSTAT_CHK_FAIL k && !s.cmpOut k then react ev_CMP_CHECK_FAIL r.src w.area (cmpFail k) s 0 r.p1 else s
  else if c = ev_CH_STOPPED.code then chFallback r.p1 s
  else if c = ev_RAIL_FB_LOST.code then
    let k := r.src - 336
    if (s.railSlot k (fun n => (s.cslot n).safe && (s.cslot n).shedAt.isNone)).isSome && !s.flag CTE_RAILSTAT_FB_LOST k then
      react ev_RAIL_FB_LOST r.src w.area (railShed k) s
    else s
  else if c = ev_RAIL_FOLLOW.code then
    match s.railSlot (r.src - 336) s.follows with
    | some n => react { ev_RAIL_FOLLOW with cls := 2 } r.src w.area (railSafe n) s
    | none => s
  else if c = ev_PWM_TRIP.code then
    if (s.pwmCh r.p1).trip && s.flag PWM_CHCFG_LATCH r.p1 && !s.flag PWM_CHSTAT_TRIPPED r.p1 then
      react { ev_PWM_TRIP with cls := 2 } r.src w.area (fun t => t.put PWM_CHSTAT_TRIPPED 1 r.p1) s 0 r.p1
    else s
  else if c = ev_STRING_EOD.code then
    match (tabGet s.rps.eodSince (r.src - 367) : Option Nat) with
    | some t => if t + Config.sec ≤ s.now then stringEod (r.src - 367) s else s
    | none => s
  else if s.stands r then accept w.area r s else s

/-- A withheld report is reported afresh, with its reaction, where its condition stands (R377). -/
def afresh (w : Withheld) (s : State) : State :=
  let r := w.rep
  let c := r.code
  if c = ev_PATH_SHUTDOWN.code then
    if (s.gov r.p0).m0 + 80000 * Config.subSample ≤ s.now then pathShutdown r.p0 s else s
  else if c = ev_CXL_SLICE_LOST.code then
    if s.domainOn (56 + (r.src - 116)) && !s.iso.lost.contains (r.src - 116) then sliceLost (r.src - 116) s else s
  else if c = ev_ROUTE_ECC_FATAL.code then
    if s.fab.dead.contains (r.src - 112) then s else routeFatal (r.src - 112) s
  else if c = ev_WATCH_SLICE_LOST.code then
    if s.domainOn (48 + (r.src - 144)) then watchLost (r.src - 144) s else s
  else if c = ev_SNAP_ABORT.code then snapAbort (r.src - 152) s
  else if c = ev_STACK_MASTER_LOST.code then
    if s.qlk.orphan && !s.flt.dugout then raise ev_STACK_MASTER_LOST r.src s else s
  else afreshPower w s

/-- The reports whose sources no open shadow covers any more are looked at again (R377). -/
def standingReports (s : State) : State :=
  forAll (s.flt.withheld.filter (fun w => !s.covered w.rep.src)) afresh
    { s with flt := { s.flt with withheld := s.flt.withheld.filter (fun w => s.covered w.rep.src) } }

/-- After shadows have closed every condition that still stands is reported afresh (R377). -/
def standing (s : State) : State := standingReports (standingDomains (standingSynths (standingPorts s)))

/-- After a reset the blocks that have kept running report every condition that stands, reported before or not (R398). -/
def standingReset (s : State) : State :=
  forAll (s.conditions.filter (fun r => !(s.flt.withheld.map Withheld.rep).contains r)) (accept .none) (standing s)

/-- The main rails go: every domain that hangs on them is off at once (R361). -/
def domAllOff (s : State) : State :=
  forAll (domOrder.reverse.filter (fun d => !alwaysOn d)) (fun d t =>
    if t.domOff d then t
    else
      let was := t.domainOn d || (t.dom d).off.isSome
      let t1 := (t.putBit PWR_DOMSTAT_ON d false).modDom d (fun x => { x with ramp := none, off := none })
      if was then domEffectOff d t1 else t1) s

end Sys2Proof.Machine
end

