-- ==== Sys2Proof/Machine/StartOps.lean ====
section
/-!
DEFINITION. Sys2Proof/Machine/StartOps.lean: start-up, the main rails, firmware, SLEEP and wake, the resets, and the loss and
return of VAUX (R392-R401); and `settled` and `powered`, which end every command.
-/
namespace Sys2Proof.Machine
open Sys2Proof

/-! ### The main rails (R393) -/

/-- The order in which the rails rise: VANH, VANA, VSER, VCORE, VIO. -/
def railOrder : List Nat := [3, 2, 1, 0, 4]

/-- The rail at a position of the order. -/
def railAtPos (k : Nat) : Nat := railOrder.getD k 0

/-- Voltage of a rail as its filter channel shows it: codes of 31.25 µV in units of 2^−8, VANH divided by 2 (R280, R327). -/
def railFull (r : Nat) : Nat := [24000, 27200, 32000, 28800, 38400].getD r 0 * 256

/-- Loop slot of a rail. -/
def railSlot (r : Nat) : Nat := 59 + r

/-- Write a register from the rail profile, with the fields the manual names on top. -/
def profileWrite (f : RegFam) (i j : Nat) (top : Word → Word) (s : State) : State :=
  s.putWord f (top (Config.railProfile (regOff f i j) &&& BitVec.ofNat 32 f.rw)) i j

/-- The rail profile of one rail: its slot, its filter channel, SAFE_DUTY and its phases (R393). -/
def railProfileOf (r : Nat) (s : State) : State :=
  let n := railSlot r
  let cfg := fun w : Word => setBits (setBits (setBits w 0 2 0) 3 12 (1 + r * 8)) 15 10 ((27 + r) * 4)
  let s1 := profileWrite CTE_SLOTCFG n 0 cfg s
  let s2 := forAll [CTE_SLOTTIM, CTE_SLOTUMIN, CTE_SLOTUMAX, CTE_SLOTFE] (fun f t => profileWrite f n 0 id t) s1
  let s3 := coefCopy n (forAll (List.range 5) (fun j t => profileWrite CTE_SLOTCOEF n j id t) s2)
  let s4 := profileWrite MEA_CHCFG (27 + r) 0 (fun w => setBits w 0 1 1) s3
  let s5 := profileWrite CTE_RAILSAFE r 0 id s4
  let (first, cnt) := railPhases r
  forAll ((List.range cnt).map (fun i => first + i)) (fun c t => profileWrite PWM_CHCFG c 0 (fun w => setBits w 0 1 1) t) s5

/-- At POWER-ON the island writes the rail profile, and the feedback entries of U1's sequence table (R393). -/
def writeProfile (s : State) : State :=
  let s1 := forAll railOrder railProfileOf s
  let s2 := forAll (List.range 32) (fun i t => profileWrite MEA_SEQ 1 i id t) s1
  profileWrite MEA_UCFG 1 0 (fun w => setBits w 0 1 1) s2

/-- Rail at position k starts: its slot in auto from MANUAL = 0, its set-point at 0 (R393). -/
def railBegin (k : Nat) (s : State) : State :=
  let r := railAtPos k
  let n := railSlot r
  let s1 := ((s.setMan n 0).put CTE_SLOTSP_SP 0 n).put CTE_RAILCFG_EN 1 r
  let s2 := slotCfgWrite n (setBits (s1.word CTE_SLOTCFG n) 0 2 3).toNat s1
  { s2 with boot := { s2.boot with rail := some k, step := 0, rampAt := s2.now } }

/-- The rails start to rise. -/
def startRails (s : State) : State :=
  railBegin 0 { s with boot := { s.boot with good := [], downAt := none, failed := false } }

/-- Rail r stops: its slot is stopped, and its outputs are low. -/
def railStop (r : Nat) (s : State) : State := slotStop (railSlot r) (s.put CTE_SLOTCFG_ENABLE 0 (railSlot r))

/-- The next of the 40 steps of the set-point is written, 25 µs after the last one (R393). -/
def railRampStep (s : State) : State :=
  match s.boot.rail with
  | none => s
  | some k =>
    if 40 ≤ s.boot.step || s.latch then s
    else
      let s1 := s.moveTo (s.boot.rampAt + 25 * Config.us)
      let r := railAtPos k
      let n := s1.boot.step + 1
      { s1 with boot := { s1.boot with step := n, rampAt := s1.now } }.put CTE_SLOTSP_SP (railFull r / 40 * n) (railSlot r)

/-! ### Calibration factors at VANA (R52, R206) -/

/-- Residual sets go. -/
def noResid (e : Nat × Unit) : Nat × Unit := (e.1, { e.2 with bgc := [] })

/-- What port and ORx state of a unit a reset returns to its start (R398). -/
def unitReset (e : Nat × Unit) : Nat × Unit :=
  (e.1, { e.2 with
    history := [], storms := [], stormFrom := none, recalAt := none, quiet := 0, comp := [], compAtt := 0x3C, seams := [],
    atts := [], attBase := 0x3C, spans := [], bgc := [], arcMax := none, arcSkip := false, atMaxBeat := none })

/-- A synthesizer beside what a reset abandons. -/
def synthReset (e : Nat × Synth) : Nat × Synth :=
  (e.1, { cald := e.2.cald, temp := e.2.temp, calTemp := e.2.calTemp, holdTill := e.2.holdTill })

/-- CALFAC and the background residual sets are loaded from the newer valid bank, or from the factory area (R43, R52, R206). -/
def loadCalfac (s : State) : State :=
  let s1 := forAll [0, 1] (fun i t =>
    if !t.bankBlank i && !(t.bank i).valid then emit ev_CAL_BANK_FAIL 242 t .none 0 i else t) s
  let bare := s1.regs.tile.filter (fun e => (famIndex TILE_CALFAC e.1).isNone)
  let s2 := { s1 with regs := { s1.regs with tile := bare } }
  let clear := fun (t : State) => { t with units := t.units.map noResid }
  let s3 := match s2.newerBank with
    | some i =>
      let b := s2.bank i
      let load := forAll b.fac.zipIdx (fun e t => t.setCalfac (e.2 / 256) (e.2 % 256) e.1) (clear s2)
      let t := load.put PST_STAT_CAL_SRC i
      forAll b.resid (fun e u => u.modUnit (e.1 / 8) (fun x =>
        { x with bgc := tabSet x.bgc (e.1 % 8) { resid := e.2, trained := true } })) (t.put PST_CALSEQ_SEQ b.seq)
    | none => emit ev_CAL_FACTORY 242 (((clear s2).put PST_STAT_CAL_SRC 2).put PST_CALSEQ_SEQ 0)
  pathLatencies (forAll (List.range 96) (fun n t => relat n (t.pput TILE_PORTSTAT_BGC_CONV n 0)) s3)

/-! ### STANDBY (R392, R395) -/

/-- The device and every tile reach STANDBY with the rails good: 40 ms after a wake, else 0.5 ms after the last rail; beat 0 of
the grid after a reset, and the start of the count of device time (R169, R265, R392, R395; log 107). -/
def standby (s : State) : State :=
  let s1 := s.moveTo (match s.boot.wakeAt with
    | some t => t + 40 * Config.ms
    | none => s.now + 500 * Config.us)
  let s2 := if s1.boot.regrid then { s1 with align := s1.now } else s1
  let s3 := { s2 with boot := { s2.boot with wakeAt := none, regrid := false } }
  let s4 := if s3.tim.run then s3 else { s3 with tim := { s3.tim with run := true, base := 0, since := s3.now } }
  let s5 := forAll (16 :: List.range 16) (fun u t => if t.rstate u = 0 then setRstate u 1 t else t) s4
  kickRadio (sleepComparators false (if s5.get GLB_BOOTSTAT_STAGE = 1 then s5.put GLB_BOOTSTAT_STAGE 2 else s5))

/-- The rail that ramps has held ±3 % for 50 µs: it is good, and the next one starts; after VANA, CALFAC is loaded; after the
last, STANDBY follows (R393). -/
def railGood (s : State) : State :=
  match s.boot.rail with
  | none => s
  | some k =>
    if s.boot.step < 40 || s.latch then s
    else
      let r := railAtPos k
      let s1 := s.moveTo (s.boot.rampAt + 50 * Config.us)
      let s2 := { s1 with boot := { s1.boot with good := s1.boot.good ++ [r], rail := none } }
      let s3 := if r = 2 then loadCalfac s2 else s2
      if k = 4 then standby s3 else railBegin (k + 1) s3

/-- A rail-up has failed, and every rail is down: SLEEP until a wake source (R393). -/
def sleepFailed (s : State) : State :=
  let s1 := { s with boot := { s.boot with failed := true, downAt := none, good := [], rail := none, wakeAt := none } }
  let s2 := s1.put CLK_RCFG_TARGET 0
  sleepComparators true (forAll (16 :: List.range 16) (fun u t => setRstate u 0 (t.setStep u {})) s2)

/-- A rail is not good 2 ms after its ramp: the rails already up are ramped down in reverse order, 1 ms each (R393). -/
def railTimeout (s : State) : State :=
  match s.boot.rail with
  | none => s
  | some k =>
    if s.boot.step < 40 || s.latch then s
    else
      let r := railAtPos k
      let s1 := railStop r (s.moveTo (s.boot.rampAt + 2 * Config.ms))
      let s2 := (s1.put GLB_BOOTSTAT_ERR 4).put GLB_BOOTSTAT_RAIL r
      let s3 := { s2 with boot := { s2.boot with rail := none, failed := true, downAt := some (s2.now + Config.ms) } }
      if s3.boot.good = [] then sleepFailed s3 else s3

/-- The rails are down after a PIN or DEVICE reset: firmware is loaded again and the rails rise (R397). -/
def restart (s : State) : State :=
  startRails ({ s with boot := { s.boot with loading := true, loadAt := s.now, fromHost := false, image := false } }.put
    GLB_BOOTSTAT_STAGE 1)

/-- A rail has ramped down: in the thermal shutdown, or after a failed rail-up or a reset; the next one follows (R360, R393,
R397). -/
def railDownDone (s : State) : State :=
  if s.latch then
    match s.therm.down with
    | none => s
    | some k =>
      if 5 ≤ k then s
      else
        let s1 := if k = 0 then domAllOff (s.moveTo s.therm.downAt) else s
        let s2 := s1.moveTo (s1.therm.downAt + Config.ms)
        let r := railOrder.reverse.getD k 0
        let s3 := railStop r { s2 with
          therm := { s2.therm with down := some (k + 1), downAt := s2.now }
          boot := { s2.boot with good := s2.boot.good.filter (fun x => x ≠ r), rail := none } }
        if k = 4 then forAll (16 :: List.range 16) (fun u t => setRstate u 0 (t.setStep u {})) s3 else s3
  else
    match s.boot.downAt with
    | none => s
    | some t =>
      let s1 := s.moveTo t
      let r := s1.boot.good.getLastD 0
      let s2 := railStop r { s1 with boot := { s1.boot with good := s1.boot.good.dropLast, downAt := some (s1.now + Config.ms) } }
      if s2.boot.good ≠ [] then s2
      else if s2.boot.failed then sleepFailed s2
      else restart { s2 with boot := { s2.boot with downAt := none } }

/-! ### SLEEP (R169, R170) -/

/-- The step to SLEEP completes: seeds are written, the PCI Express link is lost, the rails and their domains are off (R130,
R169, R170). -/
def sleepEntry (s : State) : State :=
  if !(s.radio.dev.active && s.radio.dev.goal = 0) then s
  else
    let s1 := (s.moveTo s.radio.dev.endAt).setStep 16 {}
    let s2 := forAll (s1.liveLinks.filter (fun l => s1.flag ISO_LCFG_SEED l)) startSeed s1
    let s3 := (s2.put CLK_RCFG_TARGET 0).put CLK_RSTAT_MOVING 0
    let s4 := forAll (List.range 16 ++ [16]) (fun u t => setRstate u 0 (t.setStep u {})) s3
    let s5 := forAll (List.range 4) (fun q t => t.put CLK_SYNSTAT_LOCK 0 q) s4
    let s6 := pcieDown { s5 with hif := { s5.hif with linkReady := false } }
    let s7 := domAllOff { s6 with boot := { s6.boot with good := [], rail := none, failed := false } }
    sleepComparators true (forAll (List.range 5) railStop s7)

/-- A wake source has set TARGET to STANDBY: the rails rise (R170, R393). -/
def railSync (s : State) : State :=
  let s1 := if s.rstate 16 = 0 && s.get CLK_RCFG_TARGET ≠ 0 && s.boot.rail.isNone && s.boot.good = [] && s.boot.downAt.isNone &&
      s.boot.island && !s.latch then
    startRails { s with boot := { s.boot with wakeAt := some s.now } } else s
  if s1.boot.regrid && s1.railsGood && s1.rstate 16 = 1 && !s1.radio.dev.active && s1.boot.rail.isNone then
    { s1 with align := s1.now, boot := { s1.boot with regrid := false } }
  else s1

/-- What settling leaves as it was before: time, the measurement chain, the PWM, rack power, temperatures, calibration, the
persistent store and device time, with the registers of blocks ISO, EXP, MEA, PWM, RPS and PST. -/
def keepSettled (s t : State) : State :=
  { t with
    part := s.part
    now := s.now
    vauxAt := s.vauxAt
    pending := s.pending
    free := s.free
    latch := s.latch
    cal := s.cal
    pst := s.pst
    tim := s.tim
    mea := s.mea
    pwm := s.pwm
    rps := s.rps
    therm := s.therm
    regs := { t.regs with
      iso := s.regs.iso, exp := s.regs.exp, mea := s.regs.mea, pwm := s.regs.pwm, rps := s.regs.rps, pst := s.regs.pst } }

/-- Bring everything derived in line after a change: the rails, the power domains, the radio, the data path, the pair and the
stack. -/
def settled (s : State) : State := keepSettled s (pairSync (holdBound (settle (domSync (railSync s)))))

/-- What the trips, guards and the rack logic leave as it was before. -/
def keepPower (s t : State) : State :=
  { t with
    part := s.part
    now := s.now
    vauxAt := s.vauxAt
    pending := s.pending
    free := s.free
    latch := s.latch
    cal := s.cal
    pst := s.pst
    tim := s.tim
    mea := s.mea
    therm := s.therm
    regs := { t.regs with iso := s.regs.iso, exp := s.regs.exp, mea := s.regs.mea, pst := s.regs.pst } }

/-- The same after a change on the power side: the PWM, the loop slots and the rack first. -/
def powered (s : State) : State := settled (keepPower s (rackSync (powerSync s)))

/-! ### Firmware (R394) -/

/-- An image is refused: WAIT_HOST with the error. -/
def fwRefuse (err : Nat) (s : State) : State :=
  ({ s with boot := { s.boot with loading := false, image := false } }.put GLB_BOOTSTAT_STAGE 4).put GLB_BOOTSTAT_ERR err

/-- The read of the image ends, with its first 16 bytes: "MQFW", version 1, length and security version; BOOT_SPI delivers 50
MB/s (R394). -/
def fwImageRead (ok : Bool) (header : List Nat) (s : State) : State :=
  if !s.boot.loading then s
  else
    let b := fitLen 16 0 header
    let len := ofLe ((b.drop 8).take 4)
    let good : Bool := b.take 5 = [0x4D, 0x51, 0x46, 0x57, 0x01] && len % 4 = 0 && len ≤ 4194304 && 112 ≤ len
    if !ok then fwRefuse (if s.boot.fromHost then 5 else 1) s
    else if !good then fwRefuse 1 s
    else
      let s1 := if s.boot.fromHost then s else s.moveTo (s.boot.loadAt + len * 20 * Config.ticksPerNs)
      { s1 with boot := { s1.boot with loading := false, image := true, loadAt := s1.now, sec := ofLe (b.drop 12) } }

/-- Verification ends, 3 ms after the read: RUNNING, or WAIT_HOST; a persisted RPS_CFG.EN then counts as a write of 1 (R394,
R400). -/
def fwVerifyDone (ok : Bool) (s : State) : State :=
  if !s.boot.image then s
  else
    let s1 := s.moveTo (s.boot.loadAt + 3 * Config.ms)
    if !ok then fwRefuse 2 s1
    else if s1.boot.sec < s1.boot.secMax then fwRefuse 3 s1
    else
      let s2 := { s1 with
        boot := { s1.boot with image := false, secMax := s1.boot.sec }
        rps := { s1.rps with enabling := s1.rps.enabling || (s1.flag RPS_CFG_EN && s1.get RPS_STAT_STATE = 0) } }
      ((s2.put GLB_BOOTSTAT_STAGE 3).put GLB_BOOTSTAT_ERR 0).put GLB_BOOTSTAT_SRC (bit s2.boot.fromHost)

/-- A write of 1 to LOAD in WAIT_HOST: the image is read from host memory (R394). -/
def fwLoad (s : State) : State :=
  if s.get GLB_BOOTSTAT_STAGE ≠ 4 then s
  else
    { s with boot := { s.boot with loading := true, fromHost := true, loadAt := s.now } }.put GLB_BOOTSTAT_STAGE 2

/-! ### The island (R199, R205, R385) -/

/-- The lock and key generations as page 4 in force holds them (R199). -/
def loadGenerations (s : State) : State :=
  (s.put PST_LOCKGEN_GEN (ofLe ((s.lockPage 4).take 4))).put PST_KEYGEN_GEN (ofLe (((s.lockPage 4).drop 4).take 4))

/-- The write of a persistent register that a completed journal makes is counted, from the counter its page holds (R203, R426). -/
def countPage (p : Nat) (s : State) : State :=
  let i := p - 128
  if (persistReg i).isNone then s
  else
    let n := if s.pageBad p then 0 else ofLe (((s.cellBytes p).drop 8).take 4)
    countWrite i { s with pst := { s.pst with counts := tabSet s.pst.counts i n } }

/-- A sealed journal is completed from page 98 and the pages after it, with LOCK_APPLIED; true when it is a Scorebook clear
(R199). -/
def replayJournal (s : State) : Bool × State :=
  let h := s.cellBytes 98
  if s.pageBad 98 || h.headD 0 ≠ 0x5C then (false, s)
  else
    let n := h.getD 1 0
    let kind := h.getD 2 0
    let entries := (List.range n).map (fun e => (ofLe ((h.drop (68 + 2 * e)).take 2), s.cellBytes (99 + e)))
    let s1 := s.setLockPage 4 (if s.pageBad 4 then factoryPage s.part 4 else s.cellBytes 4)
    let s2 := (loadGenerations s1).put PST_LOCKGEN_GEN (ofLe ((h.drop 4).take 4))
    let s3 := if kind = 2 then s2.put PST_KEYGEN_GEN (s2.get PST_KEYGEN_GEN + 1) else s2
    let s4 := forAll entries (fun e t => if 128 ≤ e.1 then countPage e.1 t else t) s3
    let s5 := (lockHome kind entries s4).put PST_STAT_JOURNAL_REPLAYED 1
    (kind = 3, emit ev_LOCK_APPLIED 241 s5 .none 0 (pack2 kind n) (s5.get PST_LOCKGEN_GEN))

/-- Page p has failed its check word (R205). -/
def pageFailed (p cls : Nat) (s : State) : State :=
  emit { ev_PAGE_FAIL with cls := cls } 240 (s.putBit PST_PAGEFAIL_PAGES p true) .none 0 p

/-- The copies of key slot i: one failed copy is repaired, two leave the slot FAILED (R201, R205). -/
def checkKey (i : Nat) (s : State) : State :=
  let p := 2 * i
  let f : Fld := if i = 0 then PST_STAT_OP_KEY else PST_STAT_UMP_KEY
  match s.pageBad p, s.pageBad (p + 1) with
  | true, true => emit ev_KEY_FAILED 241 (pageFailed (p + 1) 2 (pageFailed p 2 (s.put f 2)))
  | false, false => s.put f (bit ((s.cellBytes p).headD 0 = 0xA5))
  | a, _ =>
    let bad := if a then p else p + 1
    let good := if a then p + 1 else p
    let s1 := writePage bad (s.cellBytes good) (pageFailed bad 1 s)
    emit ev_KEY_REPAIRED 241 ((s1.put PST_STAT_KEY_REPAIRED 1).put f (bit ((s.cellBytes good).headD 0 = 0xA5)))

/-- Page p from 4 on: a failed one leaves its factory content in force, and a failed locked page the locks defaulted (R205). -/
def checkPage (p : Nat) (s : State) : State :=
  if !s.pageBad p then s
  else if p ≤ 97 then (pageFailed p 2 s).put PST_STAT_LOCK_DEFAULTED 1
  else pageFailed p 1 s

/-- The content in force of the pages 0 to 97. -/
def loadLocks (s : State) : State :=
  showLimits (loadGenerations (forAll (List.range 98) (fun p t =>
    t.setLockPage p (if t.pageBad p then factoryPage t.part p else t.cellBytes p)) s))

/-- The persistent registers take the values of their pages; the endurance marks follow from the counters (R202, R203, R205). -/
def loadPersist (s : State) : State :=
  forAll (List.range 71) (fun i t =>
    match t.pageCells (128 + i), persistReg i with
    | some c, some (f, j) =>
      if t.pageBad (128 + i) then
        ((({ t with pst := { t.pst with counts := tabSet t.pst.counts i 0 } } : State).putWord f (regReset t.part f j) j).putBit
          PST_WEARWARN_PAGES i false).putBit PST_VOLATILE_PAGES i false
      else
        let n := ofLe ((c.bytes.drop 8).take 4)
        let u := { t with pst := { t.pst with counts := tabSet t.pst.counts i n } }.putWord f
          (BitVec.ofNat 32 (ofLe ((c.bytes.drop 4).take 4) &&& (f.rwp ||| f.rw))) j
        (u.putBit PST_WEARWARN_PAGES i (900000 ≤ n)).putBit PST_VOLATILE_PAGES i (wearLimit ≤ n)
    | _, _ => t) s

/-- The always-on island is ready: the cells found, the journal, the page checks, what is loaded from the pages; Innings;
POWER_UP, after a Scorebook clear where the journal calls for one; firmware load and the rails start (R205, R385, R392-R394). -/
def islandReady (found : List (Nat × List Nat × Nat)) (s : State) : State :=
  if s.boot.island then s
  else
    let s1 := forAll found (fun e t => { t with pst := { t.pst with
      cells := tabSet t.pst.cells e.1 (some { bytes := fitLen 252 0 e.2.1, check := e.2.2 }) } }) s
    let (clear, s2) := replayJournal s1
    let s3 := forAll ((List.range 252).map (fun i => i + 4)) checkPage (checkKey 1 (checkKey 0 s2))
    let s4 := loadPseeds (loadPersist (loadLocks s3))
    let n := s4.pst.innings + 1
    let s5 := { s4 with
      pst := { s4.pst with innings := n }
      flt := { s4.flt with pageCheck := false }
      boot := { s4.boot with island := true, powerUp := clear, loading := true, loadAt := s4.now, fromHost := false } }
    let s6 := (s5.put GLB_INNINGS_COUNT n).put GLB_BOOTSTAT_STAGE 1
    let s7 := if clear then startClear s6 else powerEvent ev_POWER_UP n s6
    startRails (writeProfile s7)

/-- A Scorebook clear completes; the POWER_UP that waited for it is recorded (R385, R388). -/
def sbCleared (s : State) : State :=
  let t := clearDone s
  if t.boot.powerUp && !t.flt.clearing then
    powerEvent ev_POWER_UP (t.get GLB_INNINGS_COUNT) { t with boot := { t.boot with powerUp := false } }
  else t

/-! ### PCI Express (R392, R397) -/

/-- The endpoint is ready for link training (R392). -/
def linkTrainingReady (s : State) : State :=
  if s.railsGood && 1 ≤ s.rstate 16 && !s.latch then { s with hif := { s.hif with linkReady := true } } else s

/-- PERST_N rises: a wake source in SLEEP; training may start (R170, R392). Ignored under the shutdown latch (R360). -/
def perstRise (s : State) : State :=
  if s.latch then s else wake { s with boot := { s.boot with perst := true } }

/-- Every ring is disabled (R398). -/
def ringsOff (s : State) : State :=
  let off := fun (k : RKind) (i : Nat) (t : State) => ringDisable k i (setBits (t.word (cfgFam k) i) 0 1 0) t
  let s1 := forAll (List.range 16) (fun i t => off .cmd i (t.put (fEN .cpl) 0 i)) s
  let s2 := forAll (List.range 16) (off .cpl) s1
  forAll (List.range 64) (off .str) (forAll (List.range 8) (off .evt) s2)

/-- A LINK reset: PERST_N falls, or a hot reset arrives: the link is lost, the rings are disabled, OPEN and VALIDATING Volleys
end, STAGED ones apply (R397, R398). -/
def linkReset (hot : Bool) (s : State) : State :=
  if s.latch then s
  else
    let s1 := if hot then s else { s with boot := { s.boot with perst := false } }
    let s2 := ringsOff (pcieDown s1)
    (forAll ((List.range 4).filter (fun v => (s2.slot v).st = .validating)) (fun v t => refuseVolley v stABORTED t) s2).count
      GLB_RSTCAUSE_LINK

/-! ### PIN, DEVICE and RADIO resets (R397-R399) -/

/-- A reset is triggered: it acts within 2 ms, after the Scorebook flush that starts now (R397, R399). The stronger of two that
meet stands. -/
def resetTrigger (kind : Nat) (s : State) : State :=
  if s.latch || (s.boot.resetAt.isSome && s.boot.resetKind ≤ kind) then s
  else startFlush { s with boot := { s.boot with resetKind := kind, resetAt := some (s.boot.resetAt.getD (s.now + 2 * Config.ms)) } }

/-- Straps as sampled (R248). -/
def sampleStraps (sid : Nat) (side : Bool) (s : State) : State :=
  ((s.put QLK_STACKSTAT_STACK_ID sid).put QLK_STACKSTAT_PAIR_SIDE (bit side)).put QLK_STACKSTAT_PRESENT (2 ^ sid)

/-- RESET_N has been low for 10 µs and rises: a PIN reset, with the straps sampled while it was low (R248, R397). -/
def pinReset (sid : Nat) (side : Bool) (s : State) : State :=
  if s.latch then s else resetTrigger 1 (sampleStraps sid side s)

/-- A write of GLB_RESET; it is discarded without the key, or with KIND 0 or 3 (R397). -/
def glbReset (val : Nat) (s : State) : State :=
  let kind := val % 4
  if val / 256 % 256 ≠ 0x5A || kind = 0 || kind = 3 then discard 0x24 false s else resetTrigger (kind + 1) s

/-- A calibration bank save is abandoned: the bank it wrote is not valid (R207, R399). -/
def dropSave (s : State) : State :=
  if !s.cal.saving then s
  else
    let dst := match s.newerBank with
      | some 0 => 1
      | _ => 0
    { s with pst := { s.pst with banks := tabSet s.pst.banks dst (s.bankOpened dst) } }.put
      PST_STAT_CAL_SAVING 0

/-- What a reset completes before it acts: a sealed change journal, and the Scorebook flush; a bank save is abandoned (R399). -/
def beforeReset (s : State) : State :=
  let s1 := forAll ((List.range 4).filter (fun v => (s.slot v).prot && (s.slot v).sealedAt.isSome)) (fun v t =>
    let x := t.slot v
    let r := x.record.getD []
    let t1 := if x.applied then t else
      (lockInForce (recKind r) (recEntries r) (t.get PST_LOCKGEN_GEN + 1) t).setSlot v { x with applied := true }
    lockApplied v t1) s
  let s2 := if 0 < s1.flt.flushN then flushDone [] s1 else s1
  dropSave (if 0 < s2.flt.flushN then flushDone [] s2 else s2)

/-- Port and ORx state outside the registers the host writes returns to reset; the residual sets come with CALFAC (R398). -/
def resetPorts (s : State) : State :=
  let fams := [TILE_RANGEIDX, TILE_OVRCNT, TILE_BUBCNT, TILE_SATCNT, TILE_TXCLIP]
  let regs := s.regs.tile.filter (fun e => !fams.any (fun f => (famIndex f e.1).isSome))
  let s1 := { s with regs := { s.regs with tile := regs } }
  let s2 := forAll (List.range 96) (fun n t =>
    (((t.pput TILE_PORTSTAT_ATT_NOW n 60).pput TILE_PORTSTAT_BUBBLE_MUTE n 0).pput TILE_PORTSTAT_OUT_OF_SERVICE n 0).pput
      TILE_PORTSTAT_CAL_FAIL n 0) s1
  let s3 := forAll (List.range 16) (fun t u => (u.put TILE_ORXSTAT_OUT_OF_SERVICE 0 t).put TILE_ORXSTAT_CAL_FAIL 0 t) s2
  let s4 := { s3 with units := s3.units.map unitReset }
  let idle := { s4 with cal := {} }
  if s4.cal.running then forAll (List.range 16) (fun t u => u.put TILE_CALSTAT_STATE 0 t) idle else idle

/-- Pending reports, cascade latches, shadows and Dugout go with a reset (R381, R398). -/
def resetFaults (s : State) : State :=
  let s1 := forAll (List.range 12) (fun i t => t.put FLT_PEND_PEND 0 i) s
  { s1 with flt := { s1.flt with dugout := false, dgSrc := 0, dgCode := 0, shadows := [] } }.put FLT_CASCADE_LATCH 0

/-- The blocks whose RWS registers a reset returns to their reset values (R398). -/
def resetBlocks : List Blk := [.tile, .fab, .iso, .spw, .clk, .pwr, .exp]

/-- The RWS registers of a block that do not hold their reset values, as writes of those values; CALFAC is loaded instead. -/
def resetWrites (b : Blk) (s : State) : List Wr :=
  (regsOf s.regs b).filterMap (fun e =>
    match rwsAt e.1 with
    | some (f, i, _) => if f = TILE_CALFAC then none else
        some { m := 0, off := e.1, v := regReset s.part f i &&& BitVec.ofNat 32 f.rws }
    | none => none)

/-- The effect of a RADIO reset: the registers go back in every block, the device descends to STANDBY by its steps, Volleys end
(R398). -/
def radioReset (s : State) : State :=
  let kill := fun (st : VState) (code : Nat) (t : State) =>
    forAll ((List.range 4).filter (fun v => (t.slot v).st = st)) (fun v u => refuseVolley v code u) t
  let opened := (List.range 4).filter (fun v => (s.slot v).st = .opened)
  let s1 := kill .staged stALIGN_LOST (kill .validating stABORTED (forAll opened (fun v t => endOpen v stABORTED t) s))
  let s2 := forAll [4, 5, 6, 7] (fun v t => t.setSlot v {}) s1
  let owed := (match s2.cal.cmd with
    | some d => [d]
    | none => []) ++ (s2.radio.synths.filterMap (fun e => e.2.cmd)).eraseDups
  let s3 := { s2 with radio := { s2.radio with synths := s2.radio.synths.map synthReset } }
  let s4 := forAll owed (fun d t => completeDefer d stABORTED t) (resetPorts s3)
  let ws := (resetBlocks.map (fun b => resetWrites b s4)).flatten
  let s5 := applyWrites ws (s4.put HIF_HBCFG_INTERVAL 10)
  let s6 := { resetFaults (loadCalfac s5) with boot := { s5.boot with regrid := true } }
  let s7 := forAll (List.range 4) (fun q t => t.put CLK_SYNSTAT_CAL_RUN 0 q) s6
  kickRadio (s7.put GLB_BOOTSTAT_STARTCAL_DONE 0)

/-- Remove the register values of a block that belong to some families. -/
def dropRegs (b : Blk) (p : Nat → Bool) (s : State) : State :=
  { s with regs := regsPut s.regs b ((regsOf s.regs b).filter (fun e => !p e.1)) }

/-- The effect of a PIN or DEVICE reset: everything the radio and the host interface hold goes; what R398 keeps stays; the rails
go down in reverse order (R397, R398). -/
def hardReset (s : State) : State :=
  let s1 := domAllOff (pcieDown s)
  let rws := fun (off : Nat) => (rwsAt off).isSome
  let fabCut := fun (b : Blk) (t : State) => dropRegs b (fun _ => true) t
  let s2 := fabCut .spw (fabCut .iso (fabCut .fab (dropRegs .tile rws (resetPorts s1))))
  let keepClk := fun (off : Nat) => (famIndex CLK_SYNSTAT off).isNone
  let s3 := dropRegs .exp rws (dropRegs .pwr rws (dropRegs .clk keepClk s2))
  let rings := fun (off : Nat) => decide (off < 0x1A2000 && (0x1A1000 ≤ off || (famIndex HIF_HBCFG off).isSome) || 0x1B0000 ≤ off)
  let s4 := dropRegs .hif rings s3
  let s5 := forAll (List.range 96) (fun n t => t.pput TILE_PASTAT_SEQ n 0) s4
  let s6 := { s5 with
    hif := { s5.hif with linkReady := false, rings := [], slots := [], waiting := [], exports := [] }
    units := [], cal := {}, fab := {}, spw := {}, past := []
    iso := { hist := s5.iso.hist
             govs := (s5.iso.govs.filter (fun e => e.2.causes % 2 = 1)).map (fun e => (e.1, { causes := 1 })) }
    radio := { synths := s5.radio.synths.map synthReset
               blindCap := s5.radio.blindCap, coldCap := s5.radio.coldCap }
    pst := { s5.pst with gates := [], gateSums := [], gateFades := [], epochSeeds := [] }
    qlk := {}
    flt := { s5.flt with flushCmds := [] }
    boot := { s5.boot with
      rail := none, failed := false, wakeAt := none, regrid := true, loading := false, image := false
      downAt := some (s5.now + Config.ms) } }
  let s7 := resetFaults (endNonce s6)
  let s8 := ((s7.put PST_STAT_LOCK_BUSY 0).put QLK_PAIRSTAT_ROLE 0).put QLK_PAIRSTAT_MIRROR_SYNC 0
  let s9 := (((s8.put GLB_BOOTSTAT_STAGE 0).put GLB_BOOTSTAT_SRC 0).put GLB_BOOTSTAT_ERR 0).put GLB_BOOTSTAT_RAIL 0
  let s10 := ((s9.put GLB_BOOTSTAT_STARTCAL_DONE 0).put GLB_XSTAT_PINNED 0).put GLB_XSTAT_ISLAND 0xFF
  let s11 := forAll (List.range 4) (fun q t => (t.put CLK_SYNSTAT_LOCK 0 q).put CLK_SYNSTAT_CAL_RUN 0 q) s10
  let s12 : State := match s.boot.rail with
    | some k => railStop (railAtPos k) s11
    | none => s11
  if s12.boot.good = [] then restart { s12 with boot := { s12.boot with downAt := none } } else s12

/-- The reset in progress acts: what it completes first, its cause, its effect; then what still stands is reported afresh
(R397-R399). -/
def resetAction (s : State) : State :=
  match s.boot.resetAt with
  | none => s
  | some t =>
    if s.latch then { s with boot := { s.boot with resetAt := none } }
    else
      let s1 := beforeReset (s.moveTo t)
      let kind := s1.boot.resetKind
      let s2 := { s1 with boot := { s1.boot with resetAt := none, resetKind := 0 } }.put GLB_RSTCAUSE_LAST kind
      let s3 := if kind = 3 then radioReset s2 else hardReset s2
      standingReset s3

/-! ### VAUX (R392, R400, R408) -/

/-- What survives without VAUX: the cells of the persistent store, the Scorebook, the banks and seeds, the highest security
version; the machine is dark (R398, R408). Page commits whose writes completed before a fall of PWRFAIL_N are written; any other that
has not been written is lost (R204). -/
def vauxLoss (s : State) : State :=
  let u := dropSave s
  let d := forAll (u.pst.queue.filter (fun c => c.kept)) writeCommit u
  let b := State.blank d.now
  { b with
    part := d.part, pending := d.pending, free := d.free
    flt := { b.flt with cells := d.flt.cells, next := d.flt.next, full := d.flt.full, near := d.flt.near, clears := d.flt.clears }
    pst := { cells := d.pst.cells, opCells := d.pst.opCells, opNext := d.pst.opNext, banks := d.pst.banks
             seeds := d.pst.seeds, innings := d.pst.innings }
    hif := { b.hif with cpl := d.hif.cpl, evt := d.hif.evt, str := d.hif.str, msi := d.hif.msi, nonceMem := d.hif.nonceMem }
    boot := { secMax := d.boot.secMax, dark := true } }

/-- The level a bank detects at its supply, in mV (R405). -/
def ioLevel (mv : Nat) : IoLevel :=
  if 1620 ≤ mv && mv ≤ 1980 then .v18 else if 3000 ≤ mv && mv ≤ 3600 then .v33 else .bad

/-- VAUX becomes valid: the banks of the control I/O detect their levels, the always-on domains start, the straps are sampled, the
operating time resumes from the cells found, the persisted comparators are in force (R208, R248, R392, R400, R405). The straps of a
bank without a level read inactive, and so does PERST_N. -/
def powerOn (sid : Nat) (side : Bool) (found : PowerFound) (s : State) : State :=
  if !s.boot.dark then s
  else
    let b := State.blank s.now
    let io := found.volts.map ioLevel
    let pins : Bool := io.getD 0 .v33 ≠ .bad
    let cells := forAll found.cells (fun e c => tabSet c e.1.val (e.2.map BitVec.toNat)) s.pst.opCells
    let banks := forAll found.banks (fun e c => tabSet c e.1.val (e.2.map BitVec.toNat)) s.pst.banks
    let op := opResume cells
    let t := { b with
      part := s.part, pending := s.pending, free := s.free
      flt := s.flt, pst := { s.pst with opBase := op, opAt := op, opCells := cells, banks := banks }
      hif := { s.hif with hbAt := s.now }
      boot := { secMax := s.boot.secMax, io := io, perst := !pins } }
    let t1 := (sampleStraps (if pins then sid else 0) (pins && side) t).put PST_STAT_PROV_N (bit (!pins || found.provN))
    let t2 := (t1.put FLT_SBSTAT_FULL (bit s.flt.full)).put FLT_SBSTAT_NEAR (bit s.flt.near)
    loadPersist ((t2.put FLT_SBSTAT_WORN (bit (100001 ≤ s.flt.clears))).put GLB_INNINGS_COUNT s.pst.innings)

end Sys2Proof.Machine
end

