-- ==== Sys2Proof/Machine/RegOps.lean ====
section
/-!
DEFINITION. Sys2Proof/Machine/RegOps.lean: a direct BAR0 write, register by register: what its access code lets through (R4-R7,
R192, R202), what a block discards, and what the write starts.
-/
namespace Sys2Proof.Machine
open Sys2Proof

/-- The bits of `mask` from `a`, the others from `b`. -/
def mixBits (mask : Nat) (a b : Word) : Word :=
  (a &&& BitVec.ofNat 32 mask) ||| (b &&& BitVec.ofNat 32 (2 ^ 32 - 1 - mask % 2 ^ 32))

/-- A write by the access codes alone: RW and RWP bits are taken, each 1 clears a W1C bit, the rest stays (R4). -/
def plainWrite (f : RegFam) (i j : Nat) (v : Word) (s : State) : State :=
  let old := s.word f i j
  s.putWord f (mixBits f.w1c (old &&& ~~~v) (mixBits (f.rw ||| f.rwp) v old)) i j

/-- Discarded and counted in HIF_DISCARDCNT (R5). -/
def drop (f : RegFam) (i j : Nat) (s : State) : State := discard (regOff f i j) false s

/-- The fields of `mask` are held while `c` holds: they keep their value and, where the write would change one, it is counted as
discarded; the other fields take the write (R287, R321, R331, R332). -/
def holdBits (c : Bool) (mask : Nat) (f : RegFam) (i j : Nat) (v : Word) (g : Word → State → State) (s : State) : State :=
  if c then
    let w := mixBits mask (s.word f i j) v
    g w (if w = v then s else drop f i j s)
  else g v s

/-- A counter is cleared by writing 0xFFFF_FFFF; a write of any other value is discarded (R81, R103, R164, R209, R243, R244,
R246, R277). -/
def counterWrite (f : RegFam) (i j : Nat) (v : Word) (s : State) : State :=
  if v = 0xFFFFFFFF#32 then s.putWord f 0 i j else s

/-- The counters of R81, R103, R164, R209, R243, R244, R246 and R277. -/
def counterFams : List RegFam :=
  [TILE_SATCNT, TILE_TXCLIP, FAB_CLIPCNT, SPW_DROPCNT, HIF_DISCARDCNT, STR_DROPCNT, QLK_LINKCRC, EXP_DROPCNT, PST_CLAMPCNT]

/-! ### Persistent registers (R202, R203) -/

/-- A persistent register: GLB_BOOTCTL, whose LOAD acts whatever STARTCAL is (R401). -/
def bootctlWrite (v : Word) (s : State) : State :=
  let s1 := if getBits v 1 2 = 3 then s else persistWrite 0 v.toNat s
  if getBits v 0 1 = 1 then fwLoad s1 else s1

/-- THR_ON outside 60 to 100 °C, or COLD_LIM above 0 or below the variant's minimum (R365). -/
def State.thcfgBad (s : State) (v : Word) : Bool :=
  let on := signedOf 8 (getBits v 0 8)
  let cold := signedOf 8 (getBits v 8 8)
  decide (on < 60) || decide (100 < on) || decide (0 < cold) ||
    decide (cold < (match s.part with | .mq96_1A => -20 | .mq96_1B => -40))

/-- THR_LO above THR_HI, FILT_N of 0, or FILT_K of 0 or above FILT_N (R292). -/
def cmpCfgBad (v : Word) : Bool :=
  getBits v 10 10 < getBits v 0 10 || getBits v 22 4 = 0 || getBits v 26 4 = 0 || getBits v 22 4 < getBits v 26 4

/-- A write of persistent register `n`, of family `f`, that its page does not lock. -/
def persistDispatch (n : Nat) (f : RegFam) (i : Nat) (v : Word) (s : State) : State :=
  if f = GLB_BOOTCTL then bootctlWrite v s
  else if f = PWR_THCFG then (if s.thcfgBad v then drop f i 0 s else persistWrite n v.toNat s)
  else if f = MEA_CMPCFG_P then (if cmpCfgBad v then drop f i 0 s else cmpMoved s i (persistWrite n v.toNat s))
  else if f = RPS_CFG then rpsCfgWrite v.toNat s
  else if f = RPS_SHEDCFG then
    (if 40 < getBits v 18 6 || 40 < getBits v 24 6 then drop f i 0 s else persistWrite n v.toNat s)
  else persistWrite n v.toNat s

/-! ### Blocks -/

/-- Writable registers of TILE and CLK (R42, R54, R176, R180). -/
def portWrite (f : RegFam) (i j : Nat) (v : Word) (s : State) : State :=
  if f = CLK_TSTAT then (if getBits v 3 1 = 1 then forcedClear i s else s)
  else if f = TILE_PORTSTAT then
    let t := plainWrite f i j (v &&& ~~~(0x200#32)) s
    if getBits v 9 1 = 1 then bubbleMuteRelease (6 * i + j) t else t
  else if f = TILE_PASTAT then (if getBits v 3 1 = 1 then paFltClear (6 * i + j) s else s)
  else plainWrite f i j v s

/-- The ring kind whose BASE a family holds. -/
def baseOf (f : RegFam) : Option (RKind × Bool) :=
  if f = CMD_BASE_LO then some (.cmd, true) else if f = CMD_BASE_HI then some (.cmd, false)
  else if f = CPL_BASE_LO then some (.cpl, true) else if f = CPL_BASE_HI then some (.cpl, false)
  else if f = EVT_BASE_LO then some (.evt, true) else if f = EVT_BASE_HI then some (.evt, false)
  else if f = STR_BASE_LO then some (.str, true) else if f = STR_BASE_HI then some (.str, false) else none

/-- A write of a ring's BASE: discarded while the ring is enabled; a base that is not 4 KiB aligned makes the configuration bad
(R215). -/
def baseWrite (k : RKind) (lo : Bool) (f : RegFam) (i : Nat) (v : Word) (s : State) : State :=
  if s.flag (fEN k) i then drop f i 0 s
  else
    let t := plainWrite f i 0 v s
    if lo then t.modRing k i (fun r => { r with badBase := getBits v 0 12 ≠ 0 }) else t

/-- Writable registers of HIF (R215, R232, R244). -/
def hifWrite (f : RegFam) (i j : Nat) (v : Word) (s : State) : State :=
  match baseOf f with
  | some (k, lo) => baseWrite k lo f i v s
  | none =>
    if f = HIF_HBSTAT then hostLostClear v s
    else if f = CMD_CFG || f = CPL_CFG || f = EVT_CFG || f = STR_CFG then cfgWrite (regOff f i j) v s
    else if f = MSIX_CTL then flushPending (s.putWord f v i j)
    else plainWrite f i j v s

/-- Writable registers of QLK outside the persistent ones: EN = 0 takes the link down (R254, R277). -/
def qlkWrite (f : RegFam) (i j : Nat) (v : Word) (s : State) : State :=
  if f = QLK_LINKCFG then
    let t := plainWrite f i j v s
    if getBits v 0 1 = 0 then linkDown i t else t
  else plainWrite f i j v s

/-- A write of MEA_CHCFG that R287 lets through: settling starts when EN rises, and the channel stops when it falls (R288). -/
def chcfgWrite (ch : Nat) (v : Word) (s : State) : State :=
  let was := s.flag MEA_CHCFG_EN ch
  let t := plainWrite MEA_CHCFG ch 0 v s
  let on : Bool := getBits v 0 1 = 1
  if on && !was then (t.modChan ch (fun _ => {})).put MEA_CHSTAT_FALLBACK 0 ch
  else if was && !on then missSample ch t else t

/-- A write of MEA_SEQ (R281). -/
def seqWrite (u e : Nat) (v : Word) (s : State) : State :=
  let ch := getBits v 8 5
  if s.flag MEA_UCFG_EN u || (s.flag MEA_UCFG_EN (1 - u) && decide (0 < s.feeds (1 - u) ch)) then drop MEA_SEQ u e s
  else plainWrite MEA_SEQ u e v s

/-- Writable registers of MEA (R281, R287, R292, R299). -/
def meaWrite (f : RegFam) (i j : Nat) (v : Word) (s : State) : State :=
  if f = MEA_UCFG then
    let was := s.flag MEA_UCFG_EN i
    let t := plainWrite f i j v s
    if was && getBits v 0 1 = 0 then tableMiss i t else t
  else if f = MEA_SEQ then seqWrite i j v s
  else if f = MEA_CHCFG then
    if 5 ≤ getBits v 2 3 then drop f i j s
    else holdBits (s.flag MEA_CHCFG_EN i) (f.rw - 1) f i j v (chcfgWrite i) s
  else if f = MEA_CHFIR then (if s.flag MEA_CHCFG_EN i then drop f i j s else plainWrite f i j v s)
  else if f = MEA_FIRCOEF then
    if s.flag MEA_CHCFG_EN i then drop f i j s else (plainWrite f i j v s).put MEA_CHFIR_FIR_OK 1 i
  else if f = MEA_CHKCTL then chkWrite v.toNat s
  else if f = MEA_CMPCFG_W then (if cmpCfgBad v then drop f i j s else cmpMoved s (32 + i) (plainWrite f i j v s))
  else plainWrite f i j v s

/-- A write of CTE_RAILCFG that R332 lets through: PH_ON outside PH_MIN to the phase count is discarded (R328). -/
def railCfgWrite (r : Nat) (v : Word) (s : State) : State :=
  let on := getBits v 1 5
  if on < getBits v 6 5 || (railPhases r).2 < on then drop CTE_RAILCFG r 0 s else plainWrite CTE_RAILCFG r 0 v s

/-- The bits of CTE_SLOTCFG that a write leaves alone: KIND to SP_SRC while ENABLE is 1 (R321), KIND while bound (R307). -/
def State.slotHeldBits (s : State) (n : Nat) : Nat :=
  if s.flag CTE_SLOTCFG_ENABLE n then 2 ^ 24 - 4 else if (s.boundTo n).isSome then 0x38 else 0

/-- Writable registers of CTE outside the persistent ones (R320, R321, R332). -/
def cteWrite (f : RegFam) (i j : Nat) (v : Word) (s : State) : State :=
  if f = CTE_SLOTCFG then
    holdBits true (s.slotHeldBits i) f i j v (fun w t => slotCfgWrite i w.toNat t) s
  else if f = CTE_SLOTTIM then (if s.flag CTE_SLOTCFG_ENABLE i then drop f i j s else plainWrite f i j v s)
  else if f = CTE_SLOTUMIN then
    if signedOf 32 (s.get CTE_SLOTUMAX_UMAX i) < signedOf 32 v.toNat then drop f i j s else plainWrite f i j v s
  else if f = CTE_SLOTUMAX then
    if signedOf 32 v.toNat < signedOf 32 (s.get CTE_SLOTUMIN_UMIN i) then drop f i j s else plainWrite f i j v s
  else if f = CTE_TESTCFG then testWrite v.toNat s
  else if f = CTE_RAILCFG then holdBits (s.flag CTE_RAILCFG_EN i) 0x7FFFC0 f i j v (railCfgWrite i) s
  else plainWrite f i j v s

/-- An odd battery channel takes its settings from its even channel (R331). -/
def oddPair (ch : Nat) : Bool := 40 ≤ ch && ch % 2 = 1

/-- Writable registers of PWM (R326, R331); a reference channel outside 0-47 is refused (R11). -/
def pwmWrite (f : RegFam) (i j : Nat) (v : Word) (s : State) : State :=
  if f = PWM_GCFG then gcfgWrite v.toNat s
  else if f = PWM_PAIRPER then
    if getBits v 0 20 < 1280 || 1048575 < v.toNat % 2 ^ 20 then drop f i j s else plainWrite f i j v s
  else if f = PWM_CHCFG then
    if oddPair i || 256 < getBits v 1 9 || 640 < getBits v 10 10 then drop f i j s
    else holdBits (s.flag PWM_CHCFG_EN i) (f.rw - 1) f i j v (plainWrite f i j) s
  else if f = PWM_CHTRIP then (if oddPair i then drop f i j s else plainWrite f i j v s)
  else if f = PWM_BLK then (if 48 ≤ getBits v 0 6 then drop f i j s else plainWrite f i j v s)
  else if f = PWM_CHSTAT then tripRelease i v.toNat s
  else plainWrite f i j v s

/-- Writable registers of RPS outside the persistent ones (R335, R337, R349). -/
def rpsWrite (f : RegFam) (i j : Nat) (v : Word) (s : State) : State :=
  if f = RPS_SEGCTL then segWrite i v.toNat s
  else if f = RPS_DEVCFG then devCfgWrite i v.toNat s
  else if s.flag RPS_CFG_EN then drop f i j s else plainWrite f i j v s

/-- Writable registers of FLT (R372, R374). -/
def fltWrite (f : RegFam) (i j : Nat) (v : Word) (s : State) : State :=
  if f = FLT_PEND then pendClear i v.toNat s
  else if f = FLT_CASCADE && s.ownSid ≠ 0 then s
  else plainWrite f i j v s

/-- Writable registers of TIM (R260). -/
def timWrite (f : RegFam) (i j : Nat) (v : Word) (s : State) : State :=
  if f = TIM_SET2 then timeSetArm v.toNat s
  else if (f = TIM_SET0 || f = TIM_SET1 || f = TIM_CFG) && s.timLocked (regOff f i j) then drop f i j s
  else plainWrite f i j v s

/-- The write of a register that is neither staged, locked, persistent nor a counter. -/
def blockWrite (f : RegFam) (i j : Nat) (v : Word) (s : State) : State :=
  match f.blk with
  | .glb => if f = GLB_RESET then glbReset v.toNat s else plainWrite f i j v s
  | .pwr => if f = PWR_DOMFAIL then domfailClear i v.toNat s else plainWrite f i j v s
  | .clk | .tile => portWrite f i j v s
  | .iso => if f = ISO_LSEL then lselSnapshot v.toNat s else plainWrite f i j v s
  | .hif => hifWrite f i j v s
  | .qlk => qlkWrite f i j v s
  | .mea => meaWrite f i j v s
  | .cte => cteWrite f i j v s
  | .pwm => pwmWrite f i j v s
  | .rps => rpsWrite f i j v s
  | .flt => fltWrite f i j v s
  | .pst => if f = PST_PGSEL then pgselSnapshot v.toNat s else plainWrite f i j v s
  | .tim => timWrite f i j v s
  | .fab | .spw | .exp => plainWrite f i j v s

/-- The write of register (i, j) of a family by its access code (R4, R5, R192). -/
def famWrite (f : RegFam) (i j : Nat) (v : Word) (s : State) : State :=
  if f.rws ≠ 0 || f.rwl ≠ 0 then drop f i j s
  else if counterFams.contains f then counterWrite f i j v s
  else match persistIdx (regOff f i j) with
    | some n => if s.mapLocked n then drop f i j s else persistDispatch n f i v s
    | none => blockWrite f i j v s

/-- One aligned 32-bit BAR0 write (R4-R6, R394). A reserved address takes nothing. -/
def wordWrite (off : Nat) (v : Word) (s : State) : State :=
  if 0x10000 ≤ off && !s.running then discard off false s
  else match blkOf off with
    | none => s
    | some b =>
      match findFam (famsOf b) off with
      | none => s
      | some (f, i, j) => famWrite f i j v s

/-- A BAR0 write of one aligned word over the PCI Express link. -/
def bar0Word (off : Nat) (v : Word) (s : State) : State := hostWrite (wordWrite off v) s

/-- A BAR0 write of `bytes` bytes: a 64-bit write at a multiple of 4 is two 32-bit writes, the lower first; a narrower or
misaligned one is discarded and counted (R7). -/
def registerWrite (off bytes : Nat) (val : Nat) (s : State) : State :=
  if bytes = 0 then s
  else if off % 4 = 0 && bytes = 4 then bar0Word off (BitVec.ofNat 32 val) s
  else if off % 4 = 0 && bytes = 8 then
    bar0Word (off + 4) (BitVec.ofNat 32 (val / 2 ^ 32)) (bar0Word off (BitVec.ofNat 32 val) s)
  else hostWrite (discard off false) s

end Sys2Proof.Machine
end

