-- ==== Sys2Proof/Machine/ReadOps.lean ====
section
/-!
DEFINITION. Sys2Proof/Machine/ReadOps.lean: what a BAR0 read of a register returns (R4-R7). A status field that the state holds
elsewhere than in the register is computed here; every other bit is the bit stored.
-/
namespace Sys2Proof.Machine
open Sys2Proof

/-- Show `v` in a field, whose bits it may not exceed. -/
def show_ (f : Fld) (v : Nat) (w : Word) : Word := setBits w f.lo f.width (min v (2 ^ f.width - 1))

/-- Show a flag. -/
def showB (f : Fld) (b : Bool) (w : Word) : Word := show_ f (bit b) w

/-- Show a signed number, saturating. -/
def showI (f : Fld) (v : Int) (w : Word) : Word :=
  setBits w f.lo f.width (codeOf f.width (clampI (-(2 ^ (f.width - 1))) (2 ^ (f.width - 1) - 1) v))

/-- Registers of CLK, TILE and FAB (R74, R99, R102, R103, R184). QUIET of an entry that covers nothing reads 0 (DESIGN CHOICE,
log 160). -/
def fabShow (s : State) (f : RegFam) (i j : Nat) (w : Word) : Word :=
  if f = CLK_QSTAT then
    let l := s.quietPairs i
    showB CLK_QSTAT_QUIET (l ≠ [] && l.all (fun o => (tabGet s.radio.fades o : Fade).pos s.sampleBase = 40)) w
  else if f = TILE_BANKSTAT then show_ TILE_BANKSTAT_ACTIVE (s.activeCount (6 * i + j)) w
  else if f = TILE_CALFAC then s.calfac i j
  else if f = FAB_STAT then
    show_ FAB_STAT_PATHS s.livePaths.length
      (show_ FAB_STAT_XFADES ((List.range 64).filter (fun x => s.flag FAB_XFCTL_EN x)).length
        (show_ FAB_STAT_QUARTER_ON (bitsOf 4 (fun q => s.domainOn (64 + q))) w))
  else if f = FAB_STREAMS then show_ FAB_STREAMS_ACTIVE (((List.range 96).map s.activeCount).foldl (· + ·) 0) w
  else if f = FAB_LINKUSE then
    show_ FAB_LINKUSE_OUT (s.fab.sends.filter (fun x => s.linkTo x.1 = i)).length
      (show_ FAB_LINKUSE_IN ((remoteStreams s s.livePaths).filter (fun x => s.linkTo x.1 = i)).length w)
  else if f = FAB_XFSTAT then show_ FAB_XFSTAT_POS (s.xfPos i s.now) w
  else if f = FAB_PSTAT0 then
    let p := s.path i
    let w1 := show_ FAB_PSTAT0_STATE p.st (showB FAB_PSTAT0_HELD p.held (showB FAB_PSTAT0_XF (s.xfOf i).isSome w))
    let muted : Bool := p.mute.up || p.mute.pos s.now ≠ 0
    if p.st = 0 then w1
    else showB FAB_PSTAT0_MUTED muted (showI FAB_PSTAT0_GAIN_APP (s.gApp i) (show_ FAB_PSTAT0_LIMIT p.limit w1))
  else if f = FAB_PSTAT1 then
    let p := s.path i
    if p.st = 0 then 0
    else show_ FAB_PSTAT1_N_FRONT p.nFront (show_ FAB_PSTAT1_N_MIN p.nMin (show_ FAB_PSTAT1_N_MAX p.nMax w))
  else w

/-- Registers of ISO and SPW (R131, R134, R164). -/
def isoShow (s : State) (f : RegFam) (i : Nat) (w : Word) : Word :=
  if f = ISO_STAT then
    let n := fun k => (s.livePaths.filter (fun b => (s.path b).st = k)).length
    show_ ISO_STAT_BACKOFF (n 3) (show_ ISO_STAT_SHUTDOWN (n 4) w)
  else if f = ISO_SEEDSTAT then
    show_ ISO_SEEDSTAT_MARKED (s.enabledLinks.filter (fun l => s.flag ISO_LCFG_SEED l)).length
      (show_ ISO_SEEDSTAT_RECORDS (s.pst.seeds.filter (fun e => (parseSeed e.2.bytes).good)).length w)
  else if f = ISO_SLICESTAT then
    show_ ISO_SLICESTAT_LINKS (s.enabledLinks.filter (fun l => l / 2048 = i)).length
      (showB ISO_SLICESTAT_ON (s.domainOn (56 + i)) w)
  else if f = ISO_PSTAT then
    let g := s.gov i
    let h := s.hist i
    let w1 := show_ ISO_PSTAT_MUTE (s.muteCauses i)
      (showB ISO_PSTAT_LOCKOUT h.lockout (showB ISO_PSTAT_HOLDOFF h.holdEnd.isSome
        (show_ ISO_PSTAT_SHUTDOWNS (s.shutCount i) (showB ISO_PSTAT_SEEDED g.seededShow w))))
    if (s.path i).st = 0 then w1
    else
      show_ ISO_PSTAT_ISO (g.iso.getD 0xFFF) (show_ ISO_PSTAT_GOV_SRC g.src
        (showB ISO_PSTAT_GAIN_LIMITED g.gainLimited (showB ISO_PSTAT_COMB_UNAVAIL (s.combUnavail i)
          (showB ISO_PSTAT_DECL_USED g.decl w1))))
  else if f = SPW_STAT then
    let r := s.productRate
    show_ SPW_STAT_RATE ((r.1 + r.2 * 1000000000 - 1) / (r.2 * 1000000000))
      (show_ SPW_STAT_SLICE_ON (bitsOf 8 (fun q => s.domainOn (48 + q))) (showB SPW_STAT_COARSE_ACTIVE s.coarseNow w))
  else if f = SPW_CAPSTAT then
    show_ SPW_CAPSTAT_WRATE ((captureRate s (fun x => s.snapState x ≠ 0) + 99) / 100)
      (showB SPW_CAPSTAT_MEM_ON (s.domainOn 75) w)
  else w

/-- Code of a Volley slot state (R243). -/
def vstate : VState → Nat
  | .free => 0 | .opened => 1 | .validating => 2 | .staged => 3

/-- Registers of HIF and EXP (R243, R246). -/
def hifShow (s : State) (f : RegFam) (i : Nat) (w : Word) : Word :=
  if f = HIF_STAT then
    showB HIF_STAT_LINK_UP s.hif.linkUp (showB HIF_STAT_MASTER_EN s.hif.masterEn
      (show_ HIF_STAT_LINK_GEN s.hif.gen (show_ HIF_STAT_LINK_WIDTH s.hif.width w)))
  else if f = HIF_HBSTAT then
    showB HIF_HBSTAT_ARMED s.hif.armed (showB HIF_HBSTAT_LOST s.hif.lost
      (show_ HIF_HBSTAT_EFFECTIVE s.hbInterval (show_ HIF_HBSTAT_MISSES s.hif.misses w)))
  else if f = HIF_VSTAT then
    let x := s.slot i
    if x.st = .free then w
    else
      show_ HIF_VSTAT_STATE (vstate x.st) (show_ HIF_VSTAT_RING x.ring (showB HIF_VSTAT_STACK x.stack
        (showB HIF_VSTAT_PROTECTED x.prot (show_ HIF_VSTAT_MEMBERS x.members.length w))))
  else if f = HIF_VBEAT then
    let x := s.slot i
    if x.st = .staged then setBits w 0 32 (x.beat % 2 ^ 32) else w
  else if f = EXP_STAT then
    let x := s.exportPort i
    showB EXP_STAT_LINK_UP x.link (showB EXP_STAT_PAUSED x.paused (show_ EXP_STAT_FILL (s.exportFill i / 1024) w))
  else w

/-- Registers of MEA, CTE, PWM and RPS (R303, R322, R331, R349). -/
def powerShow (s : State) (f : RegFam) (i : Nat) (w : Word) : Word :=
  let running := fun l => (l.filter (fun n => s.runOf n ≠ 0)).length
  if f = MEA_CHSTAT then
    showB MEA_CHSTAT_RUNNING (s.flag MEA_CHCFG_EN i && [0, 1].any (fun u => s.tableRuns u && decide (0 < s.feeds u i))) w
  else if f = CTE_STAT then
    show_ CTE_STAT_FAST_ON (running (List.range 64)) (show_ CTE_STAT_SLOW_ON (running ((List.range 448).map (· + 64))) w)
  else if f = PWM_GSTAT then show_ PWM_GSTAT_TRIP s.pwm.groups w
  else if f = PWM_CHSTAT then showB PWM_CHSTAT_OUT (s.pinAt i s.now) w
  else if f = RPS_PWR then
    show_ RPS_PWR_P_DEV (roundDiv (s.pDev * 10) watt).toNat (show_ RPS_PWR_P_RACK (roundDiv s.pRack watt).toNat w)
  else if f = RPS_STAT then
    let n := fun k => ((List.range 28).filter (fun d => s.pmKind d k && s.get RPS_DEVSTAT_STATE d = 1)).length
    show_ RPS_STAT_RECT_OK (n 1) (show_ RPS_STAT_POL_OK (n 2) w)
  else if f = RPS_STRSTAT then
    show_ RPS_STRSTAT_VSTR (roundDiv (s.vStr i) 2560000).toNat (showI RPS_STRSTAT_I (roundDiv (s.iStr i) 25600000) w)
  else w

/-- Registers of FLT, PST and TIM (R209, R278, R390). -/
def faultShow (s : State) (f : RegFam) (i : Nat) (w : Word) : Word :=
  if f = FLT_STAT then
    showB FLT_STAT_DUGOUT s.flt.dugout (showB FLT_STAT_FAULT_LOW s.faultLow
      (showB FLT_STAT_SHADOW (!s.flt.shadows.isEmpty) (show_ FLT_STAT_DG_SRC s.flt.dgSrc w)))
  else if f = FLT_DGCODE then show_ FLT_DGCODE_CODE s.flt.dgCode w
  else if f = FLT_CASCADE then (if s.ownSid = 0 then w else 0)
  else if f = FLT_SBSTAT then
    show_ FLT_SBSTAT_WRITTEN s.flt.next (show_ FLT_SBSTAT_BUFFERED s.flt.buffer.length
      (showB FLT_SBSTAT_FLUSHING (s.flt.flushN ≠ 0) w))
  else if f = FLT_SBCLEARS then show_ FLT_SBCLEARS_CLEARS s.flt.clears w
  else if f = FLT_SBWIN then
    setBits w 0 32 (ofLe (((recBytes (s.sbCell (s.get FLT_SBCUR_INDEX))).drop (4 * i)).take 4))
  else if f = PST_CLAMP then
    setBits w 0 32 (bitsOf 32 (fun b => s.pst.gates.any (fun e => e.1 / 1024 = 32 * i + b)))
  else if f = PST_LOCKDIG then s.digestWord i
  else if f = TIM_FRAC then setBits w 0 32 (s.devTime % 2 ^ 32)
  else w

/-- What a 32-bit BAR0 read of register (i, j) of a family returns. -/
def State.readFam (s : State) (f : RegFam) (i j : Nat) : Word :=
  let w := s.word f i j
  match f.blk with
  | .clk | .tile | .fab => fabShow s f i j w
  | .iso | .spw => isoShow s f i w
  | .hif | .exp => hifShow s f i w
  | .mea | .cte | .pwm | .rps => powerShow s f i w
  | .flt | .pst | .tim => faultShow s f i w
  | .glb | .pwr | .qlk => w

/-- What a 32-bit BAR0 read at a multiple of 4 returns: reserved addresses, reserved bits and WO bits read 0 (R4, R6). -/
def State.readReg (s : State) (off : Nat) : Word :=
  match blkOf off with
  | none => 0
  | some b =>
    match findFam (famsOf b) off with
    | none => 0
    | some (f, i, j) => s.readFam f i j &&& BitVec.ofNat 32 f.mask &&& ~~~(BitVec.ofNat 32 f.wo)

/-- The bytes a BAR0 read of `n` bytes returns: bytes of one aligned word, two words for 64 bits at a multiple of 4, else 0 in
every byte (R7). A read that latches is a command of its own (R261, R291, R387). -/
def State.readBytes (s : State) (off n : Nat) : List Nat :=
  let word := fun o => leBytes 4 (s.readReg o).toNat
  if off % 4 + n ≤ 4 then ((word (off / 4 * 4)).drop (off % 4)).take n
  else if off % 4 = 0 && n = 8 then word off ++ word (off + 4)
  else List.replicate n 0

end Sys2Proof.Machine
end

