-- ==== Sys2Proof/Machine/PairOps.lean ====
section
/-!
DEFINITION. Sys2Proof/Machine/PairOps.lean: what a Bullpen does at a beat boundary with what its active counterpart sent: Volley
mirrors (R271) and the configuration of a resynchronisation (R276).
-/
namespace Sys2Proof.Machine
open Sys2Proof

/-- The register writes of a mirror or a resynchronisation. -/
def mirrorWrites (regs : List (Nat × Word)) : List Wr := regs.zipIdx.map (fun e => { m := e.2, off := e.1.1, v := e.1.2 })

/-- A write of a mirror that no Volley member may make, or that is not mirrored (R228, R271). -/
def badMirrorWrite (w : Wr) : Bool :=
  !mirrored w.off || (match rwsAt w.off with
    | none => true
    | some (f, _, _) => w.v &&& ~~~(BitVec.ofNat 32 f.rws) ≠ 0)

/-- The status that refuses a mirror, by the checks of R228. -/
def State.mirrorStatus (s : State) (ws : List Wr) : Option Nat :=
  if ws.any badMirrorWrite then some stINVALID_FIELD else (blockChecks s ws true s.fab.sends).map Prod.fst

/-- One whole mirror applies, or is refused: MIRROR_REFUSED, and MIRROR_SYNC is cleared here and, by messages, on both masters
(R271, R279). -/
def applyMirror (m : Nat × List (Nat × Word)) (s : State) : State :=
  let ws := mirrorWrites m.2
  match s.mirrorStatus ws with
  | none => (applyWrites ws s).put QLK_MIRRORSEQ_SEQ m.1
  | some st => emit ev_MIRROR_REFUSED 231 (sendMsg 3 .mirror [m.1] (mirrorUnsync m.1 s)) .none st

/-- The mirrors that wait apply at the next beat boundary, in sequence order (R271). -/
def mirrorApply (s : State) : State :=
  if s.qlk.mirrors = [] then s
  else
    let s1 := s.moveTo s.beatCeil
    forAll s1.qlk.mirrors applyMirror { s1 with qlk := { s1.qlk with mirrors := [] } }

/-- The writes that bring the mirrored registers to the values listed, and those not listed to their reset values (R276). -/
def State.resyncWrites (s : State) (regs : List (Nat × Word)) : List Wr :=
  let rest := (s.mirrorRegs.map Prod.fst).filter (fun o => !(regs.map Prod.fst).contains o)
  mirrorWrites (regs.filter (fun e => mirrored e.1 && (rwsAt e.1).isSome) ++ rest.filterMap (fun o =>
    (rwsAt o).map (fun x => (o, regReset s.part x.1 x.2.1 &&& BitVec.ofNat 32 x.1.rws))))

/-- The configuration in force of the active side's mirrored blocks applies at one beat boundary; it sets MIRROR_SYNC (R276). What
the message does not list is at its reset value. -/
def resyncApply (seq : Nat) (regs : List (Nat × Word)) (s : State) : State :=
  if s.role ≠ 2 then s
  else
    let s1 := s.moveTo s.beatCeil
    let ws := s1.resyncWrites regs
    ((applyWrites ws { s1 with qlk := { s1.qlk with mirrors := [] } }).put QLK_MIRRORSEQ_SEQ seq).put QLK_PAIRSTAT_MIRROR_SYNC 1

end Sys2Proof.Machine
end

