-- ==== Sys2Proof/Machine/ReconOps.lean ====
section
/-!
DEFINITION. Sys2Proof/Machine/ReconOps.lean: reconciliation (R378), where the collector finds that a unit reports another state
than the one recorded, and what a beat boundary does by itself (R19, R22, R43, R120-R128, R346).
-/
namespace Sys2Proof.Machine
open Sys2Proof

/-! ### Reconciliation (R378) -/

/-- How many units a kind of the table of R378 has: path, port transmit, cancel link, tile, domain, snapshot slot, PWM channel,
loop slot. -/
def reconUnits (kind : Nat) : Nat := [4096, 96, 16384, 16, 80, 16, 48, 512].getD kind 0

/-- The recorded state of a unit, in the code of its status register. -/
def State.recorded (s : State) (kind i : Nat) : Nat :=
  match kind with
  | 0 => (s.path i).st
  | 1 => s.pget TILE_PORTSTAT_RAMP i
  | 2 => (s.link i).st
  | 3 => s.rstate i
  | 4 => bit (s.domainOn i)
  | 5 => s.snapState i
  | 6 => s.get PWM_CHCFG_EN i
  | _ => s.runOf i

/-- Path b becomes DISABLED at once with its ENABLE 0; a crossfade entry it belongs to ends with XFADE_ABORT (log 120). -/
def reconPath (b : Nat) (s : State) : State :=
  let t := match s.xfOf b with
    | some x => xfEvent ev_XFADE_ABORT x (xfEnd x s)
    | none => s
  if (t.path b).st = 0 then t.put FAB_PCFG0_ENABLE 0 b else xfDrop b t

/-- A unit goes into the safer state, and the configuration in force is changed to match (R378). -/
def saferState (kind i st : Nat) (s : State) : State :=
  match kind with
  | 0 => reconPath i s
  | 1 => setRamp i 0 0 s.now (s.pput TILE_DACCFG_TX_EN i 0)
  | 2 => (s.put ISO_LCFG_MU 0 i).modLink i (fun _ => {})
  | 3 =>
    let t := s.setStep i {}
    kickRadio (if st < s.rstate i then setRstate i st (t.put CLK_TCAP_CAP (max 1 st) i) else t)
  | 4 => domEffectOff i (((s.putBit PWR_DOMEN_EN i false).putBit PWR_DOMSTAT_ON i false).modDom i (fun _ => {}))
  | 5 => snapIdle i (s.put SPW_SNAPCFG0_ARM 0 i)
  | 6 => s.put PWM_CHCFG_EN 0 i
  | _ => slotStop i (s.put CTE_SLOTCFG_ENABLE 0 i)

/-- The moment of the comparison: a beat boundary for units held by RWS registers, a 1 ms point for control-complex units. -/
def State.reconAt (s : State) (kind : Nat) : Nat :=
  if kind < 6 then s.beatCeil else s.vauxAt + (s.now - s.vauxAt + Config.ms - 1) / Config.ms * Config.ms

/-- Unit `i` of a kind reports state `st`; where that is not the state recorded, the safer one wins (R378). -/
def reconcile (kind i st : Nat) (s : State) : State :=
  let old := s.recorded kind i
  if reconUnits kind ≤ i || old = st || (kind = 4 && !hostDomain i) then s
  else
    react ev_RECONCILE 382 .none (saferState kind i st)
      ((s.moveTo (s.reconAt kind)).count FLT_RECON_COUNT) (pack2 kind i) old st

/-! ### The beat boundary -/

/-- The per-beat measurements of the beat that ends: the sums of every level move into its history (R120, R121, R128). -/
def closeLevels (s : State) : State :=
  { s with fab := { s.fab with
    inLevel := s.fab.inLevel.map (fun e => (e.1, e.2.beat)), outLevel := s.fab.outLevel.map (fun e => (e.1, e.2.beat)) } }

/-- The uplink paths that are not DISABLED. -/
def State.uplinks (s : State) : List Nat := s.livePaths.filter (fun b => (s.route b).uplink)

/-- The paths that a crossfade has ended since the latest beat release the link streams no path uses any more: their sources are told
(R97, R98; DESIGN CHOICE, log 152: the spec does not say how they learn of it). -/
def sayReleased (s : State) : State :=
  let used := remoteStreams s s.enabledPaths
  let t := forAll (s.fab.freed.filter (fun e => !(s.route e.1).en)) (fun e t =>
    forAll (e.2.map Prod.fst).eraseDups (fun j u =>
      sendMsg (u.linkTo j) .release
        (e.1 :: ((e.2.filter (fun x => x.1 = j && !used.contains x)).map (fun x => [x.2.1, x.2.2])).flatten) u) t) s
  { t with fab := { t.fab with freed := [] } }

/-- Device `sid` has released path b and the streams listed (R97). -/
def takeReleased (x : Released) (s : State) : State :=
  let sid := x.sid.val
  let off := 0x150000 + 16 * x.path.val
  let gone := x.streams.map (fun y => (sid, y.1.val, y.2.val))
  { s with
    fab := { s.fab with sends := s.fab.sends.filter (fun y => !gone.contains y) }
    qlk := { s.qlk with peers := s.qlk.peers.map (fun e =>
      if e.1 = sid then (e.1, e.2.map (fun r => if r.1 = off then (r.1, r.2 &&& ~~~(1 : Word)) else r)) else e) } }

/-- The next beat boundary: crossing occupancies are compared, the beat's measurements close, the noise-rise limit and the squelch
follow them, the measured residual updates run, the gain reductions of the rung in force take hold, and released link streams are
given up (R19, R22, R43, R97, R120, R121, R266, R346). -/
def beatBoundary (slips : List Nat) (resid : List BgcUpdate) (released : List Released) (s : State) : State :=
  let s1 := sayReleased (forAll released takeReleased (sendToken (sendGridMark (closeLevels (s.moveTo s.nextBeat)))))
  let s2 := forAll slips slip s1
  let s3 := forAll s2.uplinks (fun b t => squelchBeat b (noiseRise b t)) s2
  let s4 := bgcBeats resid (forAll s3.fab.latDue (fun x t => latencyApply x.1 x.2 t) s3)
  { s4 with fab := { s4.fab with latDue := [] }, rps := { s4.rps with dlNow := s4.get RPS_SHEDSTAT_DL_RED, ulNow := s4.get RPS_SHEDSTAT_UL_RED } }

/-- A range change reaches the compensation, and the raw slots that hold its groups show SEAM and RANGE (R39, R158). -/
def compSwitchRow (p : Nat) (s : State) : State :=
  match (s.unit p).comp with
  | [] => s
  | (c, code) :: _ =>
    let lo := (c - 164) / 16
    let t := forAll (List.range ((c + 163) / 16 + 1 - lo)) (fun i u => markRaw p 2 (lo + i) u) (compSwitch p s)
    noteSnapAtt true p c code (markRaw p 8 (c / 16) t)

/-- An over-range group, which the raw slots that hold its groups show too (R44, R158). -/
def ovrDetectRow (u g : Nat) (s : State) : State :=
  forAll (List.range 7) (fun i t => if 2 ≤ g + i then markRaw u 1 (g + i - 2) t else t) (ovrDetect u g s)

/-! ### Commands that act on a snapshot slot (R156, R157, R220) -/

/-- SNAP_TRIGGER. With AT_INDEX = 0 the trigger is the first sample of the next beat. -/
def snapTriggerCmd (r tag slot : Nat) (atIndex : Bool) (idx : Nat) (s : State) : State :=
  if 16 ≤ slot then completeCmd r tag stINVALID_FIELD s
  else if s.snapState slot ≠ 1 then completeCmd r tag stWRONG_STATE s
  else
    let first := (s.beatNow + 1) * (if s.snapRaw slot then 1048576 else 1024)
    completeCmd r tag stSUCCESS (snapTrig slot 1 (if atIndex then idx else first) s)

/-- SNAP_MOVE. -/
def snapMoveCmd (r tag slot : Nat) (s : State) : State :=
  if 16 ≤ slot then completeCmd r tag stINVALID_FIELD s
  else if s.snapState slot ≠ 3 then completeCmd r tag stWRONG_STATE s
  else completeCmd r tag stSUCCESS (startMove slot s)

end Sys2Proof.Machine
end

