-- ==== Sys2Proof/Machine/PinOps.lean ====
section
/-!
DEFINITION. Sys2Proof/Machine/PinOps.lean: the signal pins of the control I/O: the bank each stands in, the levels the outputs have,
and the inputs that a bank without a level leaves inactive (R404, R405).
-/
namespace Sys2Proof.Machine
open Sys2Proof

/-- The push-pull and open-drain outputs of R404 whose levels the state fixes. -/
inductive OutPin where
  | paBiasEn (n : Nat) | paEn (n : Nat) | qgntOut (q : Nat) | qreqOut (q : Nat) | bullpenSel (t : Nat)
  | alignOut | ppsOut | pwmOut (c : Nat) | segen (g : Nat) | faultN
  deriving DecidableEq, Repr

/-- Bank of an output (R404). -/
def OutPin.bank : OutPin → Nat
  | .paBiasEn n | .paEn n => if n < 48 then 4 else 5
  | .qgntOut _ | .qreqOut _ | .bullpenSel _ => 6
  | .alignOut | .ppsOut => 7
  | .pwmOut c => if c < 24 then 2 else 3
  | .segen _ => 1
  | .faultN => 0

/-- The level the owning block gives an output: true high. FAULT_N is high where it is released. -/
def State.driven (s : State) : OutPin → Bool
  | .paBiasEn n => (s.pa n).bias
  | .paEn n => (s.pa n).en
  | .qgntOut q => s.flag CLK_QSTAT_GNT q
  | .qreqOut i => s.flag CLK_QSTAT_REQ (4 + i)
  | .bullpenSel t => s.bullpenSel t
  | .alignOut => s.now < s.qlk.alignTill
  | .ppsOut => s.now < s.tim.outTill
  | .pwmOut c => s.pinAt c s.now
  | .segen g => s.boot.island && s.segOn g
  | .faultN => !s.faultLow

/-- The level of an output; none while it is at high impedance: its bank has no level, or VAUX is not valid (R404, R405). -/
def State.outLevel (s : State) (p : OutPin) : Option Bool := if s.boot.dark || !s.ioOk p.bank then none else some (s.driven p)

/-- What an edge on an input pin of bank k does: nothing where the bank has no level (R405). -/
def pinIn (k : Nat) (f : State → State) (s : State) : State := if s.ioOk k then f s else s

/-- Bank of PA_FLT_N of port n (R404). -/
def paBank (n : Nat) : Nat := if n < 48 then 4 else 5

end Sys2Proof.Machine
end

