-- ==== Sys2Proof/Machine/Rows.lean ====
section
/-!
DEFINITION. Sys2Proof/Machine/Rows.lean: the shapes a command's meaning takes: an event of the block, a power-side event, a BAR0
write, a doorbell, a ring command.
-/
namespace Sys2Proof.Machine
open Sys2Proof

/-- What a command answers. -/
abbrev Out := Host.Outcome State Fault Refusal

/-- An event of the block: its effect, then what follows at the same moment. -/
def row (f : State → State) (s : State) : Out := act {} (fun t => settled (f t)) s

/-- An event of the measurement, control or power side, after which trips, guards and the rack logic are evaluated too. -/
def rowP (f : State → State) (s : State) : Out := act {} (fun t => powered (f t)) s

/-- An event that may change the locked pages (R195, R199). -/
def rowLock (f : State → State) (s : State) : Out := act { locks := true } (fun t => settled (f t)) s

/-- A BAR0 write of an aligned word by the host. -/
def hostReg (off : Nat) (v : Word) (s : State) : Out := hostAct (fun t => powered (bar0Word off v t)) s

/-- A doorbell or another write of the host over the PCI Express link. -/
def hostBell (f : State → State) (s : State) : Out := hostAct (fun t => settled (hostWrite f t)) s

/-- A command fetched from a ring (R216, R220); where the read of its descriptor fails, the ring stops (R244). -/
def hostCmd (d : Desc) (f : State → State) (s : State) : Out :=
  hostAct (fun t => settled (if d.lost then fetchFails d.ring t else f t)) s

/-- A byte is not 0 that no command but BEGIN or a member may set (R220). -/
def descBad (d : Desc) : Bool := d.flags ≠ 0 || d.sid ≠ 0 || d.extra

/-- A command that is neither a member nor BEGIN nor COMMIT. -/
def ringCmd (d : Desc) (k : Nat → Nat → State → State) (s : State) : Out :=
  hostCmd d (command d.ring d.tag.toNat (descBad d) (k d.ring d.tag.toNat)) s

/-- A member with its common bytes: the device it addresses, and whether a byte that its opcode does not define is not 0. -/
def memberOf (d : Desc) (bad : Bool) (m : Member) : Member :=
  { m with sid := d.sid.toNat, bad := d.flags ≠ 0 || d.extra || bad }

/-- A member descriptor of `size` bytes: `none` where the read of host memory failed (R224). -/
def memberCmd (d : Desc) (size : Nat) (m : Option Member) (s : State) : Out :=
  hostCmd d (addMember d.ring d.tag.toNat size m) s

end Sys2Proof.Machine
end

