-- ==== Sys2Proof/Machine/PortRows.lean ====
section
/-!
DEFINITION. Sys2Proof/Machine/PortRows.lean: the meanings of the commands of the clock grid, crossings and sampling ports (R4-R55), one definition each.
-/
namespace Sys2Proof.Machine
open Sys2Proof

/-- REGISTER_WRITE: a BAR0 write by its access code (R4-R7); an offset beyond BAR0 does not exist. -/
def execRegisterWrite (off : Nat) (bytes : Fin 9) (val : BitVec 64) (s : State) : Out :=
  if 0x400000 ≤ off then .fault .outsideBar0 else hostAct (fun t => powered (registerWrite off bytes val.toNat t)) s

/-- COUNTER_CLEAR: a write of a counter that 0xFFFF_FFFF clears (R81, R103, R164, R209, R243, R244, R246, R277). -/
def execCounterClear (off : Nat) (val : Word) (s : State) : Out :=
  if 0x400000 ≤ off then .fault .outsideBar0 else hostReg off val s

/-- BEAT_BOUNDARY (R19, R22, R43, R120). -/
def execBeatBoundary (slips : List (Fin 36)) (report : BeatReport) (s : State) : Out :=
  row (beatBoundary (slips.map (fun i => i.val)) report.resid report.released) s

/-- ALIGNMENT_PULSE (R16, R17, R257). -/
def execAlignmentPulse (s : State) : Out :=
  row (fun t => if t.isMaster then alignmentPulse t else pinIn 7 alignmentPulse t) s

/-- SLIP_REPIN (R19). -/
def execSlipRepin (island : Fin 36) (s : State) : Out :=
  row (slipRepin island) s

/-- UNIT_REPIN (R169, R362). -/
def execUnitRepin (island : Fin 36) (s : State) : Out :=
  row (repin island) s

/-- MERGER_SLOT (R41, R158). -/
def execMergerSlot (u : Fin 112) (a b : List Burst) (s : State) : Out :=
  row (fun t =>
    let v := mergerSlot u (a.map (fun x => (x.tag.toNat, x.codes))) (b.map (fun x => (x.tag.toNat, x.codes))) t
    if t.converting u then captureRaw u v else v) s

/-- STORM_RECAL_DONE (R42, R48). -/
def execStormRecalDone (u : Fin 112) (meas : Option (List Word)) (s : State) : Out :=
  row (stormRecalDone u meas) s

/-- RX_GAP_END (R428). -/
def execRxGapEnd (u : Fin 112) (s : State) : Out :=
  row (rxGapEnd u) s

/-- ARC_INTERVAL (R36). -/
def execArcInterval (p : Fin 96) (s : State) : Out :=
  row (arcInterval p) s

/-- COMP_SWITCH (R38, R39). -/
def execCompSwitch (p : Fin 96) (s : State) : Out :=
  row (compSwitchRow p) s

/-- OVR_DETECT (R44, R48). -/
def execOvrDetect (u : Fin 112) (group : Nat) (s : State) : Out :=
  row (ovrDetectRow u group) s

/-- BGC_CONVERGED (R43). -/
def execBgcConverged (u : Fin 112) (s : State) : Out :=
  row (bgcConverged u) s

/-- TBAND_SET (R43, R355). -/
def execTbandSet (t : Fin 16) (s : State) : Out :=
  row (tbandSet t) s

/-- DAC_RAMP_DONE (R45). -/
def execDacRampDone (p : Fin 96) (s : State) : Out :=
  row (dacRampDone p) s

/-- BUBBLE_MUTE_RELEASE: a write of 1 to PORTSTAT.BUBBLE_MUTE (R42). -/
def execBubbleMuteRelease (p : Fin 96) (s : State) : Out :=
  hostReg (regOff TILE_PORTSTAT (p.val / 6) (p.val % 6)) 0x200#32 s

/-- ORX_SETTLE_END (R48). -/
def execOrxSettleEnd (t : Fin 16) (s : State) : Out :=
  row (orxSettleEnd t) s

/-- CONV_CAL (R49). -/
def execConvCal (d : Desc) (mask : BitVec 16) (save : Bool) (s : State) : Out :=
  ringCmd d (fun r tag => convCal r tag mask.toNat save) s

/-- CAL_DONE (R49, R53). -/
def execCalDone (t : Fin 16) (meas : List (List Word)) (s : State) : Out :=
  row (calDone t meas) s

/-- CAL_SAVE_DONE (R52, R207). -/
def execCalSaveDone (ok : Bool) (s : State) : Out :=
  row (calSaveDone ok) s

end Sys2Proof.Machine
end

