-- ==== Sys2Proof/Machine/FabricRows.lean ====
section
/-!
DEFINITION. Sys2Proof/Machine/FabricRows.lean: the meanings of the commands of the sub-band data path and the band fabric (R56-R104), one definition each.
-/
namespace Sys2Proof.Machine
open Sys2Proof

/-- SUBBAND_SAMPLE (R69, R93, R97, R159, R161, R252). -/
def execSubbandSample (missIn : MissingIn) (missOut : List (Fin 96 × Fin 1024)) (remote : List RemoteSmp) (s : State) : Out :=
  row (fun t =>
    let u := sampleStep (missIn.fabric.map (fun x => (x.1.val, x.2.val))) (missOut.map (fun x => (x.1.val, x.2.val)))
      (missIn.cxl.map Fin.val) (missIn.watch.map Fin.val) remote t
    let n := u.fab.sampN - 1
    sendStreams n (dwellsTo n (captureSub n u))) s

/-- PROTO_SWITCH_END (R63, R73). -/
def execProtoSwitchEnd (p : Fin 96) (s : State) : Out :=
  row (protoSwitchEnd p) s

/-- VOLLEY_APPLY (R229); a protected Volley changes the locked pages (R199). -/
def execVolleyApply (v : Fin 8) (s : State) : Out :=
  rowLock (volleyApply v) s

/-- XFADE_START (R100). -/
def execXfadeStart (x : Fin 64) (s : State) : Out :=
  row (xfadeStart x) s

/-- XFADE_DONE (R100). -/
def execXfadeDone (x : Fin 64) (s : State) : Out :=
  row (xfadeDone x) s

/-- XFADE_ABORT (R101). -/
def execXfadeAbort (x : Fin 64) (s : State) : Out :=
  row (xfadeAbort x) s

/-- REMOTE_INPUT_RESUME (R98). -/
def execRemoteInputResume (l : Fin 4) (s : State) : Out :=
  row (remoteResume l) s

/-- ROUTE_ECC (R104). -/
def execRouteEcc (q : Fin 4) (s : State) : Out :=
  row (emit ev_ROUTE_ECC (112 + q.val)) s

/-- ROUTE_ECC_FATAL (R104). -/
def execRouteEccFatal (q : Fin 4) (s : State) : Out :=
  row (routeFatal q) s

/-- ROUTE_RELOAD (R104). -/
def execRouteReload (q : Fin 4) (s : State) : Out :=
  row (routeReload q) s

end Sys2Proof.Machine
end

