-- ==== Sys2Proof/Machine/IsoRows.lean ====
section
/-!
DEFINITION. Sys2Proof/Machine/IsoRows.lean: the meanings of the commands of loop isolation (R105-R135), one definition each.
-/
namespace Sys2Proof.Machine
open Sys2Proof

/-- ISO_BLOCK_END (R108). -/
def execIsoBlockEnd (s : State) : Out :=
  row isoBlockEnd s

/-- BACKOFF_STEP (R116). -/
def execBackoffStep (b : Fin 4096) (s : State) : Out :=
  row (backoffStep b) s

/-- BACKOFF_RECOVERED (R117). -/
def execBackoffRecovered (b : Fin 4096) (s : State) : Out :=
  row (backoffRecovered b) s

/-- BACKOFF_RELEASE_STEP (R117). -/
def execBackoffReleaseStep (b : Fin 4096) (s : State) : Out :=
  row (backoffRelease b) s

/-- PATH_SHUTDOWN (R118). -/
def execPathShutdown (b : Fin 4096) (s : State) : Out :=
  row (pathShutdown b) s

/-- PATH_RESTART (R118). -/
def execPathRestart (b : Fin 4096) (s : State) : Out :=
  row (pathRestart b) s

/-- ISO_CLEAR_LOCKOUT (R119). -/
def execIsoClearLockout (b : Fin 4096) (s : State) : Out :=
  row (clearLockout b) s

/-- ISO_CLEAR_OFFSIDE (R119). -/
def execIsoClearOffside (b : Fin 4096) (s : State) : Out :=
  row (clearOffside b) s

/-- SQUELCH (R121). -/
def execSquelch (b : Fin 4096) (s : State) : Out :=
  row (squelchOn b) s

/-- SQUELCH_END (R121). -/
def execSquelchEnd (b : Fin 4096) (s : State) : Out :=
  row (squelchOff b) s

/-- COLD_START_STEP (R127). -/
def execColdStartStep (b : Fin 4096) (s : State) : Out :=
  row (coldStartStep b) s

/-- TRAIN_LIMITED (R129). -/
def execTrainLimited (b : Fin 4096) (s : State) : Out :=
  row (trainLimited b) s

/-- SEED_WRITE (R130). -/
def execSeedWrite (l : Fin 16384) (s : State) : Out :=
  row (seedWrite l) s

/-- CXL_ECC (R131, R135). -/
def execCxlEcc (c : Fin 8) (s : State) : Out :=
  row (fun t => emit ev_CXL_ECC (116 + c.val) (t.count ISO_SLICESTAT_ECC_CORR c)) s

/-- CXL_SLICE_LOST (R113). -/
def execCxlSliceLost (c : Fin 8) (s : State) : Out :=
  row (sliceLost c) s

/-- SLICE_RELOAD (R113). -/
def execSliceReload (c : Fin 8) (s : State) : Out :=
  row (sliceReload c) s

/-- ISO_LSEL_SNAPSHOT: a write of ISO_LSEL (R131). -/
def execIsoLselSnapshot (val : Word) (s : State) : Out :=
  hostReg (regOff ISO_LSEL 0 0) val s

end Sys2Proof.Machine
end

