-- ==== Sys2Proof/Machine/WatchRows.lean ====
section
/-!
DEFINITION. Sys2Proof/Machine/WatchRows.lean: the meanings of the commands of the spectrum watch, Offside and snapshots (R136-R167), one definition each.
-/
namespace Sys2Proof.Machine
open Sys2Proof

/-- FINE_TRANSFORM (R136-R146). -/
def execFineTransform (n : Fin 96) (s : State) : Out :=
  row (fineTransform n) s

/-- INTEGRATION_END (R141, R147). -/
def execIntegrationEnd (n : Fin 96) (s : State) : Out :=
  row (integrationEnd n) s

/-- PRODUCT_HANDOVER (R150, R151). -/
def execProductHandover (n : Fin 96) (s : State) : Out :=
  row (productHandover n) s

/-- WATCH_ECC (R167). -/
def execWatchEcc (w : Fin 8) (s : State) : Out :=
  row (emit ev_WATCH_ECC (144 + w.val)) s

/-- WATCH_SLICE_LOST (R154). -/
def execWatchSliceLost (w : Fin 8) (s : State) : Out :=
  row (watchLost w) s

/-- WATCH_SLICE_RESTART (R154). -/
def execWatchSliceRestart (w : Fin 8) (s : State) : Out :=
  row (watchRestart w) s

/-- SNAP_TRIGGER (R157, R220). -/
def execSnapTrigger (d : Desc) (slot : Byte) (atIndex : Bool) (idx : BitVec 64) (s : State) : Out :=
  ringCmd d (fun r tag => snapTriggerCmd r tag slot.toNat atIndex idx.toNat) s

/-- SNAP_DONE (R156). -/
def execSnapDone (x : Fin 16) (s : State) : Out :=
  row (snapDone x) s

/-- SNAP_MOVE (R156, R220). -/
def execSnapMove (d : Desc) (slot : Byte) (s : State) : Out :=
  ringCmd d (fun r tag => snapMoveCmd r tag slot.toNat) s

/-- SNAP_MOVED (R156). -/
def execSnapMoved (x : Fin 16) (s : State) : Out :=
  row (snapMoved x) s

/-- SNAP_ABORT (R156). -/
def execSnapAbort (x : Fin 16) (s : State) : Out :=
  row (snapAbort x) s

/-- CAPTURE_ECC (R167). -/
def execCaptureEcc (x : Fin 16) (s : State) : Out :=
  row (emit ev_CAPTURE_ECC (152 + x.val)) s

/-- OFFSIDE_DWELL_END (R161, R162, R124-R126). -/
def execOffsideDwellEnd (t : Fin 16) (n : Fin 8) (level : List (Fin 1024 × Nat)) (s : State) : Out :=
  row (offsideDwellEnd t n (level.map (fun x => (x.1.val, x.2)))) s

end Sys2Proof.Machine
end

