-- ==== Sys2Proof/Machine/RadioRows.lean ====
section
/-!
DEFINITION. Sys2Proof/Machine/RadioRows.lean: the meanings of the commands of radio states, synthesizers, amplifier sequencing and quiet requests (R168-R186, R193), one definition each.
-/
namespace Sys2Proof.Machine
open Sys2Proof

/-- The unit a radio step names: a tile, or the device as unit 16. -/
def unitOf (u : Option (Fin 16)) : Nat := match u with
  | some t => t.val
  | none => 16

/-- STANDBY_TO_SYNTH (R169, R172). -/
def execStandbyToSynth (u : Option (Fin 16)) (s : State) : Out :=
  row (standbyToSynth (unitOf u)) s

/-- SYNTH_TO_RECEIVE (R169). -/
def execSynthToReceive (u : Option (Fin 16)) (s : State) : Out :=
  row (synthToReceive (unitOf u)) s

/-- PA_BIAS_EN_HIGH (R178). -/
def execPaBiasEnHigh (t : Fin 16) (s : State) : Out :=
  row (paBiasHigh t) s

/-- PA_EN_HIGH (R178). -/
def execPaEnHigh (p : Fin 96) (s : State) : Out :=
  row (paEnHigh p) s

/-- PA_BIAS_EN_LOW (R178). -/
def execPaBiasEnLow (p : Fin 96) (s : State) : Out :=
  row (paBiasLow p) s

/-- RELAY_TO_RECEIVE (R169). -/
def execRelayToReceive (u : Option (Fin 16)) (s : State) : Out :=
  row (relayToReceive (unitOf u)) s

/-- RECEIVE_TO_SYNTH (R169). -/
def execReceiveToSynth (u : Option (Fin 16)) (s : State) : Out :=
  row (receiveToSynth (unitOf u)) s

/-- SYNTH_TO_STANDBY (R169). -/
def execSynthToStandby (u : Option (Fin 16)) (s : State) : Out :=
  row (synthToStandby (unitOf u)) s

/-- SLEEP_ENTRY (R169, R170). -/
def execSleepEntry (s : State) : Out :=
  rowP sleepEntry s

/-- SYNTH_CAL (R174). -/
def execSynthCal (d : Desc) (mask : Byte) (s : State) : Out :=
  ringCmd d (fun r tag => synthCal r tag mask.toNat) s

/-- SYNTH_CAL_DONE (R174). -/
def execSynthCalDone (q : Fin 4) (s : State) : Out :=
  row (synthCalDone q) s

/-- SYNTH_UNLOCK (R176). -/
def execSynthUnlock (q : Fin 4) (s : State) : Out :=
  row (synthUnlock q) s

/-- FORCED_CAP_CLEAR: a write of CLK_TSTAT (R171, R185). -/
def execForcedCapClear (t : Fin 16) (val : Word) (s : State) : Out :=
  hostReg (regOff CLK_TSTAT t 0) val s

/-- PA_FAULT (R179). -/
def execPaFault (p : Fin 96) (s : State) : Out :=
  row (pinIn (paBank p) (paFault p)) s

/-- PA_FLT_HIGH (R179). -/
def execPaFltHigh (p : Fin 96) (s : State) : Out :=
  row (pinIn (paBank p) (paFltHigh p)) s

/-- PA_FLT_CLEAR: a write of PASTAT (R180). -/
def execPaFltClear (p : Fin 96) (val : Word) (s : State) : Out :=
  hostReg (regOff TILE_PASTAT (p.val / 6) (p.val % 6)) val s

/-- QREQ_IN_RISE (R181). -/
def execQreqInRise (q : Fin 4) (s : State) : Out :=
  row (pinIn 6 (qreqRise q)) s

/-- QGRANT (R181). -/
def execQgrant (q : Fin 4) (s : State) : Out :=
  row (qgrant q) s

/-- QREQ_IN_FALL (R181). -/
def execQreqInFall (q : Fin 4) (s : State) : Out :=
  row (pinIn 6 (qreqFall q)) s

/-- QGNT_IN_RISE (R182). -/
def execQgntInRise (q : Fin 4) (s : State) : Out :=
  row (pinIn 6 (qgntRise q)) s

/-- QGNT_IN_FALL (R182). -/
def execQgntInFall (q : Fin 4) (s : State) : Out :=
  row (pinIn 6 (qgntFall q)) s

/-- QGNT_TIMEOUT (R183). -/
def execQgntTimeout (q : Fin 4) (s : State) : Out :=
  row (qgntTimeout q) s

/-- GATE_BLOCK_END (R193). -/
def execGateBlockEnd (s : State) : Out :=
  row gateBlockEnd s

end Sys2Proof.Machine
end

