-- ==== Sys2Proof/Machine/LockRows.lean ====
section
/-!
DEFINITION. Sys2Proof/Machine/LockRows.lean: the meanings of the commands of the regulatory locks and the persistent store (R187-R210), one definition each.
-/
namespace Sys2Proof.Machine
open Sys2Proof

/-- NONCE_GET (R196). -/
def execNonceGet (d : Desc) (addr : BitVec 64) (s : State) : Out :=
  ringCmd d (fun r tag => nonceGet r tag addr.toNat) s

/-- NONCE_EXPIRY (R196). -/
def execNonceExpiry (s : State) : Out :=
  row nonceExpiry s

/-- LOCK_CHANGE, a member (R195, R224). -/
def execLockChange (d : Desc) (len : Word) (record : Option (List Byte)) (s : State) : Out :=
  memberCmd d len.toNat (record.map (fun l => memberOf d false { lock := some (l.map BitVec.toNat) })) s

/-- LOCK_JOURNAL_SEALED (R199). -/
def execLockJournalSealed (v : Fin 4) (s : State) : Out :=
  row (journalSealed v) s

/-- LOCK_APPLIED (R199, R276). -/
def execLockApplied (v : Fin 4) (s : State) : Out :=
  rowLock (fun t => compareLocks (lockApplied v t)) s

/-- PERSISTENT_WRITE: a write of a persistent register (R202). -/
def execPersistentWrite (off : Nat) (val : Word) (s : State) : Out :=
  if 0x400000 ≤ off then .fault .outsideBar0 else hostReg off val s

/-- PAGE_COMMIT (R202, R204). -/
def execPageCommit (page : Fin 256) (s : State) : Out :=
  row (pageCommit page) s

/-- PGSEL_SNAPSHOT: a write of PST_PGSEL (R209). -/
def execPgselSnapshot (val : Word) (s : State) : Out :=
  hostReg (regOff PST_PGSEL 0 0) val s

/-- OPTIME_CELL_WRITE (R208). -/
def execOptimeCellWrite (s : State) : Out :=
  row opTimeCell s

end Sys2Proof.Machine
end

