-- ==== Sys2Proof/Machine/HostRows.lean ====
section
/-!
DEFINITION. Sys2Proof/Machine/HostRows.lean: the meanings of the commands of rings, doorbells, Volleys and the host link (R211-R247), one definition each.
-/
namespace Sys2Proof.Machine
open Sys2Proof

/-- The ring kind of code 0 to 3: command, completion, event, stream. -/
def rkindOf (k : Fin 4) : RKind := match k with
  | 0 => .cmd
  | 1 => .cpl
  | 2 => .evt
  | 3 => .str

/-- CMD_TAIL_DOORBELL (R218). -/
def execCmdTailDoorbell (r : Fin 16) (val : Word) (s : State) : Out :=
  hostBell (bar2Write (0x40 * r.val) 4 val none) s

/-- CPL_HEAD_DOORBELL (R218). -/
def execCplHeadDoorbell (c : Fin 16) (val : Word) (s : State) : Out :=
  hostBell (bar2Write (0x400 + 0x40 * c.val) 4 val none) s

/-- EVT_HEAD_DOORBELL (R218). -/
def execEvtHeadDoorbell (e : Fin 8) (val : Word) (s : State) : Out :=
  hostBell (bar2Write (0x800 + 0x40 * e.val) 4 val none) s

/-- STREAM_TAIL_DOORBELL (R218, R223). -/
def execStreamTailDoorbell (r : Fin 64) (val : Word) (posted : Option (List (Nat × Nat))) (s : State) : Out :=
  hostBell (bar2Write (0xA00 + 0x40 * r.val) 4 val posted) s

/-- HEARTBEAT: any value is a heartbeat (R232). -/
def execHeartbeat (val : Word) (s : State) : Out :=
  hostBell (bar2Write 0x1A00 4 val none) s

/-- RING_ENABLE: a write of CFG with EN = 1 (R215). -/
def execRingEnable (off : Nat) (val : Word) (s : State) : Out :=
  if 0x400000 ≤ off then .fault .outsideBar0 else hostReg off val s

/-- RING_DISABLE: a write of CFG with EN = 0 (R215). -/
def execRingDisable (off : Nat) (val : Word) (s : State) : Out :=
  if 0x400000 ≤ off then .fault .outsideBar0 else hostReg off val s

/-- BEGIN (R220, R227). -/
def execBegin (d : Desc) (s : State) : Out :=
  hostCmd d (beginVolley d.ring d.tag.toNat d.flags.toNat (d.sid ≠ 0 || d.extra)) s

/-- WRITE32, a member (R220, R224). -/
def execWrite32 (d : Desc) (off val : Word) (s : State) : Out :=
  memberCmd d 4 (some (memberOf d false ⟨0, off.toNat, [val], none, false⟩)) s

/-- WRITE_BLOCK, a member (R220, R224). -/
def execWriteBlock (d : Desc) (off count : Word) (data : Option (List Word)) (s : State) : Out :=
  memberCmd d (4 * count.toNat) (data.map (fun l => memberOf d (count = 0 || 16384 < count.toNat) ⟨0, off.toNat, l,
    none, false⟩)) s

/-- COMMIT (R220, R226, R227). -/
def execCommit (d : Desc) (op : CommitOp) (s : State) : Out :=
  hostCmd d (commitVolley d.ring d.tag.toNat (descBad d) op) s

/-- ABORT (R220, R227). -/
def execAbort (d : Desc) (slot : Fin 4) (opened : Bool) (s : State) : Out :=
  hostCmd d (abortVolley d.ring d.tag.toNat (descBad d) opened slot) s

/-- NOP (R220). -/
def execNop (d : Desc) (s : State) : Out :=
  ringCmd d (fun r tag => completeCmd r tag stSUCCESS) s

/-- INVALID_OPCODE: an opcode that is not listed (R220). -/
def execInvalidOpcode (d : Desc) (_opcode : Byte) (s : State) : Out :=
  hostCmd d (command d.ring d.tag.toNat false (completeCmd d.ring d.tag.toNat stINVALID_OPCODE)) s

/-- VOLLEY_VALIDATION (R228). -/
def execVolleyValidation (v : Fin 4) (s : State) : Out :=
  row (volleyValidation v) s

/-- STACK_PREPARE (R231). -/
def execStackPrepare (slot : Fin 4) (beat : Nat) (mode : Fin 3) (given : Nat) (offs : List (Word × Word))
    (sends : List (Fin 4 × Fin 96 × Fin 1024)) (s : State) : Out :=
  row (stackPrepare slot beat mode given (offs.map (fun x => (x.1.toNat, x.2))) (sends.map (fun x => (x.1.val,
    x.2.1.val, x.2.2.val)))) s

/-- STACK_READY (R231). -/
def execStackReady (v : Fin 4) (sid : Fin 4) (status : BitVec 16) (index : Nat) (s : State) : Out :=
  row (stackReady v sid status.toNat index) s

/-- STACK_GO_DECISION (R231). -/
def execStackGoDecision (v : Fin 4) (s : State) : Out :=
  row (stackGoDecision v) s

/-- STACK_GO (R231). -/
def execStackGo (slot : Fin 4) (s : State) : Out :=
  row (stackGo slot) s

/-- STACK_ABORT (R231). -/
def execStackAbort (slot : Fin 4) (s : State) : Out :=
  row (stackAbort slot) s

/-- STACK_VOLLEY_DISCARD (R231). -/
def execStackVolleyDiscard (slot : Fin 4) (s : State) : Out :=
  row (stackDiscard slot) s

/-- STACK_ACK (R231). -/
def execStackAck (v : Fin 4) (sid : Fin 4) (s : State) : Out :=
  row (stackAck v sid) s

/-- STACK_COMPLETION (R231). -/
def execStackCompletion (v : Fin 4) (s : State) : Out :=
  row (stackCompletion v) s

/-- HOST_LOST (R232, R233). -/
def execHostLost (s : State) : Out :=
  row heartbeatMissed s

/-- HOST_LOST_CLEAR: a write of HIF_HBSTAT (R233). -/
def execHostLostClear (val : Word) (s : State) : Out :=
  hostReg (regOff HIF_HBSTAT 0 0) val s

/-- RECORD_WAIT_TIMEOUT (R236). -/
def execRecordWaitTimeout (idx : Nat) (s : State) : Out :=
  row (recordTimeout idx) s

/-- EXPORT_LINK (R237, R247). -/
def execExportLink (e : Fin 8) (up : Bool) (s : State) : Out :=
  row (exportLink e up) s

/-- EXPORT_TRANSMIT (R238, R240). -/
def execExportTransmit (e : Fin 8) (s : State) : Out :=
  row (exportTransmit e) s

/-- PFC_PAUSE (R238). -/
def execPfcPause (e : Fin 8) (pause : Bool) (s : State) : Out :=
  row (exportReceive e (.pfc pause)) s

/-- INTERRUPT_TIMER (R244). -/
def execInterruptTimer (kind : Fin 4) (i : Fin 64) (s : State) : Out :=
  row (interruptTimer (rkindOf kind) i) s

/-- PCIE_LINK_UP (R211, R392). -/
def execPcieLinkUp (gen : Fin 7) (width : Fin 17) (s : State) : Out :=
  row (pcieUp gen width) s

/-- PCIE_LINK_DOWN (R211, R232). -/
def execPcieLinkDown (s : State) : Out :=
  row pcieDown s

/-- READY_FOR_LINK_TRAINING (R392). -/
def execReadyForLinkTraining (s : State) : Out :=
  row linkTrainingReady s

/-- BUS_MASTER_ENABLE (R213). -/
def execBusMasterEnable (on : Bool) (s : State) : Out :=
  hostBell (masterEnable on) s

end Sys2Proof.Machine
end

