-- ==== Sys2Proof/Machine/LinkRows.lean ====
section
/-!
DEFINITION. Sys2Proof/Machine/LinkRows.lean: the meanings of the commands of Quirov links, stacks and pairs, device time (R248-R279), one definition each.
-/
namespace Sys2Proof.Machine
open Sys2Proof

/-- LINK_TRAIN (R255). -/
def execLinkTrain (l : Fin 4) (s : State) : Out :=
  row (linkTrain l) s

/-- LINK_ALIGNING (R255, R256). -/
def execLinkAligning (l : Fin 4) (peerSid : Fin 4) (peerSide : Bool) (peerLink : Fin 4) (delay : Nat) (s : State) : Out :=
  row (linkAligning l peerSid peerSide peerLink delay) s

/-- LINK_TRAIN_TIMEOUT (R255). -/
def execLinkTrainTimeout (l : Fin 4) (s : State) : Out :=
  row (linkTimeout l) s

/-- LINK_RETRY (R255). -/
def execLinkRetry (l : Fin 4) (s : State) : Out :=
  row (linkRetry l) s

/-- LINK_UP (R255, R269, R276). -/
def execLinkUp (l : Fin 4) (peerRole : Fin 5) (peerLocks : List Word) (s : State) : Out :=
  row (linkUp l peerRole peerLocks) s

/-- LINK_DOWN (R255). -/
def execLinkDown (l : Fin 4) (s : State) : Out :=
  row (linkDown l) s

/-- LINK_CRC (R254). -/
def execLinkCrc (l : Fin 4) (stream : Option (Fin 4 × Fin 96 × Fin 1024 × Nat)) (s : State) : Out :=
  row (linkCrc l (stream.map (fun x => (x.1.val, x.2.1.val, x.2.2.1.val, x.2.2.2)))) s

/-- LINK_CREDIT_STALL (R253). -/
def execLinkCreditStall (l : Fin 4) (s : State) : Out :=
  row (creditStall l) s

/-- LINK_RETRAIN (R276). -/
def execLinkRetrain (d : Desc) (mask : Byte) (s : State) : Out :=
  ringCmd d (fun r tag => linkRetrain r tag mask.toNat) s

/-- CREDITS_RETURNED (R253). -/
def execCreditsReturned (l : Fin 4) (pool : Fin 4) (given : CreditReturn) (s : State) : Out :=
  row (creditsReturned l pool given.n given.flit) s

/-- GRID_MARK (R258). -/
def execGridMark (beat : Nat) (time : Nat) (s : State) : Out :=
  row (gridMark beat time) s

/-- STACK_REALIGN (R259, R276). -/
def execStackRealign (d : Desc) (s : State) : Out :=
  ringCmd d stackRealign s

/-- BEAT_TOKEN (R260, R265, R266). -/
def execBeatToken (time : Nat) (token : Token) (s : State) : Out :=
  row (beatToken time token) s

/-- STACK_MASTER_LOST (R266). -/
def execStackMasterLost (s : State) : Out :=
  row tokenTimeout s

/-- DUGOUT_MSG (R266). -/
def execDugoutMsg (s : State) : Out :=
  row dugoutMsg s

/-- STACK_MEMBER_LOST (R267). -/
def execStackMemberLost (sid : Fin 4) (s : State) : Out :=
  row (memberLost sid) s

/-- TIM_FRAC_READ (R261). -/
def execTimFracRead (s : State) : Out :=
  hostBell timFracRead s

/-- TIME_SET_ARM: a write of TIM_SET2 (R262). -/
def execTimeSetArm (val : Word) (s : State) : Out :=
  hostReg (regOff TIM_SET2 0 0) val s

/-- TIME_SET (R262, R264). -/
def execTimeSet (s : State) : Out :=
  row timeSet s

/-- PPS_EDGE (R263). -/
def execPpsEdge (s : State) : Out :=
  row (pinIn 7 ppsEdge) s

/-- PPS_LOST (R263). -/
def execPpsLost (s : State) : Out :=
  row ppsLost s

/-- PPS_OUT_PULSE (R263). -/
def execPpsOutPulse (s : State) : Out :=
  row ppsOut s

/-- PTP_SYNC (R264). -/
def execPtpSync (port : Fin 2) (domain : Byte) (offset : Int) (s : State) : Out :=
  row (ptpSync port domain.toNat offset) s

/-- MIRROR_RECEIVE (R271). -/
def execMirrorReceive (seq : Word) (whole : Bool) (members : List (Word × Word)) (s : State) : Out :=
  row (mirrorReceive seq.toNat whole (members.map (fun x => (x.1.toNat, x.2)))) s

/-- MIRROR_APPLY (R271). -/
def execMirrorApply (s : State) : Out :=
  row mirrorApply s

/-- EPOCH_TAKE (R272). -/
def execEpochTake (s : State) : Out :=
  row epochTake s

/-- EPOCH_RECEIVE (R272). -/
def execEpochReceive (number : Word) (epoch : Option Epoch) (s : State) : Out :=
  row (epochReceive number.toNat epoch) s

/-- RELINQUISH (R273, R274). -/
def execRelinquish (s : State) : Out :=
  row relinquish s

/-- LINK3_LOSS_TIMER (R273). -/
def execLink3LossTimer (s : State) : Out :=
  row link3Timer s

/-- PROMOTION_BEAT (R274). -/
def execPromotionBeat (s : State) : Out :=
  row promotionBeat s

/-- PROMOTION_CAP_LIFT (R274). -/
def execPromotionCapLift (s : State) : Out :=
  row promotionLift s

/-- PAIR_SWAP (R275, R276). -/
def execPairSwap (d : Desc) (s : State) : Out :=
  ringCmd d pairSwap s

/-- SWAP_REQUEST (R275). -/
def execSwapRequest (s : State) : Out :=
  row swapRequest s

/-- PAIR_PROMOTE (R276). -/
def execPairPromote (d : Desc) (s : State) : Out :=
  ringCmd d pairPromote s

/-- PAIR_RESYNC (R276). -/
def execPairResync (d : Desc) (s : State) : Out :=
  ringCmd d pairResync s

/-- RESYNC_APPLY (R276). -/
def execResyncApply (seq : Word) (regs : List (Word × Word)) (s : State) : Out :=
  row (resyncApply seq.toNat (regs.map (fun x => (x.1.toNat, x.2)))) s

end Sys2Proof.Machine
end

