-- ==== Sys2Proof/Machine/MeasureRows.lean ====
section
/-!
DEFINITION. Sys2Proof/Machine/MeasureRows.lean: the meanings of the commands of the measurement chain (R280-R305), one definition each.
-/
namespace Sys2Proof.Machine
open Sys2Proof

/-- HK_CONVERSION (R281, R285-R290). -/
def execHkConversion (unit : Fin 2) (raw : BitVec 16) (dither : Fin 4) (s : State) : Out :=
  rowP (fun t => rackChannel (hkConversion unit raw.toNat dither t)) s

/-- HK_REF_CHECK (R283). -/
def execHkRefCheck (unit : Fin 2) (read : RefReadings) (s : State) : Out :=
  rowP (hkRefCheck unit (refOk read)) s

/-- HK_CORRECTION_DONE (R284, R301). -/
def execHkCorrectionDone (ok : BitVec 2) (s : State) : Out :=
  rowP (correctionDone ok.toNat) s

/-- CH_FALLBACK (R289). -/
def execChFallback (ch : Fin 32) (s : State) : Out :=
  rowP (chFallback ch) s

/-- CHOUT_READ (R291). -/
def execChoutRead (ch : Fin 32) (s : State) : Out :=
  hostBell (choutRead ch) s

/-- CMP_STATE_CHANGE (R294-R297, R341). -/
def execCmpStateChange (c : Fin 64) (state : Fin 4) (age : Nat) (s : State) : Out :=
  rowP (fun t => rackSag c (cmpChange c state age t)) s

/-- CMP_CHECK: a write of MEA_CHKCTL (R299). -/
def execCmpCheck (val : Word) (s : State) : Out :=
  hostReg (regOff MEA_CHKCTL 0 0) val s

/-- CMP_CHECK_DONE (R299, R301). -/
def execCmpCheckDone (results : CheckReadings) (s : State) : Out :=
  rowP (checkDone results) s

/-- CMP_AUTO_CHECK (R300). -/
def execCmpAutoCheck (s : State) : Out :=
  rowP autoCheck s

end Sys2Proof.Machine
end

