-- ==== Sys2Proof/Machine/ControlRows.lean ====
section
/-!
DEFINITION. Sys2Proof/Machine/ControlRows.lean: the meanings of the commands of the control engine and the PWM (R306-R333), one definition each.
-/
namespace Sys2Proof.Machine
open Sys2Proof

/-- SLOT_EXECUTE (R308-R320). -/
def execSlotExecute (n : Fin 512) (s : State) : Out :=
  rowP (fun t => rackAfterSlot n (slotExecute n t)) s

/-- FEEDBACK_LOST (R318, R319). -/
def execFeedbackLost (n : Fin 512) (s : State) : Out :=
  rowP (feedbackLost n) s

/-- RAIL_FB_LOST (R319). -/
def execRailFbLost (r : Fin 5) (s : State) : Out :=
  rowP (railFbLost r) s

/-- CTE_ECC (R316, R333). -/
def execCteEcc (n : Fin 512) (s : State) : Out :=
  rowP (cteEcc n) s

/-- CTE_ECC_FATAL (R319). -/
def execCteEccFatal (n : Fin 512) (s : State) : Out :=
  rowP (cteEccFatal n) s

/-- COEF_LOAD: a write of CTE_SLOTCFG (R312). -/
def execCoefLoad (n : Fin 512) (val : Word) (s : State) : Out :=
  hostReg (regOff CTE_SLOTCFG n 0) val s

/-- SLOT_ENABLE: a write of CTE_SLOTCFG (R313). -/
def execSlotEnable (n : Fin 512) (val : Word) (s : State) : Out :=
  hostReg (regOff CTE_SLOTCFG n 0) val s

/-- SLOT_DISABLE: a write of CTE_SLOTCFG (R313). -/
def execSlotDisable (n : Fin 512) (val : Word) (s : State) : Out :=
  hostReg (regOff CTE_SLOTCFG n 0) val s

/-- SLOT_AUTO: a write of CTE_SLOTCFG (R313). -/
def execSlotAuto (n : Fin 512) (val : Word) (s : State) : Out :=
  hostReg (regOff CTE_SLOTCFG n 0) val s

/-- SLOT_MANUAL: a write of CTE_SLOTCFG (R313). -/
def execSlotManual (n : Fin 512) (val : Word) (s : State) : Out :=
  hostReg (regOff CTE_SLOTCFG n 0) val s

/-- TEST_START: a write of CTE_TESTCFG (R320). -/
def execTestStart (val : Word) (s : State) : Out :=
  hostReg (regOff CTE_TESTCFG 0 0) val s

/-- TEST_DONE (R320). -/
def execTestDone (s : State) : Out :=
  rowP testDone s

/-- ISHARE_SAMPLE (R308). -/
def execIshareSample (raw : BitVec 16) (dither : Fin 4) (s : State) : Out :=
  rowP (ishareSample raw.toNat dither) s

/-- PWM_PERIOD_START (R323-R325). -/
def execPwmPeriodStart (ch : Fin 48) (s : State) : Out :=
  rowP (periodStart ch) s

/-- TRIP_RELEASE: a write of PWM_CHSTAT (R326). -/
def execTripRelease (ch : Fin 48) (val : Word) (s : State) : Out :=
  hostReg (regOff PWM_CHSTAT ch 0) val s

/-- BLANK_WINDOW_END (R326). -/
def execBlankWindowEnd (k : Fin 8) (s : State) : Out :=
  rowP (blankClose k) s

/-- PSYNC_EDGE (R330). -/
def execPsyncEdge (gap : Nat) (duty : Nat) (s : State) : Out :=
  rowP (pinIn 3 (psyncEdge gap duty)) s

/-- SYNC_LOST (R330). -/
def execSyncLost (s : State) : Out :=
  rowP syncTimeout s

/-- RAIL_FREQ_STEP (R330). -/
def execRailFreqStep (s : State) : Out :=
  rowP freqStep s

/-- SLOT_SP_LOST (R330). -/
def execSlotSpLost (s : State) : Out :=
  rowP pulseLost s

end Sys2Proof.Machine
end

