-- ==== Sys2Proof/Machine/RackRows.lean ====
section
/-!
DEFINITION. Sys2Proof/Machine/RackRows.lean: the meanings of the commands of rack power (R334-R350), one definition each.
-/
namespace Sys2Proof.Machine
open Sys2Proof

/-- PMBUS_POLL (R335, R336). -/
def execPmbusPoll (answers : List PmAnswer) (s : State) : Out :=
  rowP (fun t => pmbusPoll (if t.ioOk 1 then answers.map (fun x => (x.device.val, x.ok, x.status.toNat, x.words)) else []) t) s

/-- PMB_ALERT (R337). -/
def execPmbAlert (seg : Fin 4) (answer : Option (BitVec 7)) (s : State) : Out :=
  rowP (pinIn 1 (pmbAlert seg (answer.map BitVec.toNat))) s

/-- PMB_SEG_STUCK (R337). -/
def execPmbSegStuck (seg : Fin 4) (freed : Bool) (s : State) : Out :=
  rowP (pinIn 1 (segStuck seg freed)) s

/-- PMB_ALERT_STUCK (R337). -/
def execPmbAlertStuck (seg : Fin 4) (s : State) : Out :=
  rowP (pinIn 1 (alertStuck seg)) s

/-- SEG_RECONNECT: a write of RPS_SEGCTL (R337). -/
def execSegReconnect (seg : Fin 4) (val : Word) (s : State) : Out :=
  hostReg (regOff RPS_SEGCTL seg 0) val s

/-- RACK_ENABLE: a write of RPS_CFG (R341). -/
def execRackEnable (val : Word) (s : State) : Out :=
  hostReg (regOff RPS_CFG 0 0) val s

/-- RACK_DISABLE: a write of RPS_CFG (R341). -/
def execRackDisable (val : Word) (s : State) : Out :=
  hostReg (regOff RPS_CFG 0 0) val s

/-- HOLDUP_SLOW (R340). -/
def execHoldupSlow (s : State) : Out :=
  rowP holdupSlow s

/-- RACK_RETURN_AC (R341). -/
def execRackReturnAc (s : State) : Out :=
  rowP rackReturnAc s

/-- STRING_EOD (R342). -/
def execStringEod (k : Fin 4) (s : State) : Out :=
  rowP (stringEod k) s

/-- SHED_EVALUATE (R344-R346). -/
def execShedEvaluate (s : State) : Out :=
  rowP shedEvaluate s

end Sys2Proof.Machine
end

