-- ==== Sys2Proof/Machine/ThermalRows.lean ====
section
/-!
DEFINITION. Sys2Proof/Machine/ThermalRows.lean: the meanings of the commands of temperature, throttling and power domains (R351-R366), one definition each.
-/
namespace Sys2Proof.Machine
open Sys2Proof

/-- THERMAL_SCAN (R352-R360). -/
def execThermalScan (codes : List Nat) (s : State) : Out :=
  rowP (thermalScan codes) s

/-- THROTTLE (R357). -/
def execThrottle (s : State) : Out :=
  rowP throttle s

/-- RAIL_RAMP_DOWN_DONE (R360, R393). -/
def execRailRampDownDone (s : State) : Out :=
  rowP railDownDone s

/-- DOMAIN_RAMP_DONE (R362). -/
def execDomainRampDone (d : Fin 80) (s : State) : Out :=
  rowP (domRampDone d) s

/-- DOMAIN_SWITCH_OFF (R362). -/
def execDomainSwitchOff (d : Fin 80) (s : State) : Out :=
  rowP (domSwitchOff d) s

/-- DOMAIN_FAIL (R363). -/
def execDomainFail (d : Fin 80) (s : State) : Out :=
  rowP (domFail d) s

/-- DOMFAIL_CLEAR: a write of PWR_DOMFAIL (R363). -/
def execDomfailClear (i : Fin 3) (val : Word) (s : State) : Out :=
  hostReg (regOff PWR_DOMFAIL i 0) val s

end Sys2Proof.Machine
end

