-- ==== Sys2Proof/Machine/FaultRows.lean ====
section
/-!
DEFINITION. Sys2Proof/Machine/FaultRows.lean: the meanings of the commands of fault collection, Dugout and the Scorebook (R367-R391), one definition each.
-/
namespace Sys2Proof.Machine
open Sys2Proof

/-- The report a message carries (R368). -/
def reportOf (m : FaultMsg) : Report :=
  { src := m.source.val, code := groupOf m.source.val * 256 + m.kind.toNat, cls := m.cls.val
    p0 := m.address.toNat, p1 := m.p1.toNat, p2 := m.p2.toNat, p3 := m.p3.toNat }

/-- FAULT_REPORT (R368, R369). -/
def execFaultReport (m : FaultMsg) (s : State) : Out :=
  row (faultMessage m.block m.seq.val (reportOf m)) s

/-- SHADOW_CLOSE (R375, R377). -/
def execShadowClose (s : State) : Out :=
  rowP (fun t => standing (shadowClose t)) s

/-- FLT_PEND_CLEAR: a write of FLT_PEND (R372). -/
def execFltPendClear (i : Fin 12) (val : Word) (s : State) : Out :=
  hostReg (regOff FLT_PEND i 0) val s

/-- CASCADE_FAULT (R374). -/
def execCascadeFault (i : Fin 8) (low : Bool) (s : State) : Out :=
  row (pinIn 0 (cascade i low)) s

/-- RECONCILE (R378). -/
def execReconcile (kind : Fin 8) (index : Nat) (state : Nat) (s : State) : Out :=
  rowP (reconcile kind index state) s

/-- DUGOUT_ENTER (R379, R389). -/
def execDugoutEnter (d : Desc) (s : State) : Out :=
  ringCmd d dugoutCmd s

/-- SB_FLUSH (R389). -/
def execSbFlush (d : Desc) (s : State) : Out :=
  ringCmd d sbFlushCmd s

/-- SB_FLUSH_TIMER (R384). -/
def execSbFlushTimer (s : State) : Out :=
  row flushTimer s

/-- SB_FLUSH_DONE (R384, R386). -/
def execSbFlushDone (failed : List Nat) (s : State) : Out :=
  row (flushDone failed) s

/-- SB_CLEARED (R388). -/
def execSbCleared (s : State) : Out :=
  row sbCleared s

/-- SBWIN_AUTOINC_READ (R387). -/
def execSbwinAutoincRead (s : State) : Out :=
  hostBell sbAutoinc s

/-- SB_COPY (R389). -/
def execSbCopy (d : Desc) (first count : BitVec 16) (ring : Byte) (dest : Byte) (s : State) : Out :=
  ringCmd d (fun r tag => sbCopy r tag first.toNat count.toNat ring.toNat dest.toNat) s

/-- FLT_INJECT (R389). -/
def execFltInject (d : Desc) (source : BitVec 16) (kind cls : Byte) (s : State) : Out :=
  ringCmd d (fun r tag => inject r tag source.toNat kind.toNat cls.toNat) s

/-- POWER_FAIL (R385). -/
def execPowerFail (s : State) : Out :=
  row (pinIn 0 powerFail) s

/-- PWRFAIL_N_RISE (R204, R385). -/
def execPwrfailNRise (s : State) : Out :=
  row (pinIn 0 powerRise) s

/-- POWER_FAIL_WINDOW_END (R385). -/
def execPowerFailWindowEnd (s : State) : Out :=
  row powerWindowEnd s

end Sys2Proof.Machine
end

