-- ==== Sys2Proof/Machine/StartRows.lean ====
section
/-!
DEFINITION. Sys2Proof/Machine/StartRows.lean: the meanings of the commands of start-up, reset and first use (R392-R401), one definition each.
-/
namespace Sys2Proof.Machine
open Sys2Proof

/-- POWER_ON (R392, R397). -/
def execPowerOn (sid : Fin 4) (side : Bool) (found : PowerFound) (s : State) : Out :=
  act { power := true } (fun t => powered (powerOn sid side found t)) s

/-- ISLAND_READY (R199, R205, R392). -/
def execIslandReady (found : List (Fin 256 × List Byte × Word)) (s : State) : Out :=
  act { locks := true } (fun t => powered (islandReady (found.map (fun x => (x.1.val, x.2.1.map BitVec.toNat,
    x.2.2.toNat))) t)) s

/-- RAIL_RAMP_STEP (R393). -/
def execRailRampStep (s : State) : Out :=
  rowP railRampStep s

/-- RAIL_GOOD (R393). -/
def execRailGood (s : State) : Out :=
  rowP railGood s

/-- RAIL_TIMEOUT (R393). -/
def execRailTimeout (s : State) : Out :=
  rowP railTimeout s

/-- FW_IMAGE_READ (R394). -/
def execFwImageRead (ok : Bool) (header : List Byte) (s : State) : Out :=
  rowP (fun t => fwImageRead ok (if t.ioOk 0 || t.boot.fromHost then header.map BitVec.toNat else List.replicate 16 0xFF) t) s

/-- FW_VERIFY_DONE (R394). -/
def execFwVerifyDone (ok : Bool) (s : State) : Out :=
  rowP (fwVerifyDone ok) s

/-- FW_LOAD: a write of GLB_BOOTCTL (R394). -/
def execFwLoad (val : Word) (s : State) : Out :=
  hostReg (regOff GLB_BOOTCTL 0 0) val s

/-- PIN_RESET (R397). -/
def execPinReset (sid : Fin 4) (side : Bool) (s : State) : Out :=
  rowP (pinIn 0 (pinReset sid side)) s

/-- DEVICE_RESET: a write of GLB_RESET (R397). -/
def execDeviceReset (val : Word) (s : State) : Out :=
  hostReg (regOff GLB_RESET 0 0) val s

/-- RADIO_RESET: a write of GLB_RESET (R397). -/
def execRadioReset (val : Word) (s : State) : Out :=
  hostReg (regOff GLB_RESET 0 0) val s

/-- RESET_ACTION (R397). -/
def execResetAction (s : State) : Out :=
  act { locks := true, dugout := true } (fun t => powered (resetAction t)) s

/-- LINK_RESET (R397). -/
def execLinkReset (hot : Bool) (s : State) : Out :=
  row (fun t => if hot then linkReset hot t else pinIn 0 (linkReset hot) t) s

/-- PERST_RISE (R392). -/
def execPerstRise (s : State) : Out :=
  rowP (pinIn 0 perstRise) s

/-- VAUX_LOSS (R392, R398). -/
def execVauxLoss (s : State) : Out :=
  act { locks := true, dugout := true, latch := true } (fun t => powered (vauxLoss t)) s

/-- SEED_WRITE_DONE (R130). -/
def execSeedWriteDone (slot : Fin 4096) (ok : Bool) (s : State) : Out :=
  row (seedWriteDone slot ok) s

end Sys2Proof.Machine
end

