-- ==== Sys2Proof/Machine/Dispatch.lean ====
section
/-!
DEFINITION. Sys2Proof/Machine/Dispatch.lean: the meaning of each command, one arm per constructor.
-/
namespace Sys2Proof.Machine
open Sys2Proof

/-- The effect of a command on everything but the queue. -/
def exec (i : Instr) (s : State) : Host.Outcome State Fault Refusal :=
  match i with
  | .registerWrite off bytes val => Sys2Proof.Machine.execRegisterWrite off bytes val s
  | .counterClear off val => Sys2Proof.Machine.execCounterClear off val s
  | .beatBoundary slips report => Sys2Proof.Machine.execBeatBoundary slips report s
  | .alignmentPulse => Sys2Proof.Machine.execAlignmentPulse s
  | .slipRepin island => Sys2Proof.Machine.execSlipRepin island s
  | .unitRepin island => Sys2Proof.Machine.execUnitRepin island s
  | .mergerSlot u a b => Sys2Proof.Machine.execMergerSlot u a b s
  | .stormRecalDone u meas => Sys2Proof.Machine.execStormRecalDone u meas s
  | .rxGapEnd u => Sys2Proof.Machine.execRxGapEnd u s
  | .arcInterval p => Sys2Proof.Machine.execArcInterval p s
  | .compSwitch p => Sys2Proof.Machine.execCompSwitch p s
  | .ovrDetect u group => Sys2Proof.Machine.execOvrDetect u group s
  | .bgcConverged u => Sys2Proof.Machine.execBgcConverged u s
  | .tbandSet t => Sys2Proof.Machine.execTbandSet t s
  | .dacRampDone p => Sys2Proof.Machine.execDacRampDone p s
  | .bubbleMuteRelease p => Sys2Proof.Machine.execBubbleMuteRelease p s
  | .orxSettleEnd t => Sys2Proof.Machine.execOrxSettleEnd t s
  | .convCal d mask save => Sys2Proof.Machine.execConvCal d mask save s
  | .calDone t meas => Sys2Proof.Machine.execCalDone t meas s
  | .calSaveDone ok => Sys2Proof.Machine.execCalSaveDone ok s
  | .subbandSample missIn missOut remote => Sys2Proof.Machine.execSubbandSample missIn missOut remote s
  | .protoSwitchEnd p => Sys2Proof.Machine.execProtoSwitchEnd p s
  | .volleyApply v => Sys2Proof.Machine.execVolleyApply v s
  | .xfadeStart x => Sys2Proof.Machine.execXfadeStart x s
  | .xfadeDone x => Sys2Proof.Machine.execXfadeDone x s
  | .xfadeAbort x => Sys2Proof.Machine.execXfadeAbort x s
  | .remoteInputResume l => Sys2Proof.Machine.execRemoteInputResume l s
  | .routeEcc q => Sys2Proof.Machine.execRouteEcc q s
  | .routeEccFatal q => Sys2Proof.Machine.execRouteEccFatal q s
  | .routeReload q => Sys2Proof.Machine.execRouteReload q s
  | .isoBlockEnd => Sys2Proof.Machine.execIsoBlockEnd s
  | .backoffStep b => Sys2Proof.Machine.execBackoffStep b s
  | .backoffRecovered b => Sys2Proof.Machine.execBackoffRecovered b s
  | .backoffReleaseStep b => Sys2Proof.Machine.execBackoffReleaseStep b s
  | .pathShutdown b => Sys2Proof.Machine.execPathShutdown b s
  | .pathRestart b => Sys2Proof.Machine.execPathRestart b s
  | .isoClearLockout b => Sys2Proof.Machine.execIsoClearLockout b s
  | .isoClearOffside b => Sys2Proof.Machine.execIsoClearOffside b s
  | .squelch b => Sys2Proof.Machine.execSquelch b s
  | .squelchEnd b => Sys2Proof.Machine.execSquelchEnd b s
  | .coldStartStep b => Sys2Proof.Machine.execColdStartStep b s
  | .trainLimited b => Sys2Proof.Machine.execTrainLimited b s
  | .seedWrite l => Sys2Proof.Machine.execSeedWrite l s
  | .cxlEcc c => Sys2Proof.Machine.execCxlEcc c s
  | .cxlSliceLost c => Sys2Proof.Machine.execCxlSliceLost c s
  | .sliceReload c => Sys2Proof.Machine.execSliceReload c s
  | .isoLselSnapshot val => Sys2Proof.Machine.execIsoLselSnapshot val s
  | .fineTransform n => Sys2Proof.Machine.execFineTransform n s
  | .integrationEnd n => Sys2Proof.Machine.execIntegrationEnd n s
  | .productHandover n => Sys2Proof.Machine.execProductHandover n s
  | .watchEcc w => Sys2Proof.Machine.execWatchEcc w s
  | .watchSliceLost w => Sys2Proof.Machine.execWatchSliceLost w s
  | .watchSliceRestart w => Sys2Proof.Machine.execWatchSliceRestart w s
  | .snapTrigger d slot atIndex idx => Sys2Proof.Machine.execSnapTrigger d slot atIndex idx s
  | .snapDone x => Sys2Proof.Machine.execSnapDone x s
  | .snapMove d slot => Sys2Proof.Machine.execSnapMove d slot s
  | .snapMoved x => Sys2Proof.Machine.execSnapMoved x s
  | .snapAbort x => Sys2Proof.Machine.execSnapAbort x s
  | .captureEcc x => Sys2Proof.Machine.execCaptureEcc x s
  | .offsideDwellEnd t n level => Sys2Proof.Machine.execOffsideDwellEnd t n level s
  | .standbyToSynth u => Sys2Proof.Machine.execStandbyToSynth u s
  | .synthToReceive u => Sys2Proof.Machine.execSynthToReceive u s
  | .paBiasEnHigh t => Sys2Proof.Machine.execPaBiasEnHigh t s
  | .paEnHigh p => Sys2Proof.Machine.execPaEnHigh p s
  | .paBiasEnLow p => Sys2Proof.Machine.execPaBiasEnLow p s
  | .relayToReceive u => Sys2Proof.Machine.execRelayToReceive u s
  | .receiveToSynth u => Sys2Proof.Machine.execReceiveToSynth u s
  | .synthToStandby u => Sys2Proof.Machine.execSynthToStandby u s
  | .sleepEntry => Sys2Proof.Machine.execSleepEntry s
  | .synthCal d mask => Sys2Proof.Machine.execSynthCal d mask s
  | .synthCalDone q => Sys2Proof.Machine.execSynthCalDone q s
  | .synthUnlock q => Sys2Proof.Machine.execSynthUnlock q s
  | .forcedCapClear t val => Sys2Proof.Machine.execForcedCapClear t val s
  | .paFault p => Sys2Proof.Machine.execPaFault p s
  | .paFltHigh p => Sys2Proof.Machine.execPaFltHigh p s
  | .paFltClear p val => Sys2Proof.Machine.execPaFltClear p val s
  | .qreqInRise q => Sys2Proof.Machine.execQreqInRise q s
  | .qgrant q => Sys2Proof.Machine.execQgrant q s
  | .qreqInFall q => Sys2Proof.Machine.execQreqInFall q s
  | .qgntInRise q => Sys2Proof.Machine.execQgntInRise q s
  | .qgntInFall q => Sys2Proof.Machine.execQgntInFall q s
  | .qgntTimeout q => Sys2Proof.Machine.execQgntTimeout q s
  | .gateBlockEnd => Sys2Proof.Machine.execGateBlockEnd s
  | .nonceGet d addr => Sys2Proof.Machine.execNonceGet d addr s
  | .nonceExpiry => Sys2Proof.Machine.execNonceExpiry s
  | .lockChange d len record => Sys2Proof.Machine.execLockChange d len record s
  | .lockJournalSealed v => Sys2Proof.Machine.execLockJournalSealed v s
  | .lockApplied v => Sys2Proof.Machine.execLockApplied v s
  | .persistentWrite off val => Sys2Proof.Machine.execPersistentWrite off val s
  | .pageCommit page => Sys2Proof.Machine.execPageCommit page s
  | .pgselSnapshot val => Sys2Proof.Machine.execPgselSnapshot val s
  | .optimeCellWrite => Sys2Proof.Machine.execOptimeCellWrite s
  | .cmdTailDoorbell r val => Sys2Proof.Machine.execCmdTailDoorbell r val s
  | .cplHeadDoorbell c val => Sys2Proof.Machine.execCplHeadDoorbell c val s
  | .evtHeadDoorbell e val => Sys2Proof.Machine.execEvtHeadDoorbell e val s
  | .streamTailDoorbell r val posted => Sys2Proof.Machine.execStreamTailDoorbell r val posted s
  | .heartbeat val => Sys2Proof.Machine.execHeartbeat val s
  | .ringEnable off val => Sys2Proof.Machine.execRingEnable off val s
  | .ringDisable off val => Sys2Proof.Machine.execRingDisable off val s
  | .begin_ d => Sys2Proof.Machine.execBegin d s
  | .write32 d off val => Sys2Proof.Machine.execWrite32 d off val s
  | .writeBlock d off count data => Sys2Proof.Machine.execWriteBlock d off count data s
  | .commit d op => Sys2Proof.Machine.execCommit d op s
  | .abort d slot opened => Sys2Proof.Machine.execAbort d slot opened s
  | .nop d => Sys2Proof.Machine.execNop d s
  | .invalidOpcode d opcode => Sys2Proof.Machine.execInvalidOpcode d opcode s
  | .volleyValidation v => Sys2Proof.Machine.execVolleyValidation v s
  | .stackPrepare slot beat mode given offs sends => Sys2Proof.Machine.execStackPrepare slot beat mode given offs sends s
  | .stackReady v sid status index => Sys2Proof.Machine.execStackReady v sid status index s
  | .stackGoDecision v => Sys2Proof.Machine.execStackGoDecision v s
  | .stackGo slot => Sys2Proof.Machine.execStackGo slot s
  | .stackAbort slot => Sys2Proof.Machine.execStackAbort slot s
  | .stackVolleyDiscard slot => Sys2Proof.Machine.execStackVolleyDiscard slot s
  | .stackAck v sid => Sys2Proof.Machine.execStackAck v sid s
  | .stackCompletion v => Sys2Proof.Machine.execStackCompletion v s
  | .hostLost => Sys2Proof.Machine.execHostLost s
  | .hostLostClear val => Sys2Proof.Machine.execHostLostClear val s
  | .recordWaitTimeout idx => Sys2Proof.Machine.execRecordWaitTimeout idx s
  | .exportLink e up => Sys2Proof.Machine.execExportLink e up s
  | .exportTransmit e => Sys2Proof.Machine.execExportTransmit e s
  | .pfcPause e pause => Sys2Proof.Machine.execPfcPause e pause s
  | .interruptTimer kind vec => Sys2Proof.Machine.execInterruptTimer kind vec s
  | .pcieLinkUp gen width => Sys2Proof.Machine.execPcieLinkUp gen width s
  | .pcieLinkDown => Sys2Proof.Machine.execPcieLinkDown s
  | .linkTrain l => Sys2Proof.Machine.execLinkTrain l s
  | .linkAligning l peerSid peerSide peerLink delay => Sys2Proof.Machine.execLinkAligning l peerSid peerSide peerLink delay s
  | .linkTrainTimeout l => Sys2Proof.Machine.execLinkTrainTimeout l s
  | .linkRetry l => Sys2Proof.Machine.execLinkRetry l s
  | .linkUp l peerRole peerLocks => Sys2Proof.Machine.execLinkUp l peerRole peerLocks s
  | .linkDown l => Sys2Proof.Machine.execLinkDown l s
  | .linkCrc l stream => Sys2Proof.Machine.execLinkCrc l stream s
  | .linkCreditStall l => Sys2Proof.Machine.execLinkCreditStall l s
  | .linkRetrain d mask => Sys2Proof.Machine.execLinkRetrain d mask s
  | .gridMark beat time => Sys2Proof.Machine.execGridMark beat time s
  | .stackRealign d => Sys2Proof.Machine.execStackRealign d s
  | .beatToken time token => Sys2Proof.Machine.execBeatToken time token s
  | .stackMasterLost => Sys2Proof.Machine.execStackMasterLost s
  | .dugoutMsg => Sys2Proof.Machine.execDugoutMsg s
  | .stackMemberLost sid => Sys2Proof.Machine.execStackMemberLost sid s
  | .timFracRead => Sys2Proof.Machine.execTimFracRead s
  | .timeSetArm val => Sys2Proof.Machine.execTimeSetArm val s
  | .timeSet => Sys2Proof.Machine.execTimeSet s
  | .ppsEdge => Sys2Proof.Machine.execPpsEdge s
  | .ppsLost => Sys2Proof.Machine.execPpsLost s
  | .ppsOutPulse => Sys2Proof.Machine.execPpsOutPulse s
  | .ptpSync port domain offset => Sys2Proof.Machine.execPtpSync port domain offset s
  | .mirrorReceive seq whole members => Sys2Proof.Machine.execMirrorReceive seq whole members s
  | .mirrorApply => Sys2Proof.Machine.execMirrorApply s
  | .epochTake => Sys2Proof.Machine.execEpochTake s
  | .epochReceive number epoch => Sys2Proof.Machine.execEpochReceive number epoch s
  | .relinquish => Sys2Proof.Machine.execRelinquish s
  | .link3LossTimer => Sys2Proof.Machine.execLink3LossTimer s
  | .promotionBeat => Sys2Proof.Machine.execPromotionBeat s
  | .promotionCapLift => Sys2Proof.Machine.execPromotionCapLift s
  | .pairSwap d => Sys2Proof.Machine.execPairSwap d s
  | .swapRequest => Sys2Proof.Machine.execSwapRequest s
  | .pairPromote d => Sys2Proof.Machine.execPairPromote d s
  | .pairResync d => Sys2Proof.Machine.execPairResync d s
  | .resyncApply seq regs => Sys2Proof.Machine.execResyncApply seq regs s
  | .hkConversion unit raw dither => Sys2Proof.Machine.execHkConversion unit raw dither s
  | .hkRefCheck unit read => Sys2Proof.Machine.execHkRefCheck unit read s
  | .hkCorrectionDone ok => Sys2Proof.Machine.execHkCorrectionDone ok s
  | .chFallback ch => Sys2Proof.Machine.execChFallback ch s
  | .choutRead ch => Sys2Proof.Machine.execChoutRead ch s
  | .cmpStateChange c state age => Sys2Proof.Machine.execCmpStateChange c state age s
  | .cmpCheck val => Sys2Proof.Machine.execCmpCheck val s
  | .cmpCheckDone results => Sys2Proof.Machine.execCmpCheckDone results s
  | .cmpAutoCheck => Sys2Proof.Machine.execCmpAutoCheck s
  | .slotExecute n => Sys2Proof.Machine.execSlotExecute n s
  | .feedbackLost n => Sys2Proof.Machine.execFeedbackLost n s
  | .railFbLost r => Sys2Proof.Machine.execRailFbLost r s
  | .cteEcc n => Sys2Proof.Machine.execCteEcc n s
  | .cteEccFatal n => Sys2Proof.Machine.execCteEccFatal n s
  | .coefLoad n val => Sys2Proof.Machine.execCoefLoad n val s
  | .slotEnable n val => Sys2Proof.Machine.execSlotEnable n val s
  | .slotDisable n val => Sys2Proof.Machine.execSlotDisable n val s
  | .slotAuto n val => Sys2Proof.Machine.execSlotAuto n val s
  | .slotManual n val => Sys2Proof.Machine.execSlotManual n val s
  | .testStart val => Sys2Proof.Machine.execTestStart val s
  | .testDone => Sys2Proof.Machine.execTestDone s
  | .ishareSample raw dither => Sys2Proof.Machine.execIshareSample raw dither s
  | .pwmPeriodStart ch => Sys2Proof.Machine.execPwmPeriodStart ch s
  | .tripRelease ch val => Sys2Proof.Machine.execTripRelease ch val s
  | .blankWindowEnd k => Sys2Proof.Machine.execBlankWindowEnd k s
  | .psyncEdge gap duty => Sys2Proof.Machine.execPsyncEdge gap duty s
  | .syncLost => Sys2Proof.Machine.execSyncLost s
  | .railFreqStep => Sys2Proof.Machine.execRailFreqStep s
  | .slotSpLost => Sys2Proof.Machine.execSlotSpLost s
  | .pmbusPoll answers => Sys2Proof.Machine.execPmbusPoll answers s
  | .pmbAlert seg answer => Sys2Proof.Machine.execPmbAlert seg answer s
  | .pmbSegStuck seg freed => Sys2Proof.Machine.execPmbSegStuck seg freed s
  | .pmbAlertStuck seg => Sys2Proof.Machine.execPmbAlertStuck seg s
  | .segReconnect seg val => Sys2Proof.Machine.execSegReconnect seg val s
  | .rackEnable val => Sys2Proof.Machine.execRackEnable val s
  | .rackDisable val => Sys2Proof.Machine.execRackDisable val s
  | .holdupSlow => Sys2Proof.Machine.execHoldupSlow s
  | .rackReturnAc => Sys2Proof.Machine.execRackReturnAc s
  | .stringEod k => Sys2Proof.Machine.execStringEod k s
  | .shedEvaluate => Sys2Proof.Machine.execShedEvaluate s
  | .thermalScan codes => Sys2Proof.Machine.execThermalScan codes s
  | .throttle => Sys2Proof.Machine.execThrottle s
  | .railRampDownDone => Sys2Proof.Machine.execRailRampDownDone s
  | .domainRampDone d => Sys2Proof.Machine.execDomainRampDone d s
  | .domainSwitchOff d => Sys2Proof.Machine.execDomainSwitchOff d s
  | .domainFail d => Sys2Proof.Machine.execDomainFail d s
  | .domfailClear n val => Sys2Proof.Machine.execDomfailClear n val s
  | .faultReport m => Sys2Proof.Machine.execFaultReport m s
  | .shadowClose => Sys2Proof.Machine.execShadowClose s
  | .fltPendClear n val => Sys2Proof.Machine.execFltPendClear n val s
  | .cascadeFault n low => Sys2Proof.Machine.execCascadeFault n low s
  | .reconcile kind index state => Sys2Proof.Machine.execReconcile kind index state s
  | .dugoutEnter d => Sys2Proof.Machine.execDugoutEnter d s
  | .sbFlush d => Sys2Proof.Machine.execSbFlush d s
  | .sbFlushTimer => Sys2Proof.Machine.execSbFlushTimer s
  | .sbFlushDone failed => Sys2Proof.Machine.execSbFlushDone failed s
  | .sbCleared => Sys2Proof.Machine.execSbCleared s
  | .sbwinAutoincRead => Sys2Proof.Machine.execSbwinAutoincRead s
  | .sbCopy d first count ring dest => Sys2Proof.Machine.execSbCopy d first count ring dest s
  | .fltInject d source kind cls => Sys2Proof.Machine.execFltInject d source kind cls s
  | .powerFail => Sys2Proof.Machine.execPowerFail s
  | .powerOn sid side found => Sys2Proof.Machine.execPowerOn sid side found s
  | .islandReady found => Sys2Proof.Machine.execIslandReady found s
  | .railRampStep => Sys2Proof.Machine.execRailRampStep s
  | .railGood => Sys2Proof.Machine.execRailGood s
  | .railTimeout => Sys2Proof.Machine.execRailTimeout s
  | .fwImageRead ok header => Sys2Proof.Machine.execFwImageRead ok header s
  | .fwVerifyDone ok => Sys2Proof.Machine.execFwVerifyDone ok s
  | .fwLoad val => Sys2Proof.Machine.execFwLoad val s
  | .pinReset sid side => Sys2Proof.Machine.execPinReset sid side s
  | .deviceReset val => Sys2Proof.Machine.execDeviceReset val s
  | .radioReset val => Sys2Proof.Machine.execRadioReset val s
  | .resetAction => Sys2Proof.Machine.execResetAction s
  | .linkReset hot => Sys2Proof.Machine.execLinkReset hot s
  | .perstRise => Sys2Proof.Machine.execPerstRise s
  | .vauxLoss => Sys2Proof.Machine.execVauxLoss s
  | .seedWriteDone slot ok => Sys2Proof.Machine.execSeedWriteDone slot ok s
  | .pwrfailNRise => Sys2Proof.Machine.execPwrfailNRise s
  | .powerFailWindowEnd => Sys2Proof.Machine.execPowerFailWindowEnd s
  | .readyForLinkTraining => Sys2Proof.Machine.execReadyForLinkTraining s
  | .busMasterEnable on => Sys2Proof.Machine.execBusMasterEnable on s
  | .creditsReturned l pool given => Sys2Proof.Machine.execCreditsReturned l pool given s

end Sys2Proof.Machine
end

