-- ==== Sys2Proof/WellFormed.lean ====
section
/-!
DEFINITION. Sys2Proof/WellFormed.lean: what the operands of a command keep to, one arm per constructor: lengths of lists, ranges of
numbers, and offsets that lie in BAR0.
-/
namespace Sys2Proof

/-- An offset inside BAR0, 4 MiB (R6, R417). -/
def inBar0 (off : Nat) : Bool := off < 0x400000

/-- The offset of a register: a multiple of 4 inside BAR0 (R3, R7). -/
def aligned (off : Nat) : Bool := off < 0x400000 && off % 4 = 0

/-- A predicate on what may be absent. -/
def optAll {α : Type} (p : α → Bool) : Option α → Bool
  | none => true
  | some a => p a

/-- A burst holds 64 codes of 12 bits (R33, R41). -/
def burstOk (b : Burst) : Bool := b.codes.length = 64 && b.codes.all (fun c => -2048 ≤ c && c ≤ 2047)

/-- A sub-band sample has 16 bits in each part (R64). -/
def remoteOk (x : RemoteSmp) : Bool :=
  -32768 ≤ x.i && x.i ≤ 32767 && -32768 ≤ x.q && x.q ≤ 32767

/-- A member of a message between devices addresses a register (R231, R271). -/
def memberOk (m : Word × Word) : Bool := aligned m.1.toNat

/-- The opcodes that are listed (R220, R276, R389). -/
def listedOpcode (o : Nat) : Bool :=
  (1 ≤ o && o ≤ 6) || (0x10 ≤ o && o ≤ 0x15) || (0x20 ≤ o && o ≤ 0x23) || (0x28 ≤ o && o ≤ 0x2C)

/-- How many rings there are of kind 0 command, 1 completion, 2 event, 3 stream (R212). -/
def ringsOf (k : Nat) : Nat := [16, 16, 8, 64].getD k 0

/-- The widths of a PCI Express link (R211). -/
def linkWidths : List Nat := [1, 2, 4, 8, 16]

/-- An epoch is dated, and its taps are as many as their link has (R272). -/
def epochOk (e : Epoch) : Bool :=
  e.time < 2 ^ 80 && (e.links.map (fun x => x.link)).Nodup && (e.paths.map (fun x => x.path)).Nodup &&
    (e.slots.map (fun x => x.slot)).Nodup

/-- The operands of a command keep to the ranges and lengths of the manual. -/
def wellFormed : Instr → Bool
  | .registerWrite off bytes val => inBar0 off && 1 ≤ bytes.val && val.toNat < 2 ^ (8 * bytes.val)
  | .counterClear off _ => aligned off
  | .beatBoundary slips report => slips.Nodup && (report.resid.map (fun x => (x.unit, x.factor))).Nodup
  | .alignmentPulse => true
  | .slipRepin _ => true
  | .unitRepin _ => true
  | .mergerSlot _ a b => a.all burstOk && b.all burstOk
  | .stormRecalDone _ meas => optAll (fun m => m.length = 9) meas
  | .rxGapEnd _ => true
  | .arcInterval _ => true
  | .compSwitch _ => true
  | .ovrDetect _ _ => true
  | .bgcConverged _ => true
  | .tbandSet _ => true
  | .dacRampDone _ => true
  | .bubbleMuteRelease _ => true
  | .orxSettleEnd _ => true
  | .convCal _ _ _ => true
  | .calDone _ meas => meas.map List.length = [40, 40, 40, 40, 40, 40, 16]
  | .calSaveDone _ => true
  | .subbandSample missIn missOut remote =>
    missIn.fabric.Nodup && missIn.cxl.Nodup && missIn.watch.Nodup && missOut.Nodup && remote.all remoteOk
  | .protoSwitchEnd _ => true
  | .volleyApply _ => true
  | .xfadeStart _ => true
  | .xfadeDone _ => true
  | .xfadeAbort _ => true
  | .remoteInputResume _ => true
  | .routeEcc _ => true
  | .routeEccFatal _ => true
  | .routeReload _ => true
  | .isoBlockEnd => true
  | .backoffStep _ => true
  | .backoffRecovered _ => true
  | .backoffReleaseStep _ => true
  | .pathShutdown _ => true
  | .pathRestart _ => true
  | .isoClearLockout _ => true
  | .isoClearOffside _ => true
  | .squelch _ => true
  | .squelchEnd _ => true
  | .coldStartStep _ => true
  | .trainLimited _ => true
  | .seedWrite _ => true
  | .cxlEcc _ => true
  | .cxlSliceLost _ => true
  | .sliceReload _ => true
  | .isoLselSnapshot _ => true
  | .fineTransform _ => true
  | .integrationEnd _ => true
  | .productHandover _ => true
  | .watchEcc _ => true
  | .watchSliceLost _ => true
  | .watchSliceRestart _ => true
  | .snapTrigger _ _ _ _ => true
  | .snapDone _ => true
  | .snapMove _ _ => true
  | .snapMoved _ => true
  | .snapAbort _ => true
  | .captureEcc _ => true
  | .offsideDwellEnd _ n level => (level.map Prod.fst).Nodup && level.all (fun x => x.2 ≤ n.val * 2147352578)
  | .standbyToSynth _ => true
  | .synthToReceive _ => true
  | .paBiasEnHigh _ => true
  | .paEnHigh _ => true
  | .paBiasEnLow _ => true
  | .relayToReceive _ => true
  | .receiveToSynth _ => true
  | .synthToStandby _ => true
  | .sleepEntry => true
  | .synthCal _ _ => true
  | .synthCalDone _ => true
  | .synthUnlock _ => true
  | .forcedCapClear _ _ => true
  | .paFault _ => true
  | .paFltHigh _ => true
  | .paFltClear _ _ => true
  | .qreqInRise _ => true
  | .qgrant _ => true
  | .qreqInFall _ => true
  | .qgntInRise _ => true
  | .qgntInFall _ => true
  | .qgntTimeout _ => true
  | .gateBlockEnd => true
  | .nonceGet _ _ => true
  | .nonceExpiry => true
  | .lockChange _ len record => optAll (fun l => l.length = len.toNat) record
  | .lockJournalSealed _ => true
  | .lockApplied _ => true
  | .persistentWrite off _ => aligned off
  | .pageCommit _ => true
  | .pgselSnapshot _ => true
  | .optimeCellWrite => true
  | .cmdTailDoorbell _ _ => true
  | .cplHeadDoorbell _ _ => true
  | .evtHeadDoorbell _ _ => true
  | .streamTailDoorbell _ _ posted => (posted.getD []).all (fun b => b.1 < 2 ^ 64 && b.2 < 2 ^ 32)
  | .heartbeat _ => true
  | .ringEnable off _ => aligned off
  | .ringDisable off _ => aligned off
  | .begin_ _ => true
  | .write32 _ _ _ => true
  | .writeBlock _ _ count data => optAll (fun l => l.length = count.toNat) data
  | .commit _ _ => true
  | .abort _ _ _ => true
  | .nop _ => true
  | .invalidOpcode _ opcode => !listedOpcode opcode.toNat
  | .volleyValidation _ => true
  | .stackPrepare _ _ _ _ offs _ => offs.all memberOk
  | .stackReady _ _ _ index => index < 8192
  | .stackGoDecision _ => true
  | .stackGo _ => true
  | .stackAbort _ => true
  | .stackVolleyDiscard _ => true
  | .stackAck _ _ => true
  | .stackCompletion _ => true
  | .hostLost => true
  | .hostLostClear _ => true
  | .recordWaitTimeout _ => true
  | .exportLink _ _ => true
  | .exportTransmit _ => true
  | .pfcPause _ _ => true
  | .interruptTimer kind i => i.val < ringsOf kind.val
  | .pcieLinkUp gen width => 1 ≤ gen.val && linkWidths.contains width.val
  | .pcieLinkDown => true
  | .linkTrain _ => true
  | .linkAligning _ _ _ _ delay => delay < 65536
  | .linkTrainTimeout _ => true
  | .linkRetry _ => true
  | .linkUp _ _ peerLocks => peerLocks.length = 12
  | .linkDown _ => true
  | .linkCrc _ _ => true
  | .linkCreditStall _ => true
  | .linkRetrain _ _ => true
  | .gridMark _ time => time < 2 ^ 80
  | .stackRealign _ => true
  | .beatToken time token => time < 2 ^ 80 && optAll (fun b => b < 2 ^ 64) token.promo
  | .stackMasterLost => true
  | .dugoutMsg => true
  | .stackMemberLost _ => true
  | .timFracRead => true
  | .timeSetArm _ => true
  | .timeSet => true
  | .ppsEdge => true
  | .ppsLost => true
  | .ppsOutPulse => true
  | .ptpSync _ _ _ => true
  | .mirrorReceive _ _ members => members.all memberOk
  | .mirrorApply => true
  | .epochTake => true
  | .epochReceive _ epoch => optAll epochOk epoch
  | .relinquish => true
  | .link3LossTimer => true
  | .promotionBeat => true
  | .promotionCapLift => true
  | .pairSwap _ => true
  | .swapRequest => true
  | .pairPromote _ => true
  | .pairResync _ => true
  | .resyncApply _ regs => regs.all memberOk
  | .hkConversion _ _ _ => true
  | .hkRefCheck _ _ => true
  | .hkCorrectionDone _ => true
  | .chFallback _ => true
  | .choutRead _ => true
  | .cmpStateChange _ state _ => state.val ≤ 2
  | .cmpCheck _ => true
  | .cmpCheckDone r => r.halves.length = 2 && r.halves.all (fun h => h.1.length = 8 && h.2.length = 8)
  | .cmpAutoCheck => true
  | .slotExecute _ => true
  | .feedbackLost _ => true
  | .railFbLost _ => true
  | .cteEcc _ => true
  | .cteEccFatal _ => true
  | .coefLoad _ _ => true
  | .slotEnable _ _ => true
  | .slotDisable _ _ => true
  | .slotAuto _ _ => true
  | .slotManual _ _ => true
  | .testStart _ => true
  | .testDone => true
  | .ishareSample _ _ => true
  | .pwmPeriodStart _ => true
  | .tripRelease _ _ => true
  | .blankWindowEnd _ => true
  | .psyncEdge gap duty => 1 ≤ gap && duty ≤ 4095
  | .syncLost => true
  | .railFreqStep => true
  | .slotSpLost => true
  | .pmbusPoll answers => (answers.map (fun x => x.device)).Nodup && answers.all (fun x => x.words.length = 4 && x.words.all (fun w => w < 65536))
  | .pmbAlert _ _ => true
  | .pmbSegStuck _ _ => true
  | .pmbAlertStuck _ => true
  | .segReconnect _ _ => true
  | .rackEnable _ => true
  | .rackDisable _ => true
  | .holdupSlow => true
  | .rackReturnAc => true
  | .stringEod _ => true
  | .shedEvaluate => true
  | .thermalScan codes => codes.length = 56 && codes.all (fun c => c < 65536)
  | .throttle => true
  | .railRampDownDone => true
  | .domainRampDone _ => true
  | .domainSwitchOff _ => true
  | .domainFail _ => true
  | .domfailClear _ _ => true
  | .faultReport m => m.cls.val ≤ 3
  | .shadowClose => true
  | .fltPendClear _ _ => true
  | .cascadeFault _ _ => true
  | .reconcile kind index _ => index < [4096, 96, 16384, 16, 80, 16, 48, 512].getD kind.val 0
  | .dugoutEnter _ => true
  | .sbFlush _ => true
  | .sbFlushTimer => true
  | .sbFlushDone failed => failed.Nodup && failed.all (fun i => i < 16384)
  | .sbCleared => true
  | .sbwinAutoincRead => true
  | .sbCopy _ _ _ _ _ => true
  | .fltInject _ _ _ _ => true
  | .powerFail => true
  | .powerOn _ _ found => found.volts.length = 8 && found.cells.all (fun c => c.2.length = 8) &&
    found.banks.all (fun b => b.2.length = 262144)
  | .islandReady found => (found.map (fun x => x.1)).Nodup && found.all (fun x => x.2.1.length = 252)
  | .railRampStep => true
  | .railGood => true
  | .railTimeout => true
  | .fwImageRead ok header => !ok || header.length = 16
  | .fwVerifyDone _ => true
  | .fwLoad _ => true
  | .pinReset _ _ => true
  | .deviceReset _ => true
  | .radioReset _ => true
  | .resetAction => true
  | .linkReset _ => true
  | .perstRise => true
  | .vauxLoss => true
  | .seedWriteDone _ _ => true
  | .pwrfailNRise => true
  | .powerFailWindowEnd => true
  | .readyForLinkTraining => true
  | .busMasterEnable _ => true
  | .creditsReturned _ _ given => 1 ≤ given.n && given.n ≤ 1024

end Sys2Proof
end

