-- ==== Sys2Proof/Safety.lean ====
section
/-!
DEFINITION. Sys2Proof/Safety.lean: the terms claims are stated in: the register file in its form, who can act, and what it
is for a command to have an effect.
-/
namespace Sys2Proof.Machine
open Sys2Proof

/-! ### The register file (R6) -/

/-- An entry of a block's table is one of the block's registers, off its reset value, with its reserved bits 0 (R6). -/
def entryWf (v : Variant) (b : Blk) (e : Nat × Word) : Bool :=
  match findFam (famsOf b) e.1 with
  | some (f, i, _) => (f.held || e.2 ≠ regReset v f i) && e.2 &&& ~~~(BitVec.ofNat 32 f.mask) = 0#32
  | none => false

/-- The entries stand in rising order of their offsets. -/
def rising {α : Type} : Tab α → Bool
  | [] => true
  | [_] => true
  | (k, _) :: (k', v') :: t => k < k' && rising ((k', v') :: t)

/-- The table of a block is in canonical form. -/
def blkWf (v : Variant) (b : Blk) (t : Tab Word) : Bool := rising t && t.all (entryWf v b)

/-- The register file is in canonical form: equal registers are equal data, and every reserved bit reads 0 (R6). -/
def State.regsWf (s : State) : Prop := ∀ b, blkWf s.part b (regsOf s.regs b) = true

/-! ### Who can act -/

/-- VAUX is valid, so the machine acts (R392). -/
def State.awake (s : State) : Prop := s.boot.dark = false

/-- The host's commands count: VAUX is valid and the thermal shutdown latch does not stand (R360, R392). -/
def State.heard (s : State) : Prop := s.boot.dark = false ∧ s.latch = false

/-- A BAR0 write or a doorbell reaches the machine (R211). -/
def State.linked (s : State) : Prop := s.heard ∧ s.hif.linkUp = true

/-- A descriptor of ring r is the next to be fetched, and no Volley is open or draining on the ring (R216, R227). -/
def State.served (s : State) (r : Nat) : Prop :=
  s.heard ∧ s.nextRing = some r ∧ (fetch r s).draining r = false ∧ (fetch r s).openOn r = none

/-! ### What a command does -/

/-- The command answers a next state: its own effect makes `u` of `s`, and what follows at the same moment is settled. -/
def Does (i : Instr) (s u : State) : Prop := exec i s = .next (framed {} s (settled u))

/-- The same for a command after which the trips, the guards and the rack logic are evaluated too. -/
def DoesP (i : Instr) (s u : State) : Prop := exec i s = .next (framed {} s (powered u))

/-- The same for a command that may change the locked pages (R195). -/
def DoesL (i : Instr) (s u : State) : Prop := exec i s = .next (framed { locks := true } s (settled u))

/-! ### Groups of commands, and what they leave alone -/

/-- Events of the ports, the fabric, the cancellers, the watch and the radio states. -/
def radioEvent : Instr → Bool
  | .alignmentPulse | .slipRepin _ | .unitRepin _ | .mergerSlot _ _ _ | .stormRecalDone _ _ | .rxGapEnd _ | .arcInterval _
  | .compSwitch _ | .ovrDetect _ _ | .bgcConverged _ | .tbandSet _ | .dacRampDone _ | .orxSettleEnd _ | .calDone _ _
  | .calSaveDone _ | .subbandSample _ _ _ | .protoSwitchEnd _ | .xfadeStart _ | .xfadeDone _ | .xfadeAbort _
  | .remoteInputResume _ | .routeEcc _ | .routeEccFatal _ | .routeReload _ | .isoBlockEnd | .backoffStep _
  | .backoffRecovered _ | .backoffReleaseStep _ | .pathShutdown _ | .pathRestart _ | .isoClearLockout _ | .isoClearOffside _
  | .squelch _ | .squelchEnd _ | .coldStartStep _ | .trainLimited _ | .seedWrite _ | .cxlEcc _ | .cxlSliceLost _
  | .sliceReload _ | .fineTransform _ | .integrationEnd _ | .productHandover _ | .watchEcc _ | .watchSliceLost _
  | .watchSliceRestart _ | .snapDone _ | .snapMoved _ | .snapAbort _ | .captureEcc _ | .offsideDwellEnd _ _ _
  | .standbyToSynth _ | .synthToReceive _ | .paBiasEnHigh _ | .paEnHigh _ | .paBiasEnLow _ | .relayToReceive _
  | .receiveToSynth _ | .synthToStandby _ | .synthCalDone _ | .synthUnlock _ | .paFault _ | .paFltHigh _ | .qreqInRise _
  | .qgrant _ | .qreqInFall _ | .qgntInRise _ | .qgntInFall _ | .qgntTimeout _ | .gateBlockEnd => true
  | _ => false

/-- Commands of the host's rings and doorbells. -/
def ringCommand : Instr → Bool
  | .convCal _ _ _ | .snapTrigger _ _ _ _ | .snapMove _ _ | .synthCal _ _ | .nonceGet _ _ | .lockChange _ _ _
  | .cmdTailDoorbell _ _ | .cplHeadDoorbell _ _ | .evtHeadDoorbell _ _ | .streamTailDoorbell _ _ _ | .heartbeat _ | .begin_ _
  | .write32 _ _ _ | .writeBlock _ _ _ _ | .commit _ _ | .abort _ _ _ | .nop _ | .invalidOpcode _ _ | .linkRetrain _ _
  | .stackRealign _ | .timFracRead | .pairSwap _ | .pairPromote _ | .pairResync _ | .dugoutEnter _ | .sbFlush _
  | .sbwinAutoincRead | .sbCopy _ _ _ _ _ | .fltInject _ _ _ _ | .busMasterEnable _ => true
  | _ => false

/-- Events of the links, of stack Volleys and of the fault collector. -/
def linkEvent : Instr → Bool
  | .stackPrepare _ _ _ _ _ _ | .stackReady _ _ _ _ | .stackGoDecision _ | .stackGo _ | .stackAbort _ | .stackVolleyDiscard _
  | .stackAck _ _ | .stackCompletion _ | .hostLost | .recordWaitTimeout _ | .exportLink _ _ | .exportTransmit _
  | .pfcPause _ _ | .interruptTimer _ _ | .pcieLinkUp _ _ | .pcieLinkDown | .linkTrain _ | .linkAligning _ _ _ _ _
  | .linkTrainTimeout _ | .linkRetry _ | .linkUp _ _ _ | .linkDown _ | .linkCrc _ _ | .linkCreditStall _ | .stackMasterLost
  | .dugoutMsg | .stackMemberLost _ | .mirrorReceive _ _ _ | .epochTake | .epochReceive _ _ | .relinquish | .link3LossTimer
  | .promotionBeat | .promotionCapLift | .swapRequest | .faultReport _ | .cascadeFault _ _ | .sbFlushTimer | .sbFlushDone _
  | .sbCleared | .powerFail | .linkReset _ | .seedWriteDone _ _ | .pwrfailNRise | .powerFailWindowEnd | .readyForLinkTraining
  | .creditsReturned _ _ _ => true
  | _ => false

/-- Events of the control engine, the PWM channels, rack power and the firmware's start. -/
def powerEventOf : Instr → Bool
  | .slotExecute _ | .feedbackLost _ | .railFbLost _ | .cteEcc _ | .cteEccFatal _ | .testDone | .ishareSample _ _
  | .pwmPeriodStart _ | .blankWindowEnd _ | .psyncEdge _ _ | .syncLost | .railFreqStep | .slotSpLost | .pmbusPoll _
  | .pmbAlert _ _ | .pmbSegStuck _ _ | .pmbAlertStuck _ | .holdupSlow | .rackReturnAc | .stringEod _ | .shedEvaluate
  | .shadowClose | .railRampStep | .fwImageRead _ _ | .fwVerifyDone _ | .pinReset _ _ | .perstRise => true
  | _ => false

/-- Measurement, PWM, rack power, temperatures and device time are as they were, with their registers. -/
def powerSideKept (s t : State) : Prop :=
  t.mea = s.mea ∧ t.pwm = s.pwm ∧ t.rps = s.rps ∧ t.therm = s.therm ∧ t.tim = s.tim ∧
  ∀ b, b = .mea ∨ b = .pwm ∨ b = .rps → regsOf t.regs b = tidyBlk s.part b (regsOf s.regs b)

/-- The persistent store, the calibration, measurement, temperatures and device time are as they were, with the registers of ISO,
EXP, MEA and PST. -/
def storeKept (s t : State) : Prop :=
  t.pst = s.pst ∧ t.cal = s.cal ∧ t.mea = s.mea ∧ t.therm = s.therm ∧ t.tim = s.tim ∧
  ∀ b, b = .iso ∨ b = .exp ∨ b = .mea ∨ b = .pst → regsOf t.regs b = tidyBlk s.part b (regsOf s.regs b)

/-! ### What the prototype file promises (R60, R61, R429)

The coefficients are free (log 6). A claim about the response of a bank or of a relay takes `PrototypeFile` as a premise. -/

/-- The index of a window or span that stands for the sample's own time: 16,384 − G for an analysis window, G for a synthesis
span (R59, R60). -/
def bankCentre (synth sharp : Bool) : ℕ := if sharp then (if synth then 10240 else 6144) else 8192

/-- The response of a prototype at f MHz from the sub-band centre, its phase taken at the sample's own time: the weighted sum
of the turns of f at 40.96 GS/s. -/
noncomputable def response (synth sharp : Bool) (f : ℝ) : ℂ :=
  ∑ i ∈ Finset.range 16384, (((Config.prototype synth sharp i : ℝ) / 2 ^ 64 : ℝ) : ℂ) *
    Complex.exp (((if synth then -1 else 1) * 2 * Real.pi * f / 40960 * ((i : ℝ) - bankCentre synth sharp) : ℝ) * Complex.I)

/-- Its power response P(f) (R429). -/
noncomputable def powerAt (synth sharp : Bool) (f : ℝ) : ℝ := Complex.normSq (response synth sharp f)

/-- Decibels of a power. -/
noncomputable def decibels (p : ℝ) : ℝ := 10 * Real.log p / Real.log 10

/-- Group delay at f, in converter samples from the sample's own time. -/
noncomputable def delayAt (synth sharp : Bool) (f : ℝ) : ℝ :=
  ((∑ i ∈ Finset.range 16384, ((((i : ℝ) - bankCentre synth sharp) * (Config.prototype synth sharp i : ℝ) / 2 ^ 64 : ℝ) : ℂ) *
    Complex.exp (((if synth then -1 else 1) * 2 * Real.pi * f / 40960 * ((i : ℝ) - bankCentre synth sharp) : ℝ) * Complex.I)) /
      response synth sharp f).re

/-- One prototype taken alone: flat to `flat` MHz within ±0.02 dB, falling to −3.01 dB at 10 MHz, power-complementary between
neighbouring sub-bands up to `edge` MHz where it is at or below −23.4 dB, falling to −`att` dB at `stop` MHz and at or below that
beyond (R60, R429). −3.01 dB is read to two decimals. -/
structure PrototypeOk (synth sharp : Bool) (flat edge stop att : ℝ) : Prop where
  flatBand : ∀ f, |f| ≤ flat → |decibels (powerAt synth sharp f)| ≤ 0.02
  toCrossover : ∀ f g, flat ≤ f → f ≤ g → g ≤ 10 → powerAt synth sharp g ≤ powerAt synth sharp f
  crossover : ∀ f, |f| = 10 → |decibels (powerAt synth sharp f) + 3.01| ≤ 0.005
  complementary : ∀ f, 10 ≤ f → f ≤ edge → powerAt synth sharp f = 1 - powerAt synth sharp (20 - f)
  atEdge : decibels (powerAt synth sharp edge) ≤ -23.4
  transition : ∀ f g, edge ≤ f → f ≤ g → g ≤ stop → powerAt synth sharp g ≤ powerAt synth sharp f
  stopband : ∀ f, stop ≤ |f| → |f| ≤ 20480 → decibels (powerAt synth sharp f) ≤ -att

/-- The response of a relay of sub-bands k to k + j at equal gain through an analysis and a synthesis bank, at f MHz from the
centre of sub-band k (R60). -/
noncomputable def relayResponse (sharpRx sharpTx : Bool) (j : ℕ) (f : ℝ) : ℂ :=
  ∑ i ∈ Finset.range (j + 1), response false sharpRx (f - 20 * i) * response true sharpTx (f - 20 * i)

/-- Ripple limit of a relay, dB (R61). -/
noncomputable def relayLimit : Bool → Bool → ℝ
  | false, false => 0.05
  | true, true => 0.03
  | _, _ => 0.2

/-- What the prototype file promises: each prototype of each bank, its phase, and the relays (R60, R61, R429). The edges of a relay of
one kind are 6.02 dB down, read to two decimals. -/
structure PrototypeFile : Prop where
  standard : ∀ synth, PrototypeOk synth false 6 14 30 90
  sharp : ∀ synth, PrototypeOk synth true 8 12 26 100
  linear : ∀ synth f, response synth false f ≠ 0 → delayAt synth false f = 0
  mixed : ∀ synth f, |f| ≤ 9 → |delayAt synth true f| ≤ 16
  relay : ∀ sharpRx sharpTx (j : ℕ) (f : ℝ), -6 ≤ f → f ≤ 20 * j + 6 →
    |decibels (Complex.normSq (relayResponse sharpRx sharpTx j f))| ≤ relayLimit sharpRx sharpTx
  edges : ∀ sharp (j : ℕ) (f : ℝ), f = -10 ∨ f = 20 * j + 10 →
    |decibels (Complex.normSq (relayResponse sharp sharp j f)) + 6.02| ≤ 0.005

end Sys2Proof.Machine
end

