-- ==== Sys2Proof/Certificates/Slice0/Obligations.lean ====
section
/-!
DEFINITION. Sys2Proof/Certificates/Slice0/Obligations.lean: the statements for the provers. A register command runs `powered` and
`settled` after its own effect: the state named in a statement is what the command's own effect makes (see `Does` in Safety).
-/
open Sys2Proof Sys2Proof.Machine

/-- One step takes the command at the front of the queue and runs it on the queue's rest; with an empty queue the block idles
(log 16), and no word spells a command (log 11). -/
def Obligations.StepRunsTheFrontCommand : Prop :=
  ∀ (c : Instr) (rest : List Instr) (s : State),
    step { s with pending := c :: rest } = exec c { s with pending := rest } ∧
    (s.pending = [] → step s = .next s) ∧ (∀ n w, s.withFetchWord n w = s)

/-- R6, R195, R392, R398: the machine right after power-on reset. -/
def Obligations.ResetStateIsWellFormed : Prop :=
  State.reset.regsWf ∧ State.reset.pending = [] ∧ State.reset.awake ∧ State.reset.latch = false ∧
    State.reset.flt.dugout = false ∧ State.reset.faultLow = true ∧ State.reset.running = false ∧ State.reset.hif.linkUp = false ∧
    (∀ f ∈ famsOf .clk ++ famsOf .fab ++ famsOf .tile, f.held = false → ∀ i < f.n1, ∀ j < f.n2, State.reset.word f i j = regReset .mq96_1A f i)

/-- R6: every step keeps the register file in canonical form, with every reserved bit 0. -/
def Obligations.StepKeepsRegisterForm : Prop :=
  ∀ s t : State, s.regsWf → step s = .next t → t.regsWf

/-- R195, R258, R360, R392: what no command changes, and what only the named ones change: the variant, the queue, the flow of
time, the thermal latch and the locked pages. -/
def Obligations.EveryCommandKeepsTheFrame : Prop :=
  ∀ (i : Instr) (s t : State), exec i s = .next t →
    t.part = s.part ∧ t.pending = s.pending ∧ s.now ≤ t.now ∧
    (s.latch = true → i ≠ .vauxLoss → t.latch = true) ∧
    (t.pst.locked ≠ s.pst.locked → (∃ v, i = .volleyApply v) ∨ (∃ v, i = .lockApplied v) ∨ (∃ f, i = .islandReady f) ∨
      i = .resetAction ∨ i = .vauxLoss)

/-- R381: only a reset leaves Dugout. -/
def Obligations.OnlyAResetLeavesDugout : Prop :=
  ∀ (i : Instr) (s t : State), exec i s = .next t → s.flt.dugout = true → t.flt.dugout = false →
    i = .resetAction ∨ i = .vauxLoss

/-- R211, R360, R392: with VAUX lost only its return acts; under the thermal latch no command of the host acts; with the PCI
Express link down no BAR0 write and no doorbell arrives. -/
def Obligations.SilentMachineTakesNoCommand : Prop :=
  ∀ (i : Instr) (s : State),
    (s.boot.dark = true → (∀ sid side f, i ≠ .powerOn sid side f) →
      exec i s = .next (framed {} s s) ∨ exec i s = .fault .outsideBar0) ∧
    (s.boot.dark = false → s.latch = true →
      (∀ d, exec (.nop d) s = .next (framed {} s s)) ∧ (∀ d, exec (.begin_ d) s = .next (framed {} s s)) ∧
      (∀ d op, exec (.commit d op) s = .next (framed {} s s)) ∧ (∀ d v b, exec (.abort d v b) s = .next (framed {} s s)) ∧
      (∀ d o v, exec (.write32 d o v) s = .next (framed {} s s)) ∧ (∀ d, exec (.dugoutEnter d) s = .next (framed {} s s)) ∧
      (∀ off n v, off < 0x400000 → exec (.registerWrite off n v) s = .next (framed {} s s)) ∧
      (∀ r v, exec (.cmdTailDoorbell r v) s = .next (framed {} s s)) ∧ (∀ v, exec (.heartbeat v) s = .next (framed {} s s)) ∧
      (∀ v, exec (.deviceReset v) s = .next (framed {} s s))) ∧
    (s.heard → s.hif.linkUp = false →
      (∀ r v, Does (.cmdTailDoorbell r v) s s) ∧ (∀ r v, Does (.cplHeadDoorbell r v) s s) ∧
      (∀ r v, Does (.evtHeadDoorbell r v) s s) ∧ (∀ r v l, Does (.streamTailDoorbell r v l) s s) ∧
      (∀ v, Does (.heartbeat v) s s) ∧ (∀ off n v, off < 0x400000 → DoesP (.registerWrite off n v) s s))

/-- R7, R261: what a BAR0 read of each width returns. R6: reserved bits and reserved addresses read 0, and a write to a
reserved address is discarded. -/
def Obligations.ReadsAndReservedAddresses : Prop :=
  (∀ (s : State) (off : Nat),
     (off % 4 = 0 → s.readBytes off 4 = leBytes 4 (s.readReg off).toNat) ∧
     (off % 4 = 0 → s.readBytes off 8 = leBytes 4 (s.readReg off).toNat ++ leBytes 4 (s.readReg (off + 4)).toNat) ∧
     (∀ n, off % 4 + n ≤ 4 → ∀ k < n, (s.readBytes off n).getD k 0 =
       (s.readReg (off / 4 * 4)).toNat / 2 ^ (8 * (off % 4 + k)) % 256) ∧
     (∀ n, 4 < off % 4 + n → (off % 4 ≠ 0 ∨ n ≠ 8) → s.readBytes off n = List.replicate n 0)) ∧
  (∀ s : State,
     (∀ off b f i j, blkOf off = some b → findFam (famsOf b) off = some (f, i, j) →
       s.readReg off &&& ~~~(BitVec.ofNat 32 f.mask) = 0#32) ∧
     (∀ off, (∀ b, blkOf off = some b → findFam (famsOf b) off = none) →
       s.readReg off = 0#32 ∧
       (∀ v : BitVec 64, s.linked → off % 4 = 0 → off < 0x400000 → s.running = true → DoesP (.registerWrite off 4 v) s s) ∧
       (∀ v : BitVec 64, s.linked → off % 4 = 0 → off < 0x400000 → s.running = false → ∃ u, DoesP (.registerWrite off 4 v) s u ∧
         ∀ (g : RegFam) (i j : Nat), g.blk ≠ .hif ∨ (regOff g i j ≠ regOff HIF_DISCARDCNT 0 0 ∧
           regOff g i j ≠ regOff HIF_DISCARDADDR 0 0) → u.word g i j = s.word g i j)))

/-- R372: a pending bit is set by a report that is not CONSEQUENT, and cleared by a write of 1 that does nothing else. -/
def Obligations.PendingBitsSetAndAcknowledged : Prop :=
  ∀ s : State,
    (∀ (a : Area) (r : Report), r.src < 384 →
      (2 ≤ r.cls → s.covered r.src = false → (accept a r s).bitAt FLT_PEND_PEND r.src = true) ∧
      (r.cls < 2 ∨ s.covered r.src = true → (accept a r s).bitAt FLT_PEND_PEND r.src = s.bitAt FLT_PEND_PEND r.src) ∧
      (∀ x, x < 384 → x ≠ r.src → (accept a r s).bitAt FLT_PEND_PEND x = s.bitAt FLT_PEND_PEND x)) ∧
    (∀ (i : Fin 12) (v : Word), s.linked → s.running = true →
      (let u := s.put FLT_PEND_PEND (s.get FLT_PEND_PEND i &&& (2 ^ 32 - 1 - v.toNat)) i
       DoesP (.fltPendClear i v) s u ∧
       ∀ k < 32, u.bitAt FLT_PEND_PEND (32 * i + k) = (s.bitAt FLT_PEND_PEND (32 * i + k) && !bitOf v.toNat k)))

/-- R373: what drives FAULT_N low, and what never does. -/
def Obligations.FaultLineFollowsItsCauses : Prop :=
  ∀ s : State,
    (s.faultLow = true ↔ (∃ i < 12, s.get FLT_PEND_PEND i ≠ 0) ∨ s.flt.dugout = true ∨ s.flt.pageCheck = true) ∧
    (∀ (a : Area) (r : Report), r.cls < 2 → (accept a r s).faultLow = s.faultLow) ∧
    (∀ (i : Nat) (low : Bool), i < 8 → (cascade i low s).faultLow = s.faultLow)

/-- R221: a completion is written at the ring's index with its phase, and moves the index on. -/
def Obligations.CompletionsAreWritten : Prop :=
  ∀ (s : State) (c : Fin 16) (e : CplEntry),
    (cplBytes e).length = 16 ∧
    (s.ringLive .cpl c = true → s.get CPL_CFG_LOG2D c ≤ 16 →
      (let u := writeCpl c e s
       let idx := s.get CPL_STAT_INDEX c
       tabGet u.hif.cpl (ekey c idx) = { e with phase := decide ((s.ring .cpl c).pass % 2 = 0) } ∧
       (∀ k, k ≠ ekey c idx → tabGet u.hif.cpl k = tabGet s.hif.cpl k) ∧
       u.get CPL_STAT_INDEX c = (idx + 1) % s.depth .cpl c ∧
       (u.ring .cpl c).pass = (s.ring .cpl c).pass + (if (idx + 1) % s.depth .cpl c = 0 then 1 else 0) ∧
       (u.ring .cpl c).reserved = (s.ring .cpl c).reserved - 1)) ∧
    (s.ringLive .cpl c = false → ∀ k, tabGet (writeCpl c e s).hif.cpl k = tabGet s.hif.cpl k)

/-- R235: an event goes to the ring of its source, or is counted when that ring is full or disabled, or is dropped. -/
def Obligations.EventsAreDeliveredOrCounted : Prop :=
  ∀ (s : State) (r : Report) (c : Bool), r.src < 384 →
    ((s.evMap r.src).2 = false → deliver r c s = s) ∧
    ((s.evMap r.src).2 = true → s.ringLive .evt (s.evMap r.src).1 = false ∨ s.freeSlots .evt (s.evMap r.src).1 = 0 →
      (deliver r c s).get HIF_EVOVF_COUNT r.src = min (s.get HIF_EVOVF_COUNT r.src + 1) 65535 ∧
      ∀ x, x < 384 → x ≠ r.src → (deliver r c s).get HIF_EVOVF_COUNT x = s.get HIF_EVOVF_COUNT x) ∧
    ((s.evMap r.src).2 = true → s.ringLive .evt (s.evMap r.src).1 = true → s.owesSummary (s.evMap r.src).1 = false →
      0 < s.freeSlots .evt (s.evMap r.src).1 →
      (let e := (s.evMap r.src).1
       tabGet (deliver r c s).hif.evt (ekey e (s.get EVT_STAT_INDEX e)) =
         { code := r.code, src := r.src, flags := (r.cls + bit c * 4) % 128 + bit (s.phase .evt e) * 128
           seq := (s.ring .evt e).seq % 65536, frac := s.devTime % 2 ^ 32, sec := s.devTime / 2 ^ 32 % 2 ^ 32
           p0 := r.p0, p1 := r.p1, p2 := r.p2, p3 := r.p3 }))

/-- R7, R4, R5: what each width of a BAR0 write does; every other register write is one of these. R81 and its like: the
counters that 0xFFFF_FFFF clears, and that no other value changes. -/
def Obligations.RegisterWritesAndCounterClears : Prop :=
  (∀ (s : State) (off : Nat) (bytes : Fin 9) (val : BitVec 64),
     (0x400000 ≤ off → exec (.registerWrite off bytes val) s = .fault .outsideBar0) ∧
     (s.linked → off < 0x400000 →
       (bytes = 4 → off % 4 = 0 → DoesP (.registerWrite off bytes val) s (wordWrite off (BitVec.ofNat 32 val.toNat) s)) ∧
       (bytes = 8 → off % 4 = 0 → DoesP (.registerWrite off bytes val) s
         (bar0Word (off + 4) (BitVec.ofNat 32 (val.toNat / 2 ^ 32)) (wordWrite off (BitVec.ofNat 32 val.toNat) s))) ∧
       (bytes ≠ 0 → (off % 4 ≠ 0 ∨ (bytes ≠ 4 ∧ bytes ≠ 8)) →
         DoesP (.registerWrite off bytes val) s (discard off false s)))) ∧
  (∀ (s : State) (f : RegFam) (i j : Nat) (v : Word),
     f ∈ [TILE_SATCNT, TILE_TXCLIP, FAB_CLIPCNT, SPW_DROPCNT, HIF_DISCARDCNT, STR_DROPCNT, QLK_LINKCRC, EXP_DROPCNT,
       PST_CLAMPCNT] →
     i < f.n1 → j < f.n2 → s.linked → s.running = true →
     DoesP (.counterClear (regOff f i j) v) s (if v = 0xFFFFFFFF#32 then s.putWord f 0 i j else s))

/-- R4: a write of a register of RW and RWP bits takes those bits and leaves every other bit and register as it was. -/
def Obligations.PlainWriteTakesWritableBits : Prop :=
  ∀ (s : State) (f : RegFam) (i j : Nat) (v : Word), (f.w1c = 0) →
    (plainWrite f i j v s).word f i j =
      (v &&& BitVec.ofNat 32 (f.rw ||| f.rwp)) ||| (s.word f i j &&& ~~~(BitVec.ofNat 32 (f.rw ||| f.rwp))) ∧
    (∀ (g : RegFam) (i' j' : Nat), g.blk ≠ f.blk ∨ regOff g i' j' ≠ regOff f i j →
      (plainWrite f i j v s).word g i' j' = s.word g i' j')

/-- R5: a direct write of a register of RWS or RWL bits is discarded and counted, with its offset; the register and every
other one stay as they were. -/
def Obligations.StagedAndLockedWritesDiscarded : Prop :=
  ∀ (s : State) (f : RegFam) (i j : Nat) (v : Word), f ∈ famsOf f.blk → i < f.n1 → j < f.n2 → f.rws ≠ 0 ∨ f.rwl ≠ 0 →
    (famWrite f i j v s).word f i j = s.word f i j ∧
    (famWrite f i j v s).get HIF_DISCARDCNT_WRITES = min (s.get HIF_DISCARDCNT_WRITES + 1) (2 ^ 32 - 1) ∧
    (famWrite f i j v s).get HIF_DISCARDADDR_OFFSET = regOff f i j ∧
    (famWrite f i j v s).get HIF_DISCARDADDR_BAR2 = 0 ∧
    (∀ (g : RegFam) (i' j' : Nat), g.blk ≠ .hif ∨ (regOff g i' j' ≠ regOff HIF_DISCARDCNT 0 0 ∧
      regOff g i' j' ≠ regOff HIF_DISCARDADDR 0 0) → (famWrite f i j v s).word g i' j' = s.word g i' j')

/-- R20-R25: beat boundaries, alignment pulses, and the pinning of clock crossings. -/
def Obligations.GridEventsPinCrossings : Prop :=
  ∀ s : State, s.awake →
    (∀ slips report, ∃ u, Does (.beatBoundary slips report) s u ∧
      u.rps.dlNow = u.get RPS_SHEDSTAT_DL_RED ∧ u.rps.ulNow = u.get RPS_SHEDSTAT_UL_RED) ∧
    (∀ t, s.isMaster = true → s.qlk.realignAt = some t →
      Does .alignmentPulse s (alignNow { s.moveTo t with qlk := { s.qlk with realignAt := none } })) ∧
    (s.isMaster = false → s.ioOk 7 = true → Does .alignmentPulse s (joined (alignNow s))) ∧
    (∀ i : Fin 36, s.radio.unpinned.contains i.val = true →
      (∃ u, Does (.unitRepin i) s u ∧ u.now = max s.now s.beatCeil ∧
        (∀ j : Nat, j ∈ u.radio.unpinned ↔ j ∈ s.radio.unpinned ∧ j ≠ i) ∧
        (u.radio.unpinned = [] → s.radio.aligned = true → u.get GLB_XSTAT_PINNED = 1))) ∧
    (∀ (i : Fin 36) (t : Nat), s.radio.slipped.find? (fun e => e.1 = i.val) = some (i.val, t) →
      ∃ u, Does (.slipRepin i) s u ∧ u.now = max s.now t ∧ u.radio.slipped = tabErase i.val s.radio.slipped ∧
        u.radio.unpinned = s.radio.unpinned ∧ u.get GLB_XSTAT_PINNED = s.get GLB_XSTAT_PINNED)

/-- R22: what the sample indices and the beats count from, and how long a beat is. -/
def Obligations.AlignmentPulseRestartsTheGrid : Prop :=
  Config.beat = 1024 * Config.subSample ∧ Config.beat = 2 ^ 20 * Config.convSample ∧ 10 * Config.beat = 256 * Config.us ∧
  ∀ s : State, s.subNow = (s.now - s.align) / Config.subSample ∧ s.beatNow = (s.now - s.align) / (2 ^ 20 * Config.convSample) ∧
    (∀ b, s.beatTick b = s.align + b * 2 ^ 20 * Config.convSample) ∧
    (alignNow s).align = s.now ∧ (alignNow s).subNow = 0 ∧ (alignNow s).beatNow = 0 ∧ (alignNow s).fab.sampN = 0 ∧
    (alignNow s).radio.unpinned = [] ∧ (alignNow s).get GLB_XSTAT_PINNED = 1 ∧ (alignNow s).radio.slipped = [] ∧
    (s.isMaster = true → (alignNow s).qlk.alignTill = s.now + 40 * Config.ticksPerNs) ∧
    (s.isMaster = false → (alignNow s).qlk.alignTill = s.qlk.alignTill)

/-- R36, R38, R44, R45, R48, R428: the timed events of a receive unit and of the DAC mute. R36: what an ARC interval decides
when ARC acts: a step raises or lowers ATT_NOW inside ATT_MIN to ATT_MAX. -/
def Obligations.ReceiveUnitEvents : Prop :=
  (∀ s : State, s.awake →
     (∀ u : Fin 112, (s.unit u).gap = true → s.gapCause u = false →
       Does (.rxGapEnd u) s ((s.moveTo s.beatCeil).modUnit u (fun x => { x with gap := false }))) ∧
     (∀ (p : Fin 96) (c code : Nat) (rest : List (Nat × Nat)), (s.unit p).comp = (c, code) :: rest →
       ∃ u, Does (.compSwitch p) s u ∧ u.now = max s.now (s.align + c * Config.convSample) ∧ (u.unit p).comp = rest ∧
       (u.unit p).atts = (c, code) :: (s.unit p).atts.take 255 ∧ u.pget TILE_RANGEIDX_C p = c % 2 ^ 32) ∧
     (∀ p : Fin 96, (s.unit p).rampDir = 1 → ∃ u, Does (.dacRampDone p) s u ∧
       u.now = max s.now ((s.unit p).rampAt + (25600 - (s.unit p).rampS) * 400) ∧
       u.pget TILE_PORTSTAT_RAMP p = 2 ∧ (u.unit p).rampS = 25600) ∧
     (∀ p : Fin 96, (s.unit p).rampDir = 3 → s.inRelay (p / 6) = true → ∃ u, Does (.dacRampDone p) s u ∧
       u.now = max s.now ((s.unit p).rampAt + (s.unit p).rampS * 400) ∧
       u.pget TILE_PORTSTAT_RAMP p = 0 ∧ (u.unit p).rampS = 0) ∧
     (∀ (t : Fin 16) (e : Nat), (s.unit (96 + t)).settleAt = some e → ∃ u, Does (.orxSettleEnd t) s u ∧
       u.now = max s.now e ∧ u.get TILE_ORXSTAT_SETTLING t = 0 ∧ (u.unit (96 + t)).settleAt = none) ∧
     (∀ (u : Fin 112) (g : Nat), ∃ t, Does (.ovrDetect u g) s t ∧
       (∀ k : Nat, g ≤ k + 2 → k ≤ g + 4 → k ∈ (t.unit u).ovr) ∧ (t.unit u).ovrBeat = some (max ((g + 4) * 16 / 1048576) ((s.unit u).ovrBeat.getD 0))) ∧
     (∀ p : Fin 96, s.arcActive p = false → Does (.arcInterval p) s
       (let k := max (s.unit p).arcK (((s.now - s.align) / Config.convSample + 40959) / 40960 - 1)
        (s.moveTo (s.align + 40960 * (k + 1) * Config.convSample)).modUnit p (fun y =>
          { y with arcK := k + 1, arcMax := none, arcSkip := false })))) ∧
  (∀ (s : State) (p : Fin 96) (m : Nat), s.awake → s.arcActive p = true → (s.unit p).arcSkip = false →
     (s.unit p).arcMax = some m → s.pget TILE_PORTCFG_ATT_MIN p ≤ s.pget TILE_PORTCFG_ATT_MAX p →
     ∃ u, Does (.arcInterval p) s u ∧ (u.unit p).arcMax = none ∧
       (s.pget TILE_PORTSTAT_ATT_NOW p ≤ s.pget TILE_PORTCFG_ATT_MAX p →
         s.pget TILE_PORTCFG_ATT_MIN p ≤ s.pget TILE_PORTSTAT_ATT_NOW p →
         s.pget TILE_PORTCFG_ATT_MIN p ≤ u.pget TILE_PORTSTAT_ATT_NOW p ∧
         u.pget TILE_PORTSTAT_ATT_NOW p ≤ s.pget TILE_PORTCFG_ATT_MAX p))

/-- R41, R33, R158: a merger slot whose two bursts are both there. -/
def Obligations.MergerSlotMergesBursts : Prop :=
  ∀ (s : State) (u : Fin 112) (a b : Burst), s.awake → s.converting u = true → (s.unit u).gap = false →
    (s.unit u).fifoA = [] → (s.unit u).fifoB = [] →
    (let n := max (s.unit u).slotN ((s.now - s.align + 3199) / 3200)
     a.tag.toNat = n % 65536 → b.tag.toNat = n % 65536 → s.slipIn (unitTile u) (n / 8192) = false → ∃ v, Does (.mergerSlot u [a] [b]) s (captureRaw u v) ∧
       v.now = max s.now (s.align + n * 3200) ∧ (v.unit u).slotN = n + 1 ∧ (v.unit u).gapSlots = (s.unit u).gapSlots ∧
       (∀ j < 64, (v.unit u).codes.getD (2 * j) 0 = s.corrected u 0 a.codes j ∧
         (v.unit u).codes.getD (2 * j + 1) 0 = s.corrected u 1 b.codes j) ∧
       (∀ j < 128, (v.unit u).words.getD (127 - j) 0 = s.landWord u (128 * n + j) ((v.unit u).codes.getD j 0)))

/-- R42, R43, R49, R52, R355: the ends of recalibration and calibration, and the band of a tile. -/
def Obligations.CalibrationEvents : Prop :=
  ∀ s : State, s.awake →
    (∀ (u : Fin 112) (m : Option (List Word)), s.calOn (unitTile u) = true → Does (.stormRecalDone u m) s s) ∧
    (∀ (u : Fin 112) (e : Nat), (s.unit u).recalAt = some e → s.calOn (unitTile u) = false →
      (let t := (s.moveTo e).modUnit u (fun y => { y with recalAt := none })
       Does (.stormRecalDone u none) s (outOfServiceEvent u
         (if u.val < 96 then t.pput TILE_PORTSTAT_CAL_FAIL u 1 else t.put TILE_ORXSTAT_CAL_FAIL 1 (u - 96)))) ∧
      (∀ m, recalOk u m = true → ∃ t, Does (.stormRecalDone u (some m)) s t ∧ t.now = max s.now e ∧
        (t.unit u).recalAt = none ∧ (t.unit u).history = [] ∧ ∀ w < 9, t.ufac u w = m.getD w 0) ∧
      (∀ m, recalOk u m = false → Does (.stormRecalDone u (some m)) s
        (calReject u ((s.moveTo e).modUnit u (fun y => { y with recalAt := none }))))) ∧
    (∀ u : Fin 112, (tabGet (s.unit u).bgc (s.unitBand u)).conv = false → 64 ≤ (tabGet (s.unit u).bgc (s.unitBand u)).beats →
      ∃ t, Does (.bgcConverged u) s t ∧ (u.val < 96 → t.pget TILE_PORTSTAT_BGC_CONV u = 1) ∧
      (tabGet (t.unit u).bgc (s.unitBand u)).conv = true) ∧
    (∀ t : Fin 16, s.get PWR_TILE_TBAND t ≠ tabGet s.therm.bands t → tabGet s.therm.bands t < 8 →
      ∃ u, Does (.tbandSet t) s u ∧ u.now = max s.now s.beatCeil ∧ u.get PWR_TILE_TBAND t = tabGet s.therm.bands t ∧
        ∀ p < 6, u.get TILE_PORTSTAT_TBAND t p = tabGet s.therm.bands t) ∧
    (∀ (t : Fin 16) (meas : List (List Word)), s.calOn t = true → 2 ≤ s.cal.group.length → s.cal.group.Nodup →
      ∃ u, Does (.calDone t meas) s u ∧ u.now = max s.now s.cal.endAt ∧
      u.get TILE_CALSTAT_STATE t = 3 ∧ u.get TILE_CALSTAT_TBAND t = s.get PWR_TILE_TBAND t ∧
      (∀ x, x ∈ u.cal.group ↔ x ∈ s.cal.group ∧ x ≠ t) ∧ u.cal.rest = s.cal.rest) ∧
    (∀ ok, s.cal.saving = true → ∃ u, Does (.calSaveDone ok) s u ∧ u.get PST_STAT_CAL_SAVING = 0 ∧ u.cal = {})

/-- R69, R93, R159: a sub-band sample, and R63, R73: the end of a prototype change. R98, R104: remote inputs resume, and route
quarters fail and reload, at beat boundaries. -/
def Obligations.FabricStreamsAdvanceAndRecover : Prop :=
  (∀ s : State, s.awake →
      (∀ (missIn : MissingIn) (missOut : List (Fin 96 × Fin 1024)) (remote : List RemoteSmp),
        (let u := sampleStep (missIn.fabric.map (fun x => (x.1.val, x.2.val))) (missOut.map (fun x => (x.1.val, x.2.val)))
           (missIn.cxl.map Fin.val) (missIn.watch.map Fin.val) remote s
         let n := u.fab.sampN - 1
         Does (.subbandSample missIn missOut remote) s (sendStreams n (dwellsTo n (captureSub n u))))) ∧
     (∀ (p : Fin 96) (z : Nat), (s.unit p).zeroFrom = some z → ∃ t, t.now = max s.now (s.align + (z + 18) * Config.subSample) ∧
       (t.unit p).zeroFrom = none ∧ Does (.protoSwitchEnd p) s (pathLatencies (relat p t)))) ∧
  (∀ s : State, s.awake →
     (∀ l : Fin 4, l ≠ 3 → s.get QLK_LINKSTAT_STATE l = 3 → s.fab.up.contains l.val = false →
       ∃ u, Does (.remoteInputResume l) s u ∧ u.now = max s.now s.beatCeil ∧ l.val ∈ u.fab.up) ∧
     (∀ q : Fin 4, Does (.routeEcc q) s (emit ev_ROUTE_ECC (112 + q.val) s)) ∧
     (∀ q : Fin 4, s.covered (112 + q.val) = false → ∃ u, Does (.routeEccFatal q) s u ∧ q.val ∈ u.fab.dead) ∧
     (∀ q : Fin 4, s.covered (112 + q.val) = true → Does (.routeEccFatal q) s
       (emit ev_ROUTE_ECC_FATAL (112 + q.val) s (.quarter q))) ∧
     (∀ q : Fin 4, s.fab.dead.contains q.val = true → ∃ u, Does (.routeReload q) s u ∧
       u.now = max s.now s.beatCeil ∧ ∀ x, x ∈ u.fab.dead ↔ x ∈ s.fab.dead ∧ x ≠ q.val))

/-- R229, R199: an ordinary Volley writes its members at its apply beat and completes; a protected one changes the locked
pages. -/
def Obligations.VolleyAppliesAtItsBeat : Prop :=
  ∀ (s : State) (v : Fin 8), s.awake → (s.slot v).st = .staged → s.nextStaged = some v.val →
    ((s.slot v).prot = false → (s.slot v).stack = false → v.val < 4 →
      (let t := s.moveTo (s.beatTick (s.slot v).beat)
       let w := (s.slot v).writesFor 0
       DoesL (.volleyApply v) s (completeVolley v (s.slot v).cTag stSUCCESS
         (sendMirror (writtenNow w (refreshPast (1024 * (s.slot v).beat) (applyWrites w t)))
           (refreshPast (1024 * (s.slot v).beat) (applyWrites w t))) ((s.slot v).beat % 2 ^ 32)))) ∧
    ((s.slot v).prot = true → (s.slot v).sealedAt ≠ none →
      (let t := s.moveTo (s.beatTick (s.slot v).beat)
       let r := (s.slot v).record.getD []
       DoesL (.volleyApply v) s (lockInForce (recKind r) (recEntries r) (t.get PST_LOCKGEN_GEN + 1)
         (t.setSlot v { s.slot v with applied := true })))) ∧
    ((s.slot v).prot = true → (s.slot v).sealedAt = none → DoesL (.volleyApply v) s s)

/-- R100, R101: a crossfade starts at a beat boundary, ends when its last sample is done, or runs back when it is aborted. -/
def Obligations.CrossfadesStartEndAndAbort : Prop :=
  ∀ (s : State) (x : Fin 64), s.awake →
    (s.get FAB_XFSTAT_PHASE x = 1 → (s.path (s.get FAB_XFPATH_NEW x)).st = 2 → ∃ u, Does (.xfadeStart x) s u ∧
      (let b := (s.now - (s.path (s.get FAB_XFPATH_NEW x)).nFront * Config.subSample - s.align + Config.beat - 1) / Config.beat
       u.now = max s.now (s.beatTick b) ∧ u.get FAB_XFSTAT_PHASE x = 2 ∧ tabGet u.fab.xfs x = { k := 0, since := s.beatTick b })) ∧
    (s.get FAB_XFSTAT_PHASE x = 2 →
      (let e : Xfade := tabGet s.fab.xfs x
       Does (.xfadeDone x) s (xfEvent ev_XFADE_DONE x (xfEnd x (xfDrop (s.get FAB_XFPATH_OLD x)
         (s.moveTo (e.since + (s.xfLen x - e.k) * Config.subSample))))))) ∧
    (s.get FAB_XFSTAT_PHASE x = 3 →
      (let e : Xfade := tabGet s.fab.xfs x
       Does (.xfadeAbort x) s (xfEvent ev_XFADE_ABORT x (xfEnd x (xfDrop (s.get FAB_XFPATH_NEW x)
         (s.moveTo (e.since + e.k * Config.subSample)))))))

/-- R116, R117: the backoff of a path under oscillation, step by step, its recovery and its release. R118, R119: a path that
keeps oscillating shuts down, with a hold-off or a lock-out, and restarts or is cleared. -/
def Obligations.BackoffAndShutdownOfPaths : Prop :=
  (∀ (s : State) (b : Fin 4096), s.awake →
     ((s.path b).st = 3 → (s.gov b).steps < 19 → ∃ u, Does (.backoffStep b) s u ∧
       u.now = max s.now ((s.gov b).m0 + ((s.gov b).steps + 1) * 4000 * Config.subSample) ∧
       (u.gov b).steps = (s.gov b).steps + 1 ∧
       ((u.gov b).back = (s.gov b).back ∨ (u.gov b).back = (s.gov b).back.map (fun v => v - 60))) ∧
     (∀ t, (s.gov b).clearAt = some t → (s.path b).st = 3 → s.oscCond b = false →
       t + 8000 * Config.subSample ≤ (s.gov b).m0 + 80000 * Config.subSample → ∃ u, Does (.backoffRecovered b) s u ∧
       u.now = max s.now (t + 8000 * Config.subSample) ∧ (u.path b).st = 2 ∧ (u.gov b).relAt = u.now ∧
       (u.gov b).back = (s.gov b).back) ∧
     (∀ v, (s.gov b).back = some v → (s.path b).st = 2 → ∃ u, Does (.backoffReleaseStep b) s u ∧
       u.now = max s.now ((s.gov b).relAt + ((s.gov b).relN + 1) * 10 * Config.ms) ∧
       (u.gov b).relN = (s.gov b).relN + 1 ∧
       ((u.gov b).back = none ∨ (u.gov b).back = some v ∨ (u.gov b).back = some (v + 20)))) ∧
  (∀ (s : State) (b : Fin 4096), s.awake →
     ((s.path b).st = 3 → (s.moveTo ((s.gov b).m0 + 80000 * Config.subSample)).covered (124 + s.pathQuad b) = false →
       ∃ u, Does (.pathShutdown b) s u ∧ u.now = max s.now ((s.gov b).m0 + 80000 * Config.subSample) ∧ (u.path b).st = 4 ∧ (u.gov b).back = none ∧
       (u.hist b).times = (u.opTime :: (s.hist b).times).take 16 ∧
       (u.hist b).lockout = decide (s.limOscCount ≤ u.shutCount b) ∧
       ((u.hist b).lockout = false →
         (u.hist b).holdEnd = some (u.opTime + s.limOscBase * 65536 * 2 ^ (u.shutCount b - 1)))) ∧
     (∀ e, (s.hist b).holdEnd = some e →
       (let t := s.moveTo (s.now + (e - s.opTime) * (Config.sec / 65536))
        let u := t.setHist b { s.hist b with holdEnd := none }
        ((s.path b).st ≠ 4 → Does (.pathRestart b) s u) ∧
        ((s.path b).st = 4 → Does (.pathRestart b) s
          (emit ev_PATH_RESTART (124 + s.pathQuad b) (enterTraining true b u) .none b)))) ∧
     ((s.hist b).lockout = true →
       ((s.path b).st = 4 → Does (.isoClearLockout b) s (enterTraining false b (s.setHist b {}))) ∧
       ((s.path b).st ≠ 4 → Does (.isoClearLockout b) s (s.setHist b {}))) ∧
     (∃ u, Does (.isoClearOffside b) s u ∧ (u.gov b).causes = (s.gov b).causes / 2 * 2 ∧
       ∀ c, c ≠ b.val → u.gov c = s.gov c))

/-- R121, R127, R129: squelch on an idle uplink path, and the steps and the end of cold start. -/
def Obligations.SquelchAndColdStart : Prop :=
  ∀ (s : State) (b : Fin 4096), s.awake →
    ((s.gov b).squelched = false → 3907 ≤ (s.gov b).idle → (s.path b).st = 2 → (s.route b).uplink = true →
      s.flag ISO_PUL_SQ_EN b = true → ∃ u, Does (.squelch b) s u ∧ (u.gov b).squelched = true) ∧
    ((s.gov b).squelched = true → (s.gov b).signal = true → ∃ u, Does (.squelchEnd b) s u ∧
      u.now = max s.now s.beatCeil ∧ (u.gov b).squelched = false ∧ (u.gov b).idle = 0) ∧
    (∀ c, (s.gov b).cold = some c → (s.gov b).training = true → (s.path b).st = 1 →
      (let t := (s.moveTo ((s.gov b).entry + ((s.gov b).points + 1) * 10 * Config.ms)).modGov b (fun x =>
         { x with points := x.points + 1 })
       let u := t.modGov b (fun x => { x with cold := some (if t.gApp b + t.mEff b ≤ t.isoB b then c + 20 else c) })
       ((s.gov b).probe = true → t.probeWaits b = true → Does (.coldStartStep b) s t) ∧
       ((s.gov b).probe = false ∨ t.probeWaits b = false →
         ((∃ v ∈ u.otherLimits b, ∀ w, (u.gov b).cold = some w → w < v) → Does (.coldStartStep b) s u) ∧
         ((∀ v ∈ u.otherLimits b, ∀ w, (u.gov b).cold = some w → v ≤ w) →
           Does (.coldStartStep b) s (trained b ev_TRAIN_DONE u))))) ∧
    (∀ t, (s.gov b).limSince = some t → (s.gov b).training = true → (s.path b).st = 1 →
      Does (.trainLimited b) s (trained b ev_TRAIN_LIMITED (s.moveTo (t + 500 * Config.ms))))

/-- R108, R113, R130, R131, R135: adaptation blocks, seeds, and the loss and reload of canceller slices. -/
def Obligations.CancellerEvents : Prop :=
  ∀ s : State, s.awake →
    (let n := max (s.iso.blockN + 1)
       (((s.now - s.align + Config.subSample - 1) / Config.subSample - s.blockLag + 255) / 256)
     let t := s.moveTo (s.align + (n * 256 + s.blockLag) * Config.subSample)
     let u := { t with iso := { t.iso with blockN := n } }
     Does .isoBlockEnd s (forAll u.livePaths pathBlock (forAll u.liveLinks (linkBlock (n - 1)) u))) ∧
    (∀ l : Fin 16384, (s.link l).st = 3 → s.flag ISO_LCFG_SEED l = true → (s.link l).hourUpd = true →
      ∃ u, Does (.seedWrite l) s u ∧ u.get ISO_SEEDSTAT_WRITING = 1 ∧ (u.link l).hourUpd = false ∧
        u.pst.seedBusy.length = s.pst.seedBusy.length + 1) ∧
    (∀ c : Fin 8, Does (.cxlEcc c) s (emit ev_CXL_ECC (116 + c.val) (s.count ISO_SLICESTAT_ECC_CORR c))) ∧
    (∀ c : Fin 8, s.covered (116 + c.val) = false → Does (.cxlSliceLost c) s
      (loseSlice c (emit ev_CXL_SLICE_LOST (116 + c.val) s (.slice c)))) ∧
    (∀ c : Fin 8, s.domainOn (56 + c.val) = true → s.iso.lost.contains c.val = true → ∃ u, Does (.sliceReload c) s u ∧
      u.now = max s.now s.beatCeil ∧ (∀ x, x ∈ u.iso.lost ↔ x ∈ s.iso.lost ∧ x ≠ c.val) ∧
      u.word ISO_SLICESTAT c = s.word ISO_SLICESTAT c)

/-- R136-R151, R154: the fine transform of a port, the end of its integration, the hand-over, and the loss and restart of a
slice. -/
def Obligations.WatchEvents : Prop :=
  ∀ s : State, s.awake →
    (∀ n : Fin 96, s.domainOn (48 + n / 12) = true → (s.watch n).lost = false →
      ∃ u, Does (.fineTransform n) s u ∧
        (let last := 2048 * ((s.watch n).tj + 1) - 1
         u.now = max s.now (s.align + (last + (s.bankAt n last).nRx) * Config.subSample)) ∧
        (u.watch n).tj = (s.watch n).tj + 1 ∧ (u.watch n).cnt = (s.watch n).cnt + 1 ∧
        ((s.watch n).cnt = 0 → (u.watch n).j0 = (s.watch n).tj ∧
          ((s.watch n).cutAt = none → (u.watch n).cfg = s.word SPW_PCFG n))) ∧
    (∀ n : Fin 96, (s.watch n).cnt ≠ 0 → (s.watch n).lost = false → s.mCfg n ≤ (s.watch n).cnt →
      Does (.integrationEnd n) s (closeIntegration n false s)) ∧
    (∀ n : Fin 96, (s.watch n).out = [] → Does (.productHandover n) s (s.modWatch n (fun x => { x with out := [] }))) ∧
    (∀ n : Fin 96, s.flag SPW_PDEST_RING_EN n = true → ∀ rec_,
      (s.watch n).out = [rec_] →
      (let t := s.modWatch n (fun x => { x with out := [] })
       let r := sendWhole true (t.get SPW_PDEST_RING n) 1 rec_ t
       r.1 = true → r.2.flag SPW_PDEST_EXP_EN n = false → Does (.productHandover n) s r.2)) ∧
    (∀ w : Fin 8, Does (.watchEcc w) s (emit ev_WATCH_ECC (144 + w.val) s)) ∧
    (∀ w : Fin 8, s.covered (144 + w.val) = false → ∃ u, Does (.watchSliceLost w) s u ∧
      ∀ i < 12, (u.watch (12 * w + i)).lost = true) ∧
    (∀ w : Fin 8, (∃ i < 12, (s.watch (12 * w + i)).lost = true) → ∃ u, Does (.watchSliceRestart w) s u ∧
      u.now = max s.now s.beatCeil ∧ ∀ i < 12, (u.watch (12 * w + i)).lost = false)

/-- R156, R167: a snapshot completes, is handed over, is aborted; an error of capture memory is counted as an event. R161,
R162: the end of a clean dwell of the Offside detector moves the input on and clears the violation of its port. -/
def Obligations.SnapshotsAndOffsideDwells : Prop :=
  (∀ (s : State) (x : Fin 16), s.awake →
     (s.snapState x = 2 →
       (let t := s.moveTo (s.align + (s.snap x).endAt * (if s.snapRaw x then Config.convSample else Config.subSample))
        let u := ((t.put SPW_SNAPSTAT_STATE 3 x).modSnap x (fun z => { z with seq := z.seq + 1 })).put SPW_SNAPSTAT_SEQ
          (((s.snap x).seq + 1) % 65536) x
        (s.flag SPW_SNAPCFG0_AUTO_MOVE x = false → Does (.snapDone x) s (emit ev_SNAP_DONE (152 + x.val) u)) ∧
        (s.flag SPW_SNAPCFG0_AUTO_MOVE x = true → Does (.snapDone x) s (startMove x (emit ev_SNAP_DONE (152 + x.val) u))))) ∧
     (∀ w, s.snapState x = 4 → (pump s).hif.waiting.find? (fun y => y.slot = some x.val) = some w → w.bytes.length ≤ w.done →
       s.flag SPW_SNAPCFG0_AUTO_REARM x = false →
       Does (.snapMoved x) s (emit ev_SNAP_MOVED (152 + x.val) ((unwait x (pump s)).put SPW_SNAPSTAT_STATE 3 x))) ∧
     ((s.snapState x = 1 ∨ s.snapState x = 2) → s.covered (152 + x.val) = false → ∃ u, Does (.snapAbort x) s u ∧
       u.snapState x = 0 ∧ (u.snap x).raw = [] ∧ (u.snap x).sub = []) ∧
     Does (.captureEcc x) s (emit ev_CAPTURE_ECC (152 + x.val) s)) ∧
  (∀ (s : State) (t : Fin 16), s.awake → 3 ≤ s.rstate t →
     s.rxEn (96 + t) = true → s.outOfService (96 + t) = false → s.domainOn (3 * t) = true →
     s.flag TILE_ORXCFG_MANUAL t = false → s.get SPW_OFFSTAT_INPUT t < 6 →
     (let e := (tabGet s.spw.dwells t : Dwell).start + s.get SPW_OFFCFG_DWELL_M1 t + 1
      let d : Dwell := tabGet (dwellTo t (1024 * e) (s.moveTo (s.beatTick e))).spw.dwells t
      512 ≤ d.n → (∀ k < 1024, s.offsideOver (6 * t + s.get SPW_OFFSTAT_INPUT t) k d.n (tabGet d.sums k) = false) →
      ∀ late level, ∃ u, Does (.offsideDwellEnd t late level) s u ∧ u.now = max s.now (s.beatTick e) ∧ u.get SPW_OFFSTAT_INPUT t = (s.get SPW_OFFSTAT_INPUT t + 1) % 6 ∧
       bitOf (u.get SPW_OFFSTAT_VIOL t) (s.get SPW_OFFSTAT_INPUT t) = false ∧ u.get SPW_OFFSTAT_BLIND t = 0 ∧
       u.get TILE_ORXSTAT_INPUT t = (s.get SPW_OFFSTAT_INPUT t + 1) % 6 ∧ u.get TILE_ORXSTAT_SETTLING t = 1))

/-- R168, R169, R186: a step of a tile (0-15) or of the device (16) ends at its time, in its new state. R169, R170, R172:
every step between radio states, for a tile and for the device, up and down. -/
def Obligations.RadioStepsComplete : Prop :=
  (∀ (s : State) (u : Nat), u ≤ 16 → (s.stepOf u).goal < 5 →
     (endStep u s).now = max s.now (s.stepOf u).endAt ∧ (endStep u s).rstate u = (s.stepOf u).goal ∧
     ((endStep u s).stepOf u).active = false ∧ (u = 16 → (endStep u s).get CLK_RSTAT_MOVING = 0) ∧
     (∀ v, v ≤ 16 → v ≠ u → (endStep u s).rstate v = s.rstate v ∧ (endStep u s).stepOf v = s.stepOf v)) ∧
  (∀ s : State, s.awake →
     (∀ t : Fin 16, s.stepping t 1 2 = true →
       Does (.standbyToSynth (some t)) s (startupCal (kickRadio
         (if (s.stepOf t).follow then endStep t s else unpin t (endStep t s))))) ∧
     (s.stepping 16 1 2 = true →
       (let a := forAll (List.range 4) (fun q t => if s.synthDue q then synthCald q t else t.put CLK_SYNSTAT_LOCK 1 q)
          (endStep 16 s)
        Does (.standbyToSynth none) s (startupCal (kickRadio (startupHold
          (if s.isMaster then alignNow a else { a with qlk := { a.qlk with waits := true } })))))) ∧
     (∀ o : Option (Fin 16), s.stepping (unitOf o) 2 3 = true →
       Does (.synthToReceive o) s (kickRadio (endStep (unitOf o) s))) ∧
     (∀ o : Option (Fin 16), s.stepping (unitOf o) 4 3 = true →
       Does (.relayToReceive o) s (kickRadio (endStep (unitOf o) s))) ∧
     (∀ o : Option (Fin 16), s.stepping (unitOf o) 3 2 = true →
       Does (.receiveToSynth o) s (kickRadio (endStep (unitOf o) s))) ∧
     (∀ t : Fin 16, s.stepping t 2 1 = true → Does (.synthToStandby (some t)) s (kickRadio (endStep t s))) ∧
     (s.stepping 16 2 1 = true → Does (.synthToStandby none) s
       (kickRadio (forAll (List.range 4) (fun q t => t.put CLK_SYNSTAT_LOCK 0 q) (endStep 16 s)))) ∧
     (s.radio.dev.active = true → s.radio.dev.goal = 0 → DoesP .sleepEntry s (sleepEntry s)))

/-- R177-R179: the enables of the power amplifiers, and a fault of one. -/
def Obligations.AmplifierSequence : Prop :=
  ∀ s : State, s.awake →
    (∀ t : Fin 16, (s.stepOf t).active = true → (s.stepOf t).goal = 4 → (s.stepOf t).biased = false →
      Does (.paBiasEnHigh t) s (relayCheck t (forAll ((portsOf t).filter s.sequenced) seqUp
        ((s.moveTo ((s.stepOf t).begin_ + 340 * Config.us)).setStep t { s.stepOf t with biased := true })))) ∧
    (∀ (p : Fin 96) (e : Nat), (s.pa p).enAt = some e → ∃ t, t.now = max s.now e ∧ (t.pa p).en = true ∧
      (t.pa p).enAt = none ∧ t.pget TILE_PASTAT_SEQ p = 2 ∧ Does (.paEnHigh p) s (relayCheck (p / 6) t)) ∧
    (∀ (p : Fin 96) (e : Nat), (s.pa p).offAt = some e → (s.pa p).again = false → ∃ u, Does (.paBiasEnLow p) s u ∧
      u.now = max s.now e ∧ (u.pa p).bias = false ∧ (u.pa p).offAt = none ∧ u.pget TILE_PASTAT_SEQ p = 0) ∧
    (∀ p : Fin 96, s.ioOk (paBank p) = false → Does (.paFault p) s s ∧ Does (.paFltHigh p) s s) ∧
    (∀ p : Fin 96, s.ioOk (paBank p) = true → s.pflag TILE_PACFG_FLT_EN p = true → s.covered 181 = false → ∃ u, Does (.paFault p) s u ∧
      (u.pa p).en = false ∧ (u.pa p).hard = true ∧ u.pget TILE_PASTAT_FLT p = 1 ∧ u.pget TILE_PASTAT_FLT_PIN p = 0) ∧
    (∀ p : Fin 96, s.ioOk (paBank p) = true → s.pflag TILE_PACFG_FLT_EN p = false → ∃ u, Does (.paFault p) s u ∧
      u.now = s.now + 200 * Config.ticksPerNs ∧ u.pget TILE_PASTAT_FLT_PIN p = 0 ∧ u.pa p = s.pa p) ∧
    (∀ p : Fin 96, s.ioOk (paBank p) = true → ∃ u, Does (.paFltHigh p) s u ∧ u.pget TILE_PASTAT_FLT_PIN p = 1 ∧
      (s.pflag TILE_PASTAT_FLT p = false → s.pflag TILE_PACFG_PA_PRESENT p = false → (u.pa p).hard = false))

/-- R174, R176: the end of a synthesizer's calibration, and the loss of its lock. -/
def Obligations.SynthesizerEvents : Prop :=
  ∀ (s : State) (q : Fin 4), s.awake →
    (∀ e, (s.synth q).calEnd = some e → (s.synth q).cmd = none →
      Does (.synthCalDone q) s (kickRadio (forAll (tilesOf q) unpin
        ((synthCald q (s.moveTo e)).modSynth q (fun y => { y with cmd := none }))))) ∧
    (∀ t : State, (synthCald q t).flag CLK_SYNSTAT_LOCK q = true ∧ (synthCald q t).get CLK_SYNSTAT_CAL_RUN q = 0 ∧
      (synthCald q t).get CLK_SYNSTAT_DRIFT q = 0 ∧ (synthCald q t).get CLK_SYNSTAT_CAL_TEMP q = t.get CLK_SYNSTAT_TEMP q ∧
      ((synthCald q t).synth q).cald = true ∧ ((synthCald q t).synth q).calEnd = none) ∧
    (∃ t, t.get CLK_SYNSTAT_LOCK q = 0 ∧ t.get CLK_SYNSTAT_CAL_RUN q = 1 ∧ (t.synth q).want = true ∧
      (t.synth q).calEnd = some (s.now + 8 * Config.ms) ∧
      (s.covered (177 + q) = false → ∀ i < 4, t.get CLK_TSTAT_FORCED (4 * q + i) = 1) ∧
      Does (.synthUnlock q) s (forceRadio t))

/-- R181-R183, R193: quiet requests and grants on both sides, and the blocks of the transmit gate. -/
def Obligations.QuietAndGateEvents : Prop :=
  ∀ s : State, s.awake →
    (∀ q : Fin 4, s.ioOk 6 = true → s.flag CLK_QCTL_EN q = true → ∃ u, Does (.qreqInRise q) s u ∧ u.now = s.now + 120000 ∧
      u.get CLK_QSTAT_REQ q = 1 ∧ (u.quiet q).req = true ∧ (u.quiet q).on = true) ∧
    (∀ q : Fin 4, s.ioOk 6 = true → s.flag CLK_QCTL_EN q = false → ∃ u, Does (.qreqInRise q) s u ∧ u.now = s.now + 120000 ∧
      u.get CLK_QSTAT_REQ q = 1 ∧ (u.quiet q).req = true ∧ (u.quiet q).on = (s.quiet q).on) ∧
    (∀ q : Fin 4, (s.quiet q).on = true → (s.quiet q).gnt = false → (s.quiet q).req = true → ∃ u, Does (.qgrant q) s u ∧
      u.get CLK_QSTAT_GNT q = 1 ∧ (u.quiet q).gnt = true ∧
      (∀ n, s.quietTx q = some n → (s.quiet q).since + (1 + 40 + n + 8) * Config.subSample ≤ u.now)) ∧
    (∀ q : Fin 4, s.ioOk 6 = true → ∃ u, Does (.qreqInFall q) s u ∧ u.now = s.now + 120000 ∧ u.get CLK_QSTAT_REQ q = 0 ∧
      u.get CLK_QSTAT_GNT q = 0 ∧ u.quiet q = {}) ∧
    (∀ q : Fin 4, s.ioOk 6 = true → ∃ u, Does (.qgntInRise q) s u ∧ u.get CLK_QSTAT_GNT (4 + q) = 1 ∧ (u.quiet (4 + q)).on = false ∧
      (u.quiet (4 + q)).tmoAt = none) ∧
    (∀ q : Fin 4, s.ioOk 6 = true → ∃ u, Does (.qgntInFall q) s u ∧ u.get CLK_QSTAT_GNT (4 + q) = 0 ∧
      (u.quiet (4 + q)).on = (s.quiet (4 + q)).req) ∧
    (∀ (q : Fin 4) (t : Nat), (s.quiet (4 + q)).tmoAt = some t → (s.quiet (4 + q)).req = true →
      (s.quiet (4 + q)).gnt = false → ∃ u, Does (.qgntTimeout q) s u ∧ u.now = max s.now t ∧
      (u.quiet (4 + q)).tmoAt = none) ∧
    (let t := s.moveTo (s.align + ((s.now - s.align) / (64 * Config.subSample) + 1) * (64 * Config.subSample))
     let u := forAll (t.pst.gateSums.map Prod.fst ++ t.pst.gates.map Prod.fst).eraseDups gateOne t
     Does .gateBlockEnd s { u with pst := { u.pst with gateSums := [] } })

/-- R196, R199, R202, R208: the events of the persistent store and of a locked change. -/
def Obligations.StoreEvents : Prop :=
  ∀ s : State, s.awake →
    (∀ n, s.pst.nonce = some n → ∃ u, Does .nonceExpiry s u ∧ u.pst.nonce = none ∧ u.get PST_STAT_NONCE_VALID = 0 ∧
      u.now = max s.now (s.opTick (n.issued + 900 * 65536))) ∧
    (∀ v : Fin 4, (s.slot v).st = .staged → (s.slot v).prot = true → (s.slot v).sealedAt = none →
      ∃ u, Does (.lockJournalSealed v) s u ∧ (u.slot v).sealedAt = some s.now ∧ (u.slot v).st = .staged ∧
        u.now = s.now ∧ u.pst.locked = s.pst.locked) ∧
    (∀ v : Fin 4, (s.slot v).applied = true → (let x := s.slot v; let r := x.record.getD []
      let t := lockHome (recKind r) (recEntries r) s
      DoesL (.lockApplied v) s (compareLocks (completeVolley v x.cTag stSUCCESS
        (emit ev_LOCK_APPLIED 241 t .none 0 (pack2 (recKind r) (recN r)) (t.get PST_LOCKGEN_GEN)) (x.beat % 2 ^ 32))))) ∧
    (∀ (v : Nat) (tag st res : Nat) (h : Option Nat), (s.slot v).prot = true →
      (∀ w < 4, w ≠ v → ((s.slot w).prot && ((s.slot w).st = .validating || (s.slot w).st = .staged)) = false) →
      (completeVolley v tag st s res h).get PST_STAT_LOCK_BUSY = 0) ∧
    (∀ (page : Fin 256) (c : Commit) (q : List Commit), s.pst.queue = c :: q → c.page = page.val → s.flt.flushN = 0 →
      ∃ u, Does (.pageCommit page) s u ∧ u.pst.queue = q ∧
        (∃ x, tabGet u.pst.cells page = some x ∧ x.bytes.take 4 = (factoryPage s.part page).take 4 ∧
          (x.bytes.drop 4).take 8 = leBytes 4 c.value ++ leBytes 4 c.count)) ∧
    (∃ u, Does .optimeCellWrite s u ∧ u.pst.opNext = (s.pst.opNext + 1) % 64 ∧ u.pst.opAt = u.opTime / 65536 ∧
      tabGet u.pst.opCells s.pst.opNext = opCell (u.opTime / 65536) ∧ u.now = max s.now (s.opTick ((s.pst.opAt + 64) * 65536)))

/-- R202, R203: a write of a persistent register takes the value at once, counts, and queues the commit of its page. R192,
R202: a BAR0 write of a persistent register whose page is locked is discarded and counted; else it is a persistent write
behind the checks of its register. -/
def Obligations.PersistentWritesTakeEffectAndQueue : Prop :=
  (∀ (s : State) (i v : Nat) (f : RegFam) (j : Nat), persistReg i = some (f, j) → s.pst.lowPf = false →
     tabGet s.pst.counts i < 1000000 →
     (let mask := BitVec.ofNat 32 (f.rwp ||| f.rw)
      let u := persistWrite i v s
      u.word f j = (s.word f j &&& BitVec.ofNat 32 (2 ^ 32 - 1 - (f.rwp ||| f.rw))) ||| (BitVec.ofNat 32 v &&& mask) ∧
      u.pst.queue = s.pst.queue ++ [{ page := 128 + i, value := (u.word f j).toNat, count := tabGet s.pst.counts i + 1 }] ∧
      tabGet u.pst.counts i = tabGet s.pst.counts i + 1 ∧
      (∀ k, k ≠ i → tabGet u.pst.counts k = tabGet s.pst.counts k))) ∧
  (∀ (s : State) (n : Nat) (f : RegFam) (i : Nat) (v : Word), persistReg n = some (f, i) → s.linked → s.running = true →
     (s.mapLocked n = true → DoesP (.persistentWrite (regOff f i 0) v) s (discard (regOff f i 0) false s)) ∧
     (s.mapLocked n = false → DoesP (.persistentWrite (regOff f i 0) v) s (persistDispatch n f i v s)) ∧
     (f = CTE_PSEED ∨ f = RPS_CAP ∨ f = RPS_SHEDKEEP ∨ f = QLK_PAIRCFG →
       persistDispatch n f i v s = persistWrite n v.toNat s))

/-- R218, R219, R223, R232: doorbells and the heartbeat, which the host writes over the PCI Express link. -/
def Obligations.DoorbellsAndHeartbeat : Prop :=
  ∀ s : State, s.linked →
    (∀ (k : RKind) (i v off : Nat) (f : State → State),
      (s.flag (fEN k) i = false → doorbell k i v off f s = discard off true s) ∧
      (s.flag (fEN k) i = true → s.flag (fSTOPPED k) i = true → doorbell k i v off f s = s) ∧
      (s.flag (fEN k) i = true → s.flag (fSTOPPED k) i = false → s.depth k i ≤ v →
        doorbell k i v off f s = ringError k i 1 s) ∧
      (s.flag (fEN k) i = true → s.flag (fSTOPPED k) i = false → v < s.depth k i → k = .cmd ∨ k = .str →
        doorbell k i v off f s = f (s.modRing k i (fun r => { r with other := v }))) ∧
      (s.flag (fEN k) i = true → s.flag (fSTOPPED k) i = false → v < s.depth k i →
        used (s.depth k i) (s.ring k i).other v ≤ used (s.depth k i) (s.ring k i).other (s.get (fINDEX k) i) →
        doorbell k i v off f s = f (s.modRing k i (fun r => { r with other := v })))) ∧
    (∀ (r : Fin 16) (v : Word), s.flag CMD_CFG_EN r = true → s.flag CMD_STAT_STOPPED r = false → v.toNat < s.depth .cmd r →
      Does (.cmdTailDoorbell r v) s (s.modRing .cmd r (fun x => { x with other := v.toNat }))) ∧
    (∀ (c : Fin 16) (v : Word), s.flag CPL_CFG_EN c = true → s.flag CPL_STAT_STOPPED c = false → v.toNat < s.depth .cpl c →
      used (s.depth .cpl c) (s.ring .cpl c).other v.toNat ≤ used (s.depth .cpl c) (s.ring .cpl c).other (s.get CPL_STAT_INDEX c) →
      Does (.cplHeadDoorbell c v) s (s.modRing .cpl c (fun x => { x with other := v.toNat }))) ∧
    (∀ (e : Fin 8) (v : Word), s.flag EVT_CFG_EN e = true → s.flag EVT_STAT_STOPPED e = false → v.toNat < s.depth .evt e →
      used (s.depth .evt e) (s.ring .evt e).other v.toNat ≤ used (s.depth .evt e) (s.ring .evt e).other (s.get EVT_STAT_INDEX e) →
      Does (.evtHeadDoorbell e v) s (s.modRing .evt e (fun x => { x with other := v.toNat }))) ∧
    (∀ (r : Fin 64) (v : Word) (l : List (Nat × Nat)), s.flag STR_CFG_EN r = true → s.flag STR_STAT_STOPPED r = false →
      v.toNat < s.depth .str r → (∀ b ∈ l, 4096 ≤ b.2) → ∃ u, Does (.streamTailDoorbell r v (some l)) s u ∧
      u = pump (postBuffers r (l.take (used (s.depth .str r) (s.ring .str r).other v.toNat)) (s.ring .str r).other
        (s.modRing .str r (fun x => { x with other := v.toNat })))) ∧
    (∀ v : Word, s.hif.lost = false ∨ s.hif.beatSince = true → Does (.heartbeat v) s
      { s with hif := { s.hif with armed := true, hbAt := s.now, beatSince := s.hif.lost } }) ∧
    (∀ v : Word, s.hif.lost = true → s.hif.beatSince = false → Does (.heartbeat v) s (emit ev_HOST_RESUMED 209
      { s with hif := { s.hif with armed := true, hbAt := s.now, beatSince := true } })) ∧
    (∀ (r : Fin 16) (v : Word) (b : Option (List (Nat × Nat))), bar2Write (0x40 * r.val) 4 v b s =
      doorbell .cmd r v.toNat (0x40 * r.val) (fun t => t) s ∧ Does (.cmdTailDoorbell r v) s (bar2Write (0x40 * r.val) 4 v b s)) ∧
    (∀ (r : Fin 64) (v : Word) (l : List (Nat × Nat)), s.flag STR_CFG_EN r = true → s.flag STR_STAT_STOPPED r = false →
      s.covered 208 = false → (v.toNat < s.depth .str r → used (s.depth .str r) (s.ring .str r).other v.toNat ≠ 0 ∧
        ∃ b, l.head? = some b ∧ b.2 < 4096) → ∃ u w, Does (.streamTailDoorbell r v (some l)) s (closeDest true r u) ∧
      u = ringError .str r 1 w ∧ u.flag STR_STAT_STOPPED r = true ∧ u.get STR_STAT_ERR r = 1) ∧
    (∀ (off n : Nat) (v : Word) (b : Option (List (Nat × Nat))), n ≠ 4 ∨ bellAt off = none →
      bar2Write off n v b s = s ∧ bar2Read off = 0#32)

/-- R215, R227, R237: a write of the configuration of a ring enables or disables it. -/
def Obligations.RingConfigurationWrites : Prop :=
  ∀ (s : State) (k : RKind) (i : Nat) (v : Word), s.linked → s.running = true → i < (cfgFam k).n1 →
    (let off := regOff (cfgFam k) i 0
     (getBits v 0 1 = 1 → DoesP (.ringEnable off v) s (ringEnable k i off v s)) ∧
     (getBits v 0 1 = 0 → DoesP (.ringDisable off v) s (ringDisable k i v s)) ∧
     (s.flag (fEN k) i = true → ringEnable k i off v s = discard off false s) ∧
     (s.flag (fEN k) i = false → getBits v 0 1 = 1 → (s.ring k i).badBase = false →
       4 ≤ (ringEnable k i off v s).get (fLOG2D k) i → (ringEnable k i off v s).get (fLOG2D k) i ≤ 16 →
       (ringEnable k i off v s).flag (fEN k) i = true ∧ (ringEnable k i off v s).get (fINDEX k) i = 0 ∧
       (ringEnable k i off v s).get (fERR k) i = 0 ∧ ((ringEnable k i off v s).ring k i).other = 0 ∧
       ((ringEnable k i off v s).ring k i).pass = 0) ∧
     (s.flag (fEN k) i = false → (s.ring k i).badBase = true → ringEnable k i off v s = badConfig k i (putCfg k i v s) ∧
       (ringEnable k i off v s).flag (fEN k) i = false ∧ (ringEnable k i off v s).get (fERR k) i = 3) ∧
     (getBits v 0 1 = 0 → (ringDisable k i v s).flag (fEN k) i = false))

/-- R225, R227: BEGIN opens a Volley on the lowest free slot, a member joins it, COMMIT sends it to validation. R227: ABORT
ends an open Volley, and takes back the Volley staged last while it is more than two beats away. -/
def Obligations.VolleysOpenGrowCommitAndAbort : Prop :=
  (∀ (s : State) (d : Desc), s.heard → s.nextRing = some d.ring.val →
     (d.lost = true → ∀ (op : CommitOp) (off val : Word),
       Does (.begin_ d) s (ringError .cmd d.ring 2 s) ∧ Does (.write32 d off val) s (ringError .cmd d.ring 2 s) ∧
       Does (.commit d op) s (ringError .cmd d.ring 2 s) ∧ Does (.nop d) s (ringError .cmd d.ring 2 s)) ∧
     (d.lost = false → s.validatingOn d.ring = true → (s.openOn d.ring).isSome = true → ∀ op : CommitOp,
       Does (.commit d op) s (s.modRing .cmd d.ring (fun x => { x with held := true }))) ∧
     (d.lost = false → (fetch d.ring s).draining d.ring = false →
     (let t := fetch d.ring s
      (∀ v, t.openOn d.ring = none → (List.range 4).find? (fun v => (t.slot v).st = .free) = some v →
        ∃ u, Does (.begin_ d) s u ∧ (u.slot v).st = .opened ∧ (u.slot v).ring = d.ring ∧ (u.slot v).tag = d.tag.toNat ∧
          (u.slot v).members = [] ∧ (u.slot v).stack = bitOf d.flags.toNat 0 ∧ (u.slot v).prot = bitOf d.flags.toNat 1) ∧
      (t.openOn d.ring = none → (List.range 4).find? (fun v => (t.slot v).st = .free) = none →
        Does (.begin_ d) s (t.modRing .cmd d.ring (fun x => { x with drain := some d.tag.toNat }))) ∧
      (∀ (v : Nat) (off val : Word), t.openOn d.ring = some v → (t.slot v).tooLarge = false → (t.slot v).members.length < 4096 →
        (t.slot v).bytes + 4 ≤ 262144 → ∃ u, Does (.write32 d off val) s u ∧ (u.slot v).bytes = (t.slot v).bytes + 4 ∧
          (u.slot v).members = (t.slot v).members ++
            [{ sid := d.sid.toNat, off := off.toNat, words := [val], bad := d.flags ≠ 0 || d.extra }]) ∧
      (∀ (v : Nat) (off count : Word) (l : List Word), t.openOn d.ring = some v → (t.slot v).tooLarge = false →
        (t.slot v).members.length < 4096 → (t.slot v).bytes + 4 * count.toNat ≤ 262144 →
        ∃ u, Does (.writeBlock d off count (some l)) s u ∧ (u.slot v).bytes = (t.slot v).bytes + 4 * count.toNat ∧
          (u.slot v).members = (t.slot v).members ++ [{ sid := d.sid.toNat, off := off.toNat, words := l
                                                        bad := d.flags ≠ 0 || d.extra || (count = 0 || 16384 < count.toNat) }]) ∧
      (∀ (v : Nat) (len : Word) (l : List Byte), t.openOn d.ring = some v → (t.slot v).tooLarge = false →
        (t.slot v).members.length < 4096 → (t.slot v).bytes + len.toNat ≤ 262144 →
        ∃ u, Does (.lockChange d len (some l)) s u ∧ (u.slot v).bytes = (t.slot v).bytes + len.toNat ∧
          (u.slot v).members = (t.slot v).members ++ [{ sid := d.sid.toNat, lock := some (l.map BitVec.toNat)
                                                        bad := d.flags ≠ 0 || d.extra || false }]) ∧
      (∀ (v : Nat) (op : CommitOp), t.openOn d.ring = some v → (t.slot v).prot = false → s.validatingOn d.ring = false →
        ∃ u, Does (.commit d op) s u ∧
        (u.slot v).st = .validating ∧ (u.slot v).cTag = d.tag.toNat ∧ (u.slot v).order = s.hif.orderNext ∧
        (u.slot v).members = (t.slot v).members ∧ u.hif.orderNext = s.hif.orderNext + 1)))) ∧
  (∀ (s : State) (d : Desc) (slot : Fin 4), s.heard → s.nextRing = some d.ring.val →
     (fetch d.ring s).draining d.ring = false → descBad d = false → d.lost = false →
     (let t := fetch d.ring s
      (∀ v, t.openOn d.ring = some v → Does (.abort d slot true) s
        (completeCmd d.ring d.tag.toNat stSUCCESS (endOpen v stABORTED t))) ∧
      (∀ v, t.openOn d.ring = some v → Does (.abort d slot false) s
        (completeCmd d.ring d.tag.toNat stWRONG_STATE (endOpen v stINVALID_FIELD t))) ∧
      (t.openOn d.ring = none → (t.stagedOrder.filter (fun w => w < 4)).getLast? = some slot.val → (t.slot slot).prot = false →
        (t.slot slot).stack = false → t.beatNow + 2 < (t.slot slot).beat →
        Does (.abort d slot false) s (completeCmd d.ring d.tag.toNat stSUCCESS
          (completeVolley slot (t.slot slot).cTag stABORTED t))) ∧
      (t.openOn d.ring = none → Does (.abort d slot true) s (completeCmd d.ring d.tag.toNat stWRONG_STATE t))))

/-- R197, R228, R230: validation refuses a Volley by the first row that fails, or stages it for its beat. -/
def Obligations.ValidationStagesOrRefuses : Prop :=
  ∀ (s : State) (v : Fin 4), s.awake → (s.slot v).st = .validating → (s.slot v).answers = [] →
    ((s.slot v).tooLarge = true → Does (.volleyValidation v) s (refuseVolley v stTOO_LARGE s)) ∧
    ((s.slot v).tooLarge = false → (s.slot v).prot = false →
      (∀ st i, earlyRows v s = some (st, i) → Does (.volleyValidation v) s (refuseVolley v st s i)) ∧
      (earlyRows v s = none → (s.slot v).stack = false →
        (∀ st i, blockChecks s ((s.slot v).writesFor 0) false s.fab.sends = some (st, i) →
          Does (.volleyValidation v) s (refuseVolley v st s i)) ∧
        (blockChecks s ((s.slot v).writesFor 0) false s.fab.sends = none →
          (s.late v = true → (s.slot v).nextBeat = false → Does (.volleyValidation v) s (refuseVolley v stLATE s)) ∧
          ((s.late v = false ∨ (s.slot v).nextBeat = true) → ∃ u, Does (.volleyValidation v) s u ∧
            (u.slot v).st = .staged ∧ (u.slot v).beat = s.finalBeat v ∧ (u.slot v).members = (s.slot v).members))) ∧
      (earlyRows v s = none → (s.slot v).stack = true → s.late v = false →
        Does (.volleyValidation v) s (prepare v s))) ∧
    ((s.slot v).tooLarge = false → (s.slot v).prot = true →
      (∀ st, (s.slot v).early = some st → Does (.volleyValidation v) s (refuseLock v st 0 s)) ∧
      ((s.slot v).early = none →
        (s.sigFails v ≠ 0 → Does (.volleyValidation v) s (refuseLock v stSIGNATURE_INVALID (s.sigFails v) s)) ∧
        (s.sigFails v = 0 → s.late v = true → (s.slot v).nextBeat = false →
          Does (.volleyValidation v) s (refuseVolley v stLATE s)) ∧
        (s.sigFails v = 0 → s.late v = false ∨ (s.slot v).nextBeat = true →
          ∃ u, Does (.volleyValidation v) s u ∧ (u.slot v).st = .staged ∧ (u.slot v).beat = s.finalBeat v)))

/-- R231: the parts of a Volley that names several devices of a stack. -/
def Obligations.StackVolleyProtocol : Prop :=
  ∀ s : State, s.awake →
    (∀ (slot : Fin 4) (beat : Nat) (mode : Fin 3) (given : Nat) (offs : List (Word × Word))
       (sends : List (Fin 4 × Fin 96 × Fin 1024)), s.ownSid ≠ 0 →
      (let dest := sends.map (fun x => (x.1.val, x.2.1.val, x.2.2.val))
       let part : Slot :=
         { st := .validating, stack := true, beat := beat, given := given, send := dest, order := s.hif.orderNext
           members := offs.map (fun e => { sid := s.ownSid, off := e.1.toNat, words := [e.2] })
           mode := if mode = 1 then .beat else if mode = 2 then .time else .earliest
           answers := tabSet [] s.ownSid (some 0) }
       (blockChecks s (part.writesFor s.ownSid) true dest = none → Does (.stackPrepare slot beat mode given offs sends) s
         (sendMsg (s.linkTo 0) .ready [slot, s.ownSid, 0, 0]
           ({ s with hif := { s.hif with orderNext := s.hif.orderNext + 1 } }.setSlot (4 + slot) part))) ∧
       (∀ st i, blockChecks s (part.writesFor s.ownSid) true dest = some (st, i) →
         Does (.stackPrepare slot beat mode given offs sends) s (sendMsg (s.linkTo 0) .ready [slot, s.ownSid, st, i] s)))) ∧
    (∀ (v sid : Fin 4) (st : BitVec 16) (i : Nat), (s.slot v).st = .validating → (s.slot v).stack = true →
      (s.slot v).answers ≠ [] → sid.val ∈ (s.slot v).named → ∃ u, Does (.stackReady v sid st i) s u ∧
      tabGet (u.slot v).answers sid = some (st.toNat + 65536 * i)) ∧
    (∀ v : Fin 4, (s.slot v).st = .validating → (s.slot v).stack = true → (s.slot v).answers ≠ [] →
      (∀ j ∈ (s.slot v).named, tabGet (s.slot v).answers j = some 0) → ∃ u, Does (.stackGoDecision v) s u ∧
      (u.slot v).st = .staged ∧ (u.slot v).goSent = true ∧ u.now = max s.now (s.beatTick ((s.slot v).beat - 2))) ∧
    (∀ slot : Fin 4, (s.slot (4 + slot)).st = .validating → s.now < s.beatTick ((s.slot (4 + slot)).beat - 1) →
      Does (.stackGo slot) s (sendMsg (s.linkTo 0) .ack [slot, s.ownSid]
        (s.setSlot (4 + slot) { s.slot (4 + slot) with st := .staged }))) ∧
    (∀ slot : Fin 4, (s.slot (4 + slot)).st = .validating → ∃ u, Does (.stackAbort slot) s u ∧ u.slot (4 + slot) = {}) ∧
    (∀ slot : Fin 4, (s.slot (4 + slot)).st = .validating → ∃ u, Does (.stackVolleyDiscard slot) s u ∧
      u.now = max s.now (s.beatTick ((s.slot (4 + slot)).beat - 1)) ∧ (u.slot (4 + slot)).st = .free) ∧
    (∀ (v sid : Fin 4), (s.slot v).goSent = true → ∃ u, Does (.stackAck v sid) s u ∧ tabGet (u.slot v).acks sid = true) ∧
    (∀ v : Fin 4, (s.slot v).applied = true → (s.slot v).stack = true →
      (∀ j ∈ (s.slot v).named, tabGet (s.slot v).acks j = true) →
      Does (.stackCompletion v) s (completeVolley v (s.slot v).cTag stSUCCESS s ((s.slot v).beat % 2 ^ 32))) ∧
    (∀ v : Fin 4, (s.slot v).applied = true → (s.slot v).stack = true →
      (∃ j ∈ (s.slot v).named, tabGet (s.slot v).acks j = false) →
      Does (.stackCompletion v) s (emit ev_VOLLEY_SPLIT 210 (completeVolley v (s.slot v).cTag stSPLIT
        (s.moveTo (s.beatTick ((s.slot v).beat + 1))) (bitsOf 4 (fun j => tabGet (s.slot v).acks j)))))

/-- R232-R234, R236-R241, R244, R256: host loss, waiting records, export ports, interrupts and the PCI Express link. -/
def Obligations.HostLinkEvents : Prop :=
  ∀ s : State, s.awake →
    (s.hif.armed = true → s.hif.lost = false →
      Does .hostLost s (hostLoss (s.moveTo (s.vauxAt + ((s.hif.hbAt + s.hbInterval * Config.ms - s.vauxAt) /
        (100 * Config.us) + 1) * (100 * Config.us))))) ∧
    (∀ (idx : Nat) (w : Waiting), s.hif.waiting[idx]? = some w → w.done < w.bytes.length → w.slot = none → w.cmd = none →
      (let t := s.moveTo (w.since + 100 * Config.ms)
       Does (.recordWaitTimeout idx) s
         (dropWaiting w { t with hif := { t.hif with waiting := t.hif.waiting.eraseIdx idx } }))) ∧
    (∀ e : Fin 8, (s.exportPort e).link = false → Does (.exportLink e true) s
      (pump (emit ev_EXPORT_LINK (212 + e.val) (s.modExport e (fun x => { x with link := true }))))) ∧
    (∀ e : Fin 8, (s.exportPort e).link = true → Does (.exportLink e false) s
      (closeDest false e (emit ev_EXPORT_LINK (212 + e.val) (s.modExport e (fun x => { x with link := false }))))) ∧
    (∀ (e : Fin 8) (f : List Nat) (rest : List (List Nat)), (s.exportPort e).queue = f :: rest → s.exportOpen e = true →
      (s.flag EXP_CFG_PFC_EN e && (s.exportPort e).paused) = false →
      Does (.exportTransmit e) s (pump (s.modExport e (fun y => { y with queue := rest, wire := f, sent := y.sent + 1 })))) ∧
    (∀ (e : Fin 8) (p : Bool), s.flag EXP_CFG_PFC_EN e = true → s.flag EXP_CFG_VLAN e = true → ∃ u, Does (.pfcPause e p) s u ∧
      (u.exportPort e).paused = p) ∧
    (∀ (k : Fin 4) (i : Fin 64) (t : Nat), (s.ring (rkindOf k) i).sigAt = some t → ∃ u, Does (.interruptTimer k i) s u ∧
      u.now = max s.now t ∧ (u.ring (rkindOf k) i).unsig = 0 ∧ (u.ring (rkindOf k) i).sigAt = none) ∧
    (∀ (g : Fin 7) (w : Fin 17), s.hif.linkReady = true → s.boot.perst = true → s.domainOn 68 = true → g ≠ 0 → w.val ∈ [1, 2, 4, 8, 16] →
      ∃ u, Does (.pcieLinkUp g w) s u ∧ u.hif.linkUp = true ∧ u.hif.gen = g ∧ u.hif.width = w) ∧
    (s.hif.linkUp = true → s.hif.armed = false → ∃ u, Does .pcieLinkDown s u ∧ u.hif.linkUp = false ∧ u.hif.gen = 0 ∧
      u.hif.width = 0 ∧ u.hif.masterEn = false) ∧
    (s.railsGood = true → 1 ≤ s.rstate 16 → s.latch = false → ∃ u, Does .readyForLinkTraining s u ∧ u.hif.linkReady = true) ∧
    (∀ on, s.linked → Does (.busMasterEnable on) s (flushPending { s with hif := { s.hif with masterEn := on } }))

/-- R253-R256, R276: a Quirov link trains, aligns, comes up, fails and goes down. -/
def Obligations.LinkTrainingStates : Prop :=
  ∀ (s : State) (l : Fin 4), s.awake →
    (s.flag QLK_LINKCFG_EN l = true → s.linkSt l = 0 → (s.ql l).retry = none → ∃ u, Does (.linkTrain l) s u ∧
      u.linkSt l = 1 ∧ (u.ql l).timer = some (s.now + 100 * Config.ms)) ∧
    (∀ (sid : Fin 4) (side : Bool) (pl : Fin 4) (delay : Nat), s.linkSt l = 1 → ∃ u, Does (.linkAligning l sid side pl delay) s u ∧
      u.linkSt l = 2 ∧ u.get QLK_LINKSTAT_PEER_SID l = sid ∧ u.get QLK_LINKSTAT_PEER_SIDE l = bit side ∧
      u.get QLK_LINKDLY_D l = min delay 65535 ∧ u.get QLK_LINKSTAT_MISMATCH l = bit (!s.peerOk l sid side pl)) ∧
    (∀ t, (s.ql l).timer = some t → s.linkSt l = 1 → ∃ u, Does (.linkTrainTimeout l) s u ∧ u.now = max s.now t ∧
      u.linkSt l = 0 ∧ (u.ql l).timer = none ∧ (u.ql l).retry = some (u.now + 10 * Config.ms)) ∧
    (∀ t, (s.ql l).retry = some t → s.flag QLK_LINKCFG_EN l = true → s.linkSt l = 0 → ∃ u, Does (.linkRetry l) s u ∧
      u.now = max s.now t ∧ u.linkSt l = 1 ∧ (u.ql l).retry = none ∧ (u.ql l).timer = some (u.now + 100 * Config.ms)) ∧
    (∀ (role : Fin 5) (locks : List Word), s.linkSt l = 2 → s.flag QLK_LINKSTAT_MISMATCH l = false →
      s.get QLK_LINKDLY_D l ≤ 500 → ∃ t, t.now = max s.now s.beatCeil ∧ t.linkSt l = 3 ∧
        (l ≠ 3 → Does (.linkUp l role locks) s (lossAgain l (pathLatencies
          (if t.ownSid = 0 then t.put QLK_STACKSTAT_PRESENT (t.get QLK_STACKSTAT_PRESENT ||| 2 ^ t.get QLK_LINKSTAT_PEER_SID l)
           else if t.get QLK_LINKSTAT_PEER_SID l = 0 then { t with qlk := { t.qlk with tokenAt := t.now, orphan := false } } else t)))) ∧
        (l = 3 → Does (.linkUp l role locks) s (compareLocks (firstRole role
          ({ t with qlk := { t.qlk with peerLocks := some locks, downAt := none } }.put QLK_PAIRSTAT_PEER_UP 1))))) ∧
    (s.linkSt l ≠ 0 → s.linkSt l ≠ 3 → ∃ u, Does (.linkDown l) s u ∧ u.linkSt l = 0 ∧ u.get QLK_LINKSTAT_TRANSIT l = 0 ∧
      u.get QLK_LINKSTAT_MISMATCH l = 0) ∧
    (s.linkSt l = 3 → Does (.linkDown l) s (linkDown l s)) ∧
    (∀ c, s.linkSt l = 3 → (s.ql l).fails < 7 → ∃ u, Does (.linkCrc l c) s u ∧ u.linkSt l = 3 ∧
      (u.ql l).fails = (s.ql l).fails + 1 ∧
      u.get QLK_LINKCRC_FLITS l = min (s.get QLK_LINKCRC_FLITS l + 1) (2 ^ QLK_LINKCRC_FLITS.width - 1)) ∧
    (s.linkSt l = 3 → 7 ≤ (s.ql l).fails → Does (.linkCrc l none) s (linkDown l (emit ev_LINK_CRC (224 + l.val)
      ((s.count QLK_LINKCRC_FLITS l).modQl l (fun q => { q with fails := q.fails + 1 }))))) ∧
    (∀ (sid : Fin 4) (port : Fin 96) (k : Fin 1024) (first m : Nat), s.linkSt l = 3 → (s.ql l).fails < 7 → first ≤ m →
      m < first + 52 → ∃ u, Does (.linkCrc l (some (sid, port, k, first))) s u ∧
      ∀ e ∈ (tabGet u.fab.remote (skey (sid * 96 + port) k) : List (Nat × Smp)), e.1 ≠ m) ∧
    (l ≠ 3 → s.linkSt l = 3 → (s.ql l).stalled = true → Does (.linkCreditStall l) s (emit ev_LINK_CREDIT_STALL (224 + l.val)
      (s.modQl l (fun q => { q with stalled := false })) (.qlink l))) ∧
    (∀ (pool : Fin 4) (given : CreditReturn), s.linkSt l = 3 → ∃ u, Does (.creditsReturned l pool given) s u ∧
      (u.ql l).fails = 0 ∧ tabGet (u.ql l).hand pool ≤ poolSize l pool ∧
      (u.ql l).waiting pool = ((s.ql l).waiting pool).drop (min (poolSize l pool) (tabGet (s.ql l).hand pool + given.n)))

/-- R257, R258, R266-R269: the grid a member takes over, the master's beat token, and the loss of either. -/
def Obligations.StackEvents : Prop :=
  ∀ s : State, s.awake →
    (∀ b time, s.isMaster = false → s.qlk.waits = true → ∃ t, t.align = s.now - b * Config.beat ∧ t.fab.sampN = 1024 * b ∧
      t.tim.run = true ∧ t.tim.base = time ∧ t.tim.since = s.now ∧ Does (.gridMark b time) s (joined t)) ∧
    (∀ time token, s.ownSid ≠ 0 → s.role ≠ 0 → token.promo = none → token.resync = false → token.role = Fin.ofNat 5 s.role →
      ∃ u, Does (.beatToken time token) s u ∧ u.qlk.tokenAt = s.now ∧ u.qlk.orphan = false ∧ u.tim.base = time ∧
      u.tim.since = s.beatTick s.beatNow ∧ u.get QLK_STACKSTAT_MASTER_OK = 1 ∧ u.get TIM_STAT_VALID = bit token.valid) ∧
    (∀ time token, s.ownSid ≠ 0 → ∃ u, Does (.beatToken time token) s (
      let v := followPromotion token.promo (followRole token.role u)
      if token.resync && v.role = 1 then sendConfig v else v) ∧ u.role = s.role ∧ u.tim.base = time) ∧
    (s.ownSid ≠ 0 → s.linkSt (s.linkTo 0) = 3 → s.qlk.orphan = false → (let t := s.moveTo (s.qlk.tokenAt + 4 * Config.beat)
      Does .stackMasterLost s (raise ev_STACK_MASTER_LOST 228
        ({ t with qlk := { t.qlk with orphan := true } }.put QLK_STACKSTAT_MASTER_OK 0)))) ∧
    (s.ownSid ≠ 0 → Does .dugoutMsg s (raise ev_STACK_MASTER_LOST 228 s)) ∧
    (∀ sid : Fin 4, s.ownSid = 0 → sid ≠ 0 → bitOf (s.get QLK_STACKSTAT_PRESENT) sid = true →
      Does (.stackMemberLost sid) s (remoteLost (s.linkTo sid) (emit ev_STACK_MEMBER_LOST 228
        (s.put QLK_STACKSTAT_PRESENT (s.get QLK_STACKSTAT_PRESENT - 2 ^ sid.val)) .none 0 sid)))

/-- R260-R265: device time: the latched read, the armed set, the pulse per second and PTP. -/
def Obligations.DeviceTimeEvents : Prop :=
  ∀ s : State,
    (s.linked → ∃ u, Does .timFracRead s u ∧ u.get TIM_FRAC_FRAC = s.devTime % 2 ^ 32 ∧
      u.get TIM_SEC_LO_SEC = s.devTime / 2 ^ 32 % 2 ^ 32 ∧ u.get TIM_SEC_HI_SEC = s.devTime / 2 ^ 64 % 65536) ∧
    (s.awake → ∀ t, s.tim.armed = some t → s.tim.setNow = true → ∃ u, Does .timeSet s u ∧ u.tim.armed = none ∧
      u.tim.base = t ∧ u.tim.since = u.now ∧ u.devTime = t ∧ u.get TIM_STAT_VALID = 1 ∧
      u.now = max s.now (s.beatTick ((s.tim.armAt - s.align) / Config.beat + 1))) ∧
    (s.awake → s.ioOk 7 = true → s.tim.armed = none → s.tim.step = none → ∃ u, Does .ppsEdge s u ∧ u.tim.pps = some (s.now, s.devTime) ∧
      u.now = s.now) ∧
    (s.awake → s.ioOk 7 = true → ∀ t, s.tim.armed = some t → s.tim.setNow = false → s.tim.armAt + Config.beat ≤ s.now →
      ∃ u, Does .ppsEdge s u ∧ u.tim.armed = none ∧ u.tim.base = t ∧ u.tim.since = s.now ∧ u.get TIM_STAT_VALID = 1) ∧
    (s.awake → ∀ t v, s.tim.pps = some (t, v) → ∃ u, Does .ppsLost s u ∧ u.now = max s.now (t + 1100 * Config.ms) ∧
      u.tim.pps = none ∧ u.get TIM_STAT_PPS_OK = 0) ∧
    (s.awake → s.isMaster = true → s.flag TIM_CFG_PPS_OUT_EN = true → s.tim.run = true → ∃ u, Does .ppsOutPulse s u ∧
      u.tim.outTill = u.now + 100 * Config.ms) ∧
    (s.awake → ∀ (p : Fin 2) (domain : Byte) (o : Int), s.isMaster = true → s.flag TIM_CFG_SRC = true →
      s.flag (if p = 0 then TIM_CFG_PTP0_EN else TIM_CFG_PTP1_EN) = true → domain.toNat = s.get TIM_CFG_DOMAIN →
      ∃ u, Does (.ptpSync p domain o) s u ∧ u.get TIM_STAT_PTP_LOCK = 1 ∧ u.get TIM_STAT_PTP_PORT = p ∧
        u.get TIM_PTPOFS_OFS = codeOf 32 (clampI (-2147483648) 2147483647 o) ∧
        (s.flag TIM_STAT_PTP_LOCK = false → u.tim.step = some o) ∧
        (s.flag TIM_STAT_PTP_LOCK = true → o.natAbs ≤ 1000 → u.tim.step = s.tim.step))

/-- R270-R275: mirrors, epochs, promotion and the exchange of roles in a pair. -/
def Obligations.PairEvents : Prop :=
  ∀ s : State, s.awake →
    (∀ (seq : Word) (ms : List (Word × Word)), s.role = 2 → ms ≠ [] → ∃ u, Does (.mirrorReceive seq true ms) s u ∧
      u.qlk.mirrors = s.qlk.mirrors ++ [(seq.toNat, ms.map (fun x => (x.1.toNat, x.2)))]) ∧
    (∀ (seq : Word) (ms : List (Word × Word)), s.role = 2 → Does (.mirrorReceive seq false ms) s s) ∧
    (s.qlk.mirrors ≠ [] → (let t := s.moveTo s.beatCeil
      Does .mirrorApply s (forAll s.qlk.mirrors applyMirror { t with qlk := { t.qlk with mirrors := [] } }))) ∧
    (∀ t, s.role = 1 → s.qlk.epochAt = some t → s.qlk.swap = none →
      Does .epochTake s (takeEpoch (s.moveTo (t + 3906 * Config.beat)))) ∧
    (∀ (n : Word) (e : Epoch), s.role = 2 → ∃ u, Does (.epochReceive n (some e)) s u ∧ u.qlk.held = some e ∧
      u.get QLK_EPOCH_NUMBER = n.toNat ∧ u.get QLK_PAIRSTAT_EPOCH_VALID = 1) ∧
    (∀ n : Word, s.role = 2 → Does (.epochReceive n none) s (emit ev_EPOCH_DISCARD 231 s)) ∧
    (s.role = 2 → s.isMaster = true → s.qlk.promoAt = none → s.qlk.swap = none → ∃ u, Does .relinquish s u ∧
      u.qlk.promoAt = some (s.beatTick (s.beatAt (s.now + 2 * Config.beat)))) ∧
    (s.role = 2 → s.isMaster = false → Does .relinquish s (sendMsg (s.linkTo 0) .relinquish [] s)) ∧
    (s.role = 1 → s.isMaster = true → Does .relinquish s (setRole 4 s)) ∧
    (∀ t, s.qlk.downAt = some t → s.flag QLK_PAIRCFG_AUTO_LINKLOSS = true →
      (let x := s.moveTo (t + Config.ms)
       let u := { x with qlk := { x.qlk with downAt := none } }
       (s.isMaster = false → Does .link3LossTimer s (sendMsg (s.linkTo 0) .relinquish [] u)) ∧
       (s.isMaster = true → s.role = 2 → Does .link3LossTimer s (promote u)) ∧
       (s.isMaster = true → s.role = 1 → Does .link3LossTimer s (setRole 4 u)))) ∧
    (∀ p, s.qlk.promoAt = some p → s.qlk.held = none → ∃ t, t.now = max s.now p ∧ t.qlk.promoAt = none ∧
      t.qlk.liftAt = some (p + 100 * Config.us) ∧ t.qlk.mirrors = [] ∧ Does .promotionBeat s (setRole 3 t)) ∧
    (∀ p e, s.qlk.promoAt = some p → s.qlk.held = some e → ∃ t, t.now = max s.now p ∧ t.qlk.promoAt = none ∧
      t.qlk.liftAt = some (p + 100 * Config.us) ∧ t.pst.epochSeeds = e.links.map (epochSeed e) ∧
      Does .promotionBeat s (setRole 3 (takeHistories e t))) ∧
    (∀ t, s.qlk.liftAt = some t → ∃ u, Does .promotionCapLift s (kickRadio u) ∧ u.now = max s.now t ∧
      u.radio.promoteCap = false ∧ u.qlk.liftAt = none) ∧
    (∀ d, s.isMaster = true → s.qlk.swap = some d → ∃ u, Does .swapRequest s u ∧ u.qlk.swap = none) ∧
    (s.isMaster = true → s.qlk.swap = none → s.role = 1 → Does .swapRequest s (setRole 4 (sendMsg 3 .relinquish [] (takeEpoch s)))) ∧
    (∀ (seq : Word) (regs : List (Word × Word)), s.role = 2 → ∃ u, Does (.resyncApply seq regs) s u ∧
      u.get QLK_MIRRORSEQ_SEQ = seq.toNat ∧ u.get QLK_PAIRSTAT_MIRROR_SYNC = 1)

/-- R280-R303: conversions, reference checks, channels and comparators of the measurement chain. R292-R298: a comparator that
changes state stores it with its stamp, counts the change and answers its routes. -/
def Obligations.MeasurementEvents : Prop :=
  (∀ s : State, s.awake →
     (∀ (u : Fin 2) (raw : BitVec 16) (dither : Fin 4), s.unitOk u = true → s.mea.corrected = true →
       s.flag MEA_STAT_TAKEOVER = false → s.flag MEA_UCFG_EN u = true → (s.hk u).n < 65536 →
       (let t := (s.moveTo (s.hk u).due).modHk u (fun h =>
          { h with due := max s.now (s.hk u).due + 500 * Config.ticksPerNs, n := h.n + 1 })
        let i := (s.hk u).idx % s.tableLen u
        DoesP (.hkConversion u raw dither) s (rackChannel (feed (s.get MEA_SEQ_CH u i)
          (min 65535 (raw.toNat - dither)) raw.toNat (t.modHk u (fun h => { h with idx := (i + 1) % s.tableLen u })))))) ∧
     (∀ (u : Fin 2) (r : RefReadings), s.unitOk u = true → s.mea.corrected = true → 65536 ≤ (s.hk u).n → 32702 ≤ r.ref.toNat →
       r.ref.toNat ≤ 32834 → r.ground.toNat ≤ 64 → ∃ t, DoesP (.hkRefCheck u r) s t ∧ (t.hk u).bad = 0 ∧ (t.hk u).n = 0 ∧
       (t.hk u).due = (s.hk u).due + 1000 * Config.ticksPerNs) ∧
     (∀ (u : Fin 2) (r : RefReadings), s.unitOk u = true → s.mea.corrected = true → 65536 ≤ (s.hk u).n → (s.hk u).bad = 1 →
       s.covered (320 + u.val) = false → r.ref.toNat < 32702 ∨ 32834 < r.ref.toNat ∨ 64 < r.ground.toNat →
       ∃ t, (t.hk u).bad = 2 ∧ DoesP (.hkRefCheck u r) s (unitFail u t)) ∧
     (s.mea.corrected = false → ∃ t, t.mea.corrected = true ∧ t.get MEA_STAT_UNIT_OK = 3 ∧
       t.now = max s.now (s.mea.onAt + 2 * Config.ms) ∧ DoesP (.hkCorrectionDone 3) s (nextCheck t)) ∧
     (∀ ch : Fin 32, s.flag MEA_CHCFG_EN ch = true → s.chFir ch = false → s.flag MEA_CHFIR_FIR_OK ch = true →
       DoesP (.chFallback ch) s (emit ev_CH_FALLBACK (322 + ch / 4) (missSample ch (s.put MEA_CHSTAT_FALLBACK 1 ch)) .none 0 ch)) ∧
     (∀ ch : Fin 32, s.flag MEA_CHCFG_EN ch = true → s.chFir ch = false → s.flag MEA_CHFIR_FIR_OK ch = false →
       s.covered (322 + ch / 4) = false → DoesP (.chFallback ch) s
         (missSample ch ((emit ev_CH_STOPPED (322 + ch / 4) s .none 0 ch).put MEA_CHCFG_EN 0 ch))) ∧
     (∀ ch : Fin 32, s.linked → ∃ t, Does (.choutRead ch) s t ∧ t.get MEA_CHTS_V ch 0 = (s.chan ch).stamp % 2 ^ 32 ∧
       t.get MEA_CHTS_V ch 1 = (s.chan ch).stamp / 2 ^ 32 % 2 ^ 32) ∧
     (∀ (c : Fin 64) (st : Fin 4) (age : Nat), s.flag MEA_CMPSTAT_CHECKING c = false → s.cmpOut c = false → s.cmpMode c ≠ 0 →
       tabGet s.mea.hold c ≤ s.now → st ≠ 3 → s.get MEA_CMPSTAT_STATE c ≠ st → DoesP (.cmpStateChange c st age) s (rackSag c (cmpChange c st age s))) ∧
     (∀ (k : Check) (l : CheckReadings), s.mea.check = some k → s.tieOk k.cmp l = true → swapOk l = true → s.readOk k.cmp l = true → ∃ t,
       t.now = max s.now k.endAt ∧ t.mea.check = none ∧ t.get MEA_CMPSTAT_CHECKING k.cmp = 0 ∧
       t.get MEA_CHKSTAT_RESULT = (if k.tie || k.swap || k.read then 1 else 5) ∧
       DoesP (.cmpCheckDone l) s (nextCheck t)) ∧
     (s.get MEA_CHKCTL_AUTO_S ≠ 0 → s.mea.check = none → s.rstate 16 ≠ 0 → (∀ c < 64, s.cmpModeCfg c = 0) → ∃ t,
       DoesP .cmpAutoCheck s t ∧ t.now = max s.now (s.mea.autoAt + s.get MEA_CHKCTL_AUTO_S * Config.sec) ∧
       t.mea.autoAt = t.now) ∧
     (∀ c, s.get MEA_CHKCTL_AUTO_S ≠ 0 → s.mea.check = none → s.rstate 16 ≠ 0 →
       ((List.range 64).map (fun i => (s.mea.autoNext + i) % 64)).find? (fun c => s.cmpModeCfg c ≠ 0) = some c → ∃ t,
       t.now = max s.now (s.mea.autoAt + s.get MEA_CHKCTL_AUTO_S * Config.sec) ∧ t.mea.autoAt = t.now ∧
       t.mea.autoNext = (c + 1) % 64 ∧ DoesP .cmpAutoCheck s (startCheck c 3 false t))) ∧
  (∀ (s : State) (c : Fin 64) (st : Fin 4) (age : Nat), s.flag MEA_CMPSTAT_CHECKING c = false → s.cmpOut c = false →
     s.cmpMode c ≠ 0 → tabGet s.mea.hold c ≤ s.now → st ≠ 3 → s.get MEA_CMPSTAT_STATE c ≠ st →
     s.flag MEA_CMPROUTE_EV_EN c = false →
     (let back := age + cmpResponse (s.cmpMode c)
      ∃ t, t.get MEA_CMPSTAT_STATE c = st.val ∧ t.get MEA_CMPSTAT_RAW c = st.val ∧
        t.get MEA_CMPSTAT_CHANGES c = (s.get MEA_CMPSTAT_CHANGES c + 1) % 65536 ∧
        t.get MEA_CMPTS_V c 0 = (s.devTime - back * 2 ^ 32 / Config.sec) % 2 ^ 32 ∧
        ((cmpTrigger c (s.now - back) t).flag RPS_CFG_EN = false → (cmpTrigger c (s.now - back) t).rstate 16 ≠ 0 →
          cmpChange c st age s = cmpTrigger c (s.now - back) t)))

/-- R306-R322: the loop slots of the control engine, their losses, errors and tests. R320, R321: what a write of CTE_SLOTCFG
that is let through does to ENABLE and to RUN. -/
def Obligations.ControlEngineEvents : Prop :=
  (∀ s : State, s.awake →
     (∀ n : Fin 512, s.slotMayRun n = true → DoesP (.slotExecute n) s (rackAfterSlot n (slotExecute n s))) ∧
     (∀ n : Fin 512, s.slotMayRun n = false → DoesP (.slotExecute n) s (rackAfterSlot n (slotStop n s))) ∧
     (∀ n : Fin 512, s.runOf n ≠ 0 → s.runOf n ≠ 3 → s.kindOf n ≠ 1 → (s.cslot n).lost = false → (s.cslot n).safe = false →
       s.fbSame n < 64 → ∃ u, DoesP (.feedbackLost n) s u ∧ u.runOf n = 3 ∧ (u.cslot n).lost = true ∧
         (u.cslot n).before = s.runOf n ∧ u.flag CTE_SLOTSTAT_FB_LOST n = true) ∧
     (∀ n : Fin 512, s.kindOf n = 1 → s.runOf n ≠ 0 → (s.cslot n).lost = false →
       (s.cslot n).safe = false → 64 ≤ s.fbSame n → DoesP (.feedbackLost n) s
         (railSafe n ((s.put CTE_SLOTSTAT_FROZEN 1 n).put CTE_SLOTSTAT_FB_LOST 1 n))) ∧
     (∀ (r : Fin 5) (n e : Nat),
       (List.range 64).find? (fun n => s.kindOf n = 1 && s.destOf n = r.val && (s.cslot n).shedAt.isSome) = some n →
       (s.cslot n).shedAt = some e → s.covered (336 + r) = false → ∃ u, DoesP (.railFbLost r) s u ∧
       u.now = max s.now e ∧ u.get CTE_RAILCFG_PH_ON r = s.get CTE_RAILCFG_PH_MIN r ∧ u.get CTE_RAILSTAT_FB_LOST r = 1) ∧
     (∀ n : Fin 512, s.runOf n = 0 → DoesP (.cteEcc n) s (emit ev_CTE_ECC 346 s)) ∧
     (∀ n : Fin 512, s.runOf n ≠ 0 → DoesP (.cteEcc n) s (let t := emit ev_CTE_ECC 346 s
       slotMissed n (t.modCslot n (fun c => { c with due := c.due + t.slotPeriod n })))) ∧
     (∀ n : Fin 512, s.runOf n = 0 → s.kindOf n ≠ 1 → s.covered 346 = false → ∃ u, DoesP (.cteEccFatal n) s u ∧
       u.get CTE_SLOTCFG_MODE n = 0 ∧ u.runOf n = 0) ∧
     (s.get CTE_TESTSTAT_STATE = 1 → s.get CTE_TESTSTAT_POINTS = 4096 → ∃ u, DoesP .testDone s u ∧
       u.get CTE_TESTSTAT_STATE = 2 ∧ u.get CTE_TESTCFG_GO = 0) ∧
     (∀ (raw : BitVec 16) (d : Fin 4), ∃ u, DoesP (.ishareSample raw d) s u ∧ u.get CTE_ISHARE_CODE = raw.toNat - d ∧
       u.get CTE_ISHARE_TAG = (s.get CTE_ISHARE_TAG + 1) % 256 ∧ u.cte.ishAt = u.now ∧
       u.now = max s.now (s.cte.ishAt + 2 * Config.us))) ∧
  (∀ (s : State) (n v : Nat), n < 512 →
     (s.slotCfgBad n v = true → slotCfgWrite n v s = discard (regOff CTE_SLOTCFG n 0) false s) ∧
     (s.slotCfgBad n v = false → (s.cslot n).safe = false →
       (v % 2 = 1 → s.flag CTE_SLOTCFG_ENABLE n = true →
         slotCfgWrite n v s = s.putWord CTE_SLOTCFG (BitVec.ofNat 32 (v % 2 ^ 26)) n) ∧
       (v % 2 = 1 → s.flag CTE_SLOTCFG_ENABLE n = false →
         (slotCfgWrite n v s).flag CTE_SLOTCFG_ENABLE n = true ∧ ((slotCfgWrite n v s).cslot n).tagAt = s.now)))

/-- R323-R333: the PWM channels, blanking windows, and the pulse and clock of PSYNC_IN. -/
def Obligations.PwmEvents : Prop :=
  ∀ s : State, s.awake →
    (∀ ch : Fin 48, 40 ≤ ch.val → ch.val % 2 = 1 → DoesP (.pwmPeriodStart ch) s s) ∧
    (∀ ch : Fin 48, 40 ≤ ch.val → ch.val % 2 = 0 → ∃ u, DoesP (.pwmPeriodStart ch) s u ∧
      u.now = max s.now (s.pwmCh ch).due ∧ (u.pwmCh ch).start = u.now ∧ (u.pwmCh ch).per = s.chPeriod ch ∧
      (u.pwmCh ch).due = u.now + s.chPeriod ch * Config.pwmStep) ∧
    (∀ ch : Fin 48, ch.val < 40 → DoesP (.pwmPeriodStart ch) s (periodStart ch s)) ∧
    (∀ (k : Fin 8) (e : Nat), s.blankEnd k = some e → DoesP (.blankWindowEnd k) s (forAll (List.range 48) (fun ch t =>
      if t.flag PWM_CHCFG_BLK_EN ch && t.get PWM_CHCFG_BLK ch = k then tripNow ch t else t) (s.moveTo e))) ∧
    (∀ gap duty, s.ioOk 3 = true → s.pwm.edge = none → ∃ u, DoesP (.psyncEdge gap duty) s u ∧ u.pwm.edge = some s.now) ∧
    (∀ gap duty e, s.ioOk 3 = true → s.pwm.edge = some e → s.get PWM_GCFG_SYNC_SEL = 0 → ∃ u, DoesP (.psyncEdge gap duty) s u ∧
      u.now = max s.now (e + gap) ∧ u.pwm.edge = some u.now ∧
      u.get PWM_PSYNC_PER = min (2 ^ 20 - 1) ((u.now - e) / Config.pwmStep) ∧ u.get PWM_PSYNC_DUTY = min 4095 duty) ∧
    (∀ e, s.pwm.edge = some e → s.get PWM_GCFG_SYNC_SEL = 1 → s.pwm.pers ≠ [] →
      DoesP .syncLost s (syncLost (s.moveTo (e + 2 * s.get PWM_PSYNC_PER * Config.pwmStep)))) ∧
    (s.pwm.freq ≠ s.pwm.goal → ∃ u, DoesP .railFreqStep s u ∧ u.now = max s.now (s.pwm.stepAt + 50 * Config.us) ∧
      u.pwm.stepAt = u.now ∧ u.pwm.freq = (if s.pwm.freq < s.pwm.goal then min s.pwm.goal (s.pwm.freq + 800 * 2 ^ 20)
        else max s.pwm.goal (s.pwm.freq - 800 * 2 ^ 20)) ∧ u.get PWM_GSTAT_SLEWING = bit (u.pwm.freq ≠ s.pwm.goal)) ∧
    (∀ e, s.pwm.edge = some e → s.get PWM_GCFG_SYNC_SEL = 2 → s.flag PWM_GSTAT_PULSE_OK = true →
      DoesP .slotSpLost s (forAll (List.range 512) (fun n t =>
        if t.get CTE_SLOTCFG_SP_SRC n = 2 && t.runOf n ≠ 0 then
          emit ev_SLOT_SP_LOST (341 + n / 128) (t.put CTE_SLOTSTAT_SP_LOST 1 n)
        else t) ((s.moveTo (e + 2 * Config.ms)).put PWM_GSTAT_PULSE_OK 0)))

/-- R334-R350: the PMBus segments, hold-up, return to AC, strings and the shed ladder. -/
def Obligations.RackPowerEvents : Prop :=
  ∀ s : State, s.awake →
    (∀ l : List PmAnswer, s.ioOk 1 = true → (let t := s.moveTo (s.rps.pollAt + s.get RPS_CFG_POLL * Config.ms)
      let w := segOk { t with rps := { t.rps with pollAt := t.now } }
      let all := (List.range 28).filter (fun i => w.pmKind i 1 || w.pmKind i 2)
      let order := all.filter (fun i => (w.pm i).first) ++ all.filter (fun i => !(w.pm i).first)
      let u := imbalance (forAll order (fun i x => match l.find? (fun a => a.device.val = i && a.ok) with
        | some a => if x.segOn (x.get RPS_DEVCFG_SEG i) then pmAnswer i a.status.toNat a.words x else pmMiss i x
        | none => pmMiss i x) w)
      (u.rps.enabling = false → DoesP (.pmbusPoll l) s u) ∧
      (u.rps.enabling = true → u.get GLB_BOOTSTAT_STAGE = 3 → DoesP (.pmbusPoll l) s (rackStart u)))) ∧
    (∀ (g : Fin 4) (a : BitVec 7), s.ioOk 1 = true → s.flag RPS_SEGCTL_ALERT_STUCK g = false → s.segOn g = true → ∃ u,
      DoesP (.pmbAlert g (some a)) s u ∧ ∀ i < 28, (s.pmKind i 1 || s.pmKind i 2) = true → s.get RPS_DEVCFG_SEG i = g →
        s.get RPS_DEVCFG_ADDR i = a.toNat → (u.pm i).first = true) ∧
    (∀ g : Fin 4, s.ioOk 1 = false ∨ (s.flag RPS_SEGCTL_ALERT_STUCK g = false ∧ s.segOn g = true) → DoesP (.pmbAlert g none) s s) ∧
    (∀ g : Fin 4, s.ioOk 1 = true → s.segOn g = true → DoesP (.pmbSegStuck g true) s (emit ev_PMB_SEG_RECOVERED (360 + g.val) s)) ∧
    (∀ g : Fin 4, s.ioOk 1 = true → s.segOn g = true → DoesP (.pmbSegStuck g false) s (segIsolate g s)) ∧
    (∀ g : Fin 4, s.ioOk 1 = true → s.flag RPS_SEGCTL_ALERT_STUCK g = false → ∃ u, DoesP (.pmbAlertStuck g) s u ∧
      u.flag RPS_SEGCTL_ALERT_STUCK g = true) ∧
    (∀ t, s.rps.slowAt = some t → ∃ u, u.now = max s.now t ∧ u.rps.slowAt = none ∧
      (u.sagBelow = true → DoesP .holdupSlow s (emit ev_HOLDUP_SLOW 364 u)) ∧
      (u.sagBelow = false → DoesP .holdupSlow s u)) ∧
    (∀ t, s.rps.retSince = some t → s.get RPS_STAT_STATE = 2 ∨ s.get RPS_STAT_STATE = 3 →
      DoesP .rackReturnAc s (rackAc (s.moveTo (t + s.get RPS_CFG_RETURN_S * Config.sec)))) ∧
    (∀ (k : Fin 4) (t : Nat), tabGet s.rps.eodSince k = some t → s.get RPS_STRSTAT_STATE k = 1 → s.covered (367 + k) = false →
      ∃ u, DoesP (.stringEod k) s u ∧ u.now = max s.now (t + Config.sec) ∧ u.get RPS_STRSTAT_STATE k = 2 ∧
        tabGet u.rps.eodSince k = none) ∧
    (∃ t, t.now = max s.now (s.rps.shedAt + 10 * Config.ms) ∧ t.rps.shedAt = t.now ∧ DoesP .shedEvaluate s (showCap
      (if t.get RPS_STAT_STATE ≠ 0 || t.thermCap.isSome || t.get RPS_STAT_RUNG ≠ 0 then shedLadder t else t)))

/-- R351-R360: the scan of the sensors, throttling, and the ramp down of the rails in a thermal shutdown. R361-R363: a power
domain comes on at the end of its ramp, opens its switch, or fails. -/
def Obligations.ThermalAndDomainEvents : Prop :=
  (∀ s : State, s.awake →
     (∀ codes, s.mea.corrected = true → s.get MEA_STAT_UNIT_OK ≠ 0 → DoesP (.thermalScan codes) s (thermalScan codes s)) ∧
     (∀ codes, s.mea.corrected = false → DoesP (.thermalScan codes) s s) ∧
     (s.get PWR_THSTAT_N = 0 → DoesP .throttle s s) ∧
     (∀ n, s.get PWR_THSTAT_N = n → n ≠ 0 → n ≠ 15 → s.hotNow = true → ∃ t,
       t.now = max s.now (s.therm.stepAt.getD s.now + 10 * Config.ms) ∧ t.therm.stepAt = some t.now ∧
       DoesP .throttle s (setThrottle (n + 1) t)) ∧
     (∀ n r, s.get PWR_THSTAT_N = n → n ≠ 0 → s.hotNow = false → s.therm.relAt = some r → ∃ t,
       t.now = max s.now (r + 100 * Config.ms) ∧ t.therm.relAt = some t.now ∧ DoesP .throttle s (setThrottle (n - 1) t)) ∧
     (∀ k, s.latch = true → s.therm.down = some k → 1 ≤ k → k < 4 → ∃ t, t.now = max s.now (s.therm.downAt + Config.ms) ∧
       t.therm.down = some (k + 1) ∧ t.therm.downAt = t.now ∧ railOrder.reverse.getD k 0 ∉ t.boot.good ∧
       DoesP .railRampDownDone s (railStop (railOrder.reverse.getD k 0) t)) ∧
     (∀ e r r' l, s.latch = false → s.boot.downAt = some e → s.boot.good = l ++ [r', r] → ∃ t, t.now = max s.now e ∧
       t.boot.good = l ++ [r'] ∧ t.boot.downAt = some (t.now + Config.ms) ∧ DoesP .railRampDownDone s (railStop r t))) ∧
  (∀ (s : State) (d : Fin 80), s.awake →
     (∀ e, (s.dom d).ramp = some e → ∃ t, t.now = max s.now e ∧ (t.dom d).ramp = none ∧ t.domainOn d = true ∧
       DoesP (.domainRampDone d) s (domEffectOn d t)) ∧
     (∀ e, (s.dom d).off = some e → DoesP (.domainSwitchOff d) s
       (domEffectOff d ((s.moveTo e).modDom d (fun x => { x with off := none })))) ∧
     (s.domainOn d = true → (s.dom d).ramp = none → ∃ t, t.domainOn d = false ∧ t.bitAt PWR_DOMFAIL_FAIL d = true ∧
       (t.dom d).off = none ∧ t.now = s.now ∧ DoesP (.domainFail d) s (domReport d (domEffectOff d t))) ∧
     (∀ e, s.domainOn d = false → (s.dom d).ramp = some e → ∃ t, t.domainOn d = false ∧ t.bitAt PWR_DOMFAIL_FAIL d = true ∧
       t.now = max s.now (e + 80 * Config.us) ∧ DoesP (.domainFail d) s (domReport d t)))

/-- R367-R376, R379: a message to the collector is counted for gaps, accepted, and enters Dugout when it is FATAL. R375, R376,
R427: a shadow closes at its end, and what it covered is looked at again. -/
def Obligations.MessagesAndShadows : Prop :=
  (∀ (s : State) (m : FaultMsg), s.awake →
     (tabGet s.flt.seqs m.block = none ∨ ∃ q, tabGet s.flt.seqs m.block = some q ∧ m.seq.val = (q + 1) % 1024) →
     (let t := { s with flt := { s.flt with seqs := tabSet s.flt.seqs m.block (some m.seq.val) } }
      let r := reportOf m
      (m.cls ≠ 3 → Does (.faultReport m) s (accept (areaOf r.src r.p0) r t)) ∧
      (m.cls = 3 → s.covered m.source = true → Does (.faultReport m) s (accept (areaOf r.src r.p0) r t)) ∧
      (m.cls = 3 → s.covered m.source = false → Does (.faultReport m) s
        (enterDugout r.src r.code (accept (areaOf r.src r.p0) r t))))) ∧
  (∀ (s : State) (w : Shadow) (l : List Shadow), s.awake → s.flt.shadows = w :: l →
     ∃ t, (∀ x ∈ s.flt.shadows, x ∈ t.flt.shadows ↔ t.now < x.till) ∧ s.now ≤ t.now ∧
       (∃ x ∈ s.flt.shadows, t.now = max s.now x.till) ∧
       DoesP .shadowClose s (standingReports (standingDomains (standingSynths (standingPorts t)))))

/-- R378, R382-R390, R423: cascade inputs, reconciliation, the flush and the clear of the Scorebook, power failure. -/
def Obligations.ScorebookAndPowerFailEvents : Prop :=
  ∀ s : State, s.awake →
    (∀ (i : Fin 8), s.ioOk 0 = true → s.ownSid = 0 → bitOf (s.get FLT_CASCADE_MASK) i = true →
      (let t := s.put FLT_CASCADE_LEVEL (s.get FLT_CASCADE_LEVEL ||| 2 ^ i.val)
       Does (.cascadeFault i true) s (emit ev_CASCADE_FAULT 381 (t.put FLT_CASCADE_LATCH (t.get FLT_CASCADE_LATCH ||| 2 ^ i.val))
         .none i))) ∧
    (∀ (i : Fin 8), s.ioOk 0 = true → s.ownSid = 0 → bitOf (s.get FLT_CASCADE_MASK) i = false → Does (.cascadeFault i true) s
      (s.put FLT_CASCADE_LEVEL (s.get FLT_CASCADE_LEVEL ||| 2 ^ i.val))) ∧
    (∀ (i : Fin 8), s.ioOk 0 = true → s.ownSid = 0 → Does (.cascadeFault i false) s
      (s.put FLT_CASCADE_LEVEL (s.get FLT_CASCADE_LEVEL &&& (255 - 2 ^ i.val)))) ∧
    (∀ (k : Fin 8) (i st : Nat), i < reconUnits k → s.recorded k i ≠ st → (k.val = 4 → hostDomain i = true) →
      (let t := (s.moveTo (s.reconAt k)).count FLT_RECON_COUNT
       t.covered 382 = false → DoesP (.reconcile k i st) s
         (saferState k i st (emit ev_RECONCILE 382 t .none (pack2 k i) (s.recorded k i) st)))) ∧
    (∀ t, s.flt.flushAt = some t → Does .sbFlushTimer s
      (startFlush { s.moveTo (s.opTick t) with flt := { s.flt with flushAt := none } })) ∧
    (∀ failed, s.flt.flushN ≠ 0 → Does (.sbFlushDone failed) s (finishFlushCmds
      (let t := forAll (s.flt.buffer.take s.flt.flushN) (writeRecord failed)
         { s with flt := { s.flt with buffer := s.flt.buffer.drop s.flt.flushN, flushN := 0, flushAgain := false
                                      flushAt := flushTime (s.flt.buffer.drop s.flt.flushN) } }
       if s.flt.flushAgain then startFlush t else t))) ∧
    (s.flt.clearing = true → s.boot.powerUp = false → s.flt.clears < 100001 → s.flt.buffer = [] → s.flt.flushCmds = [] →
      ∃ u, Does .sbCleared s u ∧ u.flt.clearing = false ∧ (u.sbCell 0).sealByte = 0x5C ∧ u.get FLT_SBSTAT_FULL = 0 ∧
        u.get FLT_SBSTAT_NEAR = 0) ∧
    (s.linked → s.flag FLT_SBCUR_AUTOINC = true → ∃ u, Does .sbwinAutoincRead s u ∧
      u.get FLT_SBCUR_INDEX = (s.get FLT_SBCUR_INDEX + 1) % 16384) ∧
    (s.ioOk 0 = true → Does .powerFail s (startFlush (powerEvent ev_POWER_FAIL 0
      { s with pst := { s.pst with lowPf := true, queue := s.pst.queue.map (fun c => { c with kept := true }) }, flt := { s.flt with pfWindow := some (s.now + 2 * Config.ms) } }))) ∧
    (s.ioOk 0 = false → ∀ i low, Does .powerFail s s ∧ Does .pwrfailNRise s s ∧ Does (.cascadeFault i low) s s) ∧
    (s.ioOk 0 = true → ∃ t, t.pst.lowPf = false ∧ t.flt.pfWindow = none ∧ t.flt.pfClosed = false ∧ t.flt.buffer = s.flt.buffer ∧
      Does .pwrfailNRise s (startFlush t)) ∧
    (∀ t, s.flt.pfWindow = some t → ∃ u, Does .powerFailWindowEnd s u ∧ u.now = max s.now t ∧ u.flt.pfWindow = none ∧
      u.flt.pfClosed = s.pst.lowPf ∧ u.flt.flushN = 0)

/-- R392, R397, R408: the return of VAUX, and what of the machine its loss leaves. -/
def Obligations.VauxLossAndReturn : Prop :=
  ∀ s : State,
    (s.awake → ∃ u, exec .vauxLoss s = .next (framed { locks := true, dugout := true, latch := true } s (powered u)) ∧
      u.boot.dark = true ∧ u.latch = false ∧ u.flt.dugout = false ∧ u.regs = {} ∧ u.pst.banks = (dropSave s).pst.banks ∧
      u.flt.cells = (dropSave s).flt.cells ∧
      u.pst.cells = (forAll ((dropSave s).pst.queue.filter (fun c => c.kept)) writeCommit (dropSave s)).pst.cells) ∧
    (s.boot.dark = true → ∀ (sid : Fin 4) (side : Bool) (f : PowerFound), ∃ u,
      exec (.powerOn sid side f) s = .next (framed { power := true } s (powered u)) ∧
      u.boot.dark = false ∧ u.now = s.now ∧ u.vauxAt = s.now ∧ (f.banks = [] → u.pst.banks = s.pst.banks) ∧
      u.flt.cells = s.flt.cells ∧ u.boot.io = f.volts.map ioLevel ∧ u.pst.opBase = opResume u.pst.opCells ∧
      (u.ioOk 0 = true → u.get QLK_STACKSTAT_STACK_ID = sid ∧ u.get PST_STAT_PROV_N = bit f.provN) ∧
      (u.ioOk 0 = false → u.get QLK_STACKSTAT_STACK_ID = 0 ∧ u.get PST_STAT_PROV_N = 1) ∧ u.get GLB_INNINGS_COUNT = s.pst.innings % 2 ^ 32) ∧
    (s.awake → ∀ (sid : Fin 4) (side : Bool) (f : PowerFound), exec (.powerOn sid side f) s = .next (framed { power := true } s (powered s)))

/-- R205, R385, R393-R395: the island becomes ready, the rails ramp in steps, come good or time out. -/
def Obligations.IslandAndRailsStart : Prop :=
  ∀ s : State, s.awake →
    (s.boot.island = false → ∀ found : List (Fin 256 × List Byte × Word), ∃ u,
      exec (.islandReady found) s = .next (framed { locks := true } s (powered (startRails (writeProfile u)))) ∧
      u.boot.island = true ∧ u.boot.loading = true ∧ u.flt.pageCheck = false ∧ u.get GLB_BOOTSTAT_STAGE = 1) ∧
    (∀ k, s.boot.rail = some k → s.boot.step < 40 → s.latch = false → ∃ u, DoesP .railRampStep s u ∧
      u.now = max s.now (s.boot.rampAt + 25 * Config.us) ∧ u.boot.step = s.boot.step + 1 ∧ u.boot.rampAt = u.now ∧
      u.get CTE_SLOTSP_SP (railSlot (railAtPos k)) = railFull (railAtPos k) / 40 * (s.boot.step + 1) % 2 ^ 32) ∧
    (∀ k, s.boot.rail = some k → 40 ≤ s.boot.step → s.latch = false → k < 4 → railAtPos k ≠ 2 → ∃ t,
      t.now = max s.now (s.boot.rampAt + 50 * Config.us) ∧ t.boot.good = s.boot.good ++ [railAtPos k] ∧
      DoesP .railGood s (railBegin (k + 1) t)) ∧
    (∀ k, s.boot.rail = some k → 40 ≤ s.boot.step → s.latch = false → k < 4 → railAtPos k = 2 → ∃ t,
      t.now = max s.now (s.boot.rampAt + 50 * Config.us) ∧ t.boot.good = s.boot.good ++ [2] ∧
      DoesP .railGood s (railBegin (k + 1) (loadCalfac t))) ∧
    (s.boot.rail = some 4 → 40 ≤ s.boot.step → s.latch = false → ∃ t,
      t.now = max s.now (s.boot.rampAt + 50 * Config.us) ∧ t.boot.good = s.boot.good ++ [railAtPos 4] ∧
      DoesP .railGood s (standby t)) ∧
    (∀ k, s.boot.rail = some k → 40 ≤ s.boot.step → s.latch = false → s.boot.good ≠ [] → ∃ u, DoesP .railTimeout s u ∧
      u.now = max s.now (s.boot.rampAt + 2 * Config.ms) ∧ u.boot.failed = true ∧ u.boot.rail = none ∧
      u.get GLB_BOOTSTAT_ERR = 4 ∧ u.get GLB_BOOTSTAT_RAIL = railAtPos k ∧ u.boot.downAt = some (u.now + Config.ms))

/-- R394, R400, R401: the firmware image is read, verified against the highest version accepted, and runs or is refused. R394,
R398, R399, R401: writes of GLB that load an image or reset the machine act before the firmware runs too. -/
def Obligations.FirmwareLoadsAndRuns : Prop :=
  (∀ s : State, s.awake →
     (∀ h : List Byte, s.boot.loading = true → DoesP (.fwImageRead false h) s (fwRefuse (if s.boot.fromHost then 5 else 1) s)) ∧
     (∀ (h : List Byte) (len sec : Nat), s.ioOk 0 = true → s.boot.loading = true → s.boot.fromHost = false → len % 4 = 0 → 112 ≤ len →
       len ≤ 4194304 → sec < 2 ^ 32 →
       h.map BitVec.toNat = [0x4D, 0x51, 0x46, 0x57, 0x01, 0, 0, 0] ++ leBytes 4 len ++ leBytes 4 sec →
       ∃ u, DoesP (.fwImageRead true h) s u ∧ u.boot.image = true ∧ u.boot.loading = false ∧ u.boot.sec = sec ∧
         u.now = max s.now (s.boot.loadAt + len * 20 * Config.ticksPerNs)) ∧
     (∀ h : List Byte, s.boot.loading = true → (h.map BitVec.toNat).take 4 ≠ [0x4D, 0x51, 0x46, 0x57] →
       DoesP (.fwImageRead true h) s (fwRefuse 1 s)) ∧
     (s.boot.image = true → DoesP (.fwVerifyDone false) s (fwRefuse 2 (s.moveTo (s.boot.loadAt + 3 * Config.ms)))) ∧
     (s.boot.image = true → s.boot.sec < s.boot.secMax →
       DoesP (.fwVerifyDone true) s (fwRefuse 3 (s.moveTo (s.boot.loadAt + 3 * Config.ms)))) ∧
     (s.boot.image = true → s.boot.secMax ≤ s.boot.sec → ∃ u, DoesP (.fwVerifyDone true) s u ∧ u.running = true ∧
       u.get GLB_BOOTSTAT_ERR = 0 ∧ u.get GLB_BOOTSTAT_SRC = bit s.boot.fromHost ∧ u.boot.secMax = s.boot.sec ∧
       u.boot.image = false ∧ u.now = max s.now (s.boot.loadAt + 3 * Config.ms)) ∧
     (∀ (err : Nat), err < 8 → (fwRefuse err s).get GLB_BOOTSTAT_STAGE = 4 ∧ (fwRefuse err s).get GLB_BOOTSTAT_ERR = err ∧
       (fwRefuse err s).boot.loading = false)) ∧
  (∀ (s : State) (v : Word), s.linked →
     (s.mapLocked 0 = false → getBits v 0 1 = 1 → getBits v 1 2 ≠ 3 → DoesP (.fwLoad v) s (fwLoad (persistWrite 0 v.toNat s))) ∧
     (s.get GLB_BOOTSTAT_STAGE = 4 → ∃ u, fwLoad s = u ∧ u.get GLB_BOOTSTAT_STAGE = 2 ∧ u.boot.loading = true ∧
       u.boot.fromHost = true ∧ u.boot.loadAt = s.now) ∧
     (v.toNat % 4 = 1 → v.toNat / 256 % 256 = 0x5A → DoesP (.deviceReset v) s (resetTrigger 2 s)) ∧
     (v.toNat % 4 = 2 → v.toNat / 256 % 256 = 0x5A → DoesP (.radioReset v) s (resetTrigger 3 s)) ∧
     (v.toNat / 256 % 256 ≠ 0x5A → DoesP (.deviceReset v) s (discard 0x24 false s) ∧
       DoesP (.radioReset v) s (discard 0x24 false s)))

/-- R398, R399, R130: the resets and what starts them, and the end of a seed write. -/
def Obligations.ResetsAndSeedWrites : Prop :=
  ∀ s : State, s.awake →
    (∀ (sid : Fin 4) (side : Bool), s.ioOk 0 = true → s.latch = false → DoesP (.pinReset sid side) s (resetTrigger 1 (sampleStraps sid side s))) ∧
    (∀ t, s.boot.resetAt = some t → s.latch = false → (let u := beforeReset (s.moveTo t)
      let v := { u with boot := { u.boot with resetAt := none, resetKind := 0 } }.put GLB_RSTCAUSE_LAST u.boot.resetKind
      exec .resetAction s = .next (framed { locks := true, dugout := true } s (powered (standingReset
        (if u.boot.resetKind = 3 then radioReset v else hardReset v)))))) ∧
    (∀ k, s.latch = false → s.boot.resetAt = none → ∃ u, resetTrigger k s = startFlush u ∧ u.boot.resetKind = k ∧
      u.boot.resetAt = some (s.now + 2 * Config.ms)) ∧
    (∀ hot : Bool, hot = true ∨ s.ioOk 0 = true → s.latch = false → ∃ t, t = ringsOff (pcieDown (if hot then s else { s with boot := { s.boot with perst := false } })) ∧
      ((∀ v < 4, (t.slot v).st ≠ .validating) → Does (.linkReset hot) s (t.count GLB_RSTCAUSE_LINK))) ∧
    (s.ioOk 0 = true → s.latch = false → DoesP .perstRise s (wake { s with boot := { s.boot with perst := true } })) ∧
    (∀ (k : Fin 4096) (x : Nat × SeedSlot) (ok : Bool), s.pst.seedBusy.find? (fun y => y.1 = k.val) = some x → ∃ u,
      Does (.seedWriteDone k ok) s u ∧ u.pst.seedBusy = s.pst.seedBusy.filter (fun y => y ≠ x) ∧
      (ok = true → u.pst.seeds = tabSet s.pst.seeds k x.2) ∧ (ok = false → u.pst.seeds = s.pst.seeds ∧
        u.flag ISO_SEEDSTAT_STORE_FAIL = true))

/-- R42, R131, R171, R180, R209, R232, R260: writes of single registers of ports, radio, store, host link and time that act.
-/
def Obligations.ActingWritesOfTheRadioSide : Prop :=
  ∀ s : State, s.linked → s.running = true →
    (∀ p : Fin 96, ∃ u, DoesP (.bubbleMuteRelease p) s u ∧ u.pget TILE_PORTSTAT_BUBBLE_MUTE p = 0) ∧
    (∀ (t : Fin 16) (v : Word), (getBits v 3 1 = 1 → DoesP (.forcedCapClear t v) s (kickRadio (s.put CLK_TSTAT_FORCED 0 t))) ∧
      (getBits v 3 1 = 0 → DoesP (.forcedCapClear t v) s s)) ∧
    (∀ (p : Fin 96) (v : Word), (getBits v 3 1 = 0 → DoesP (.paFltClear p v) s s) ∧
      (getBits v 3 1 = 1 → s.pflag TILE_PASTAT_FLT_PIN p = true → s.pflag TILE_PASTAT_FLT p = true →
        s.pflag TILE_PACFG_PA_PRESENT p = false → ∃ u, DoesP (.paFltClear p v) s u ∧ u.pget TILE_PASTAT_FLT p = 0 ∧
          (u.pa p).hard = false) ∧
      (getBits v 3 1 = 1 → s.pflag TILE_PASTAT_FLT_PIN p = false → DoesP (.paFltClear p v) s s)) ∧
    (∀ v : Word, ∃ u, DoesP (.isoLselSnapshot v) s u ∧ u.get ISO_LSEL_LINK = v.toNat % 16384 ∧
      u.get ISO_LSTAT_STATE = (s.link (v.toNat % 16384)).st % 8 ∧
      u.get ISO_LSTAT_REF_QUIET = bit (s.link (v.toNat % 16384)).quiet) ∧
    (∀ v : Word, ∃ u, DoesP (.pgselSnapshot v) s u ∧ u.get PST_PGSEL_SEL = v.toNat % 256 ∧
      ∀ i < 64, u.word PST_PGDATA i = BitVec.ofNat 32 (ofLe (((s.cellBytes (v.toNat % 256) ++
        leBytes 4 (s.cellCheck (v.toNat % 256))).drop (4 * i)).take 4))) ∧
    (∀ v : Word, (getBits v 1 1 = 1 → s.hif.lost = true → s.hif.beatSince = true → ∃ u, DoesP (.hostLostClear v) s u ∧
        u.hif.lost = false) ∧
      (getBits v 1 1 = 0 ∨ s.hif.beatSince = false → DoesP (.hostLostClear v) s s)) ∧
    (∀ v : Word, s.isMaster = true → s.tim.armed = none →
      (v.toNat / 2 ^ 31 % 2 = 1 → ∃ u, DoesP (.timeSetArm v) s u ∧ u.tim.armed =
        some (s.get TIM_SET0_FRAC + s.get TIM_SET1_SEC * 2 ^ 32 + v.toNat % 65536 * 2 ^ 64) ∧
        u.tim.setNow = bitOf v.toNat 30 ∧ u.tim.armAt = s.now) ∧
      (v.toNat / 2 ^ 31 % 2 = 0 → ∃ u, DoesP (.timeSetArm v) s u ∧ u.tim = s.tim)) ∧
    (∀ v : Word, s.isMaster = false → DoesP (.timeSetArm v) s (discard (regOff TIM_SET2 0 0) false s))

/-- R287, R299, R320, R321, R326, R337, R349, R362, R372: writes of single registers of measurement, control, power and faults
that act. -/
def Obligations.ActingWritesOfThePowerSide : Prop :=
  ∀ s : State, s.linked → s.running = true →
    (∀ v : Word, (s.mea.check ≠ none → DoesP (.cmpCheck v) s s) ∧
      (s.mea.check = none → s.boot.asleep = false → v.toNat / 256 % 2 = 1 → ∃ t, t.get MEA_CHKCTL_CMP = v.toNat % 64 ∧
        t.get MEA_CHKCTL_KIND = v.toNat / 64 % 4 ∧
        DoesP (.cmpCheck v) s (startCheck (v.toNat % 64) (v.toNat / 64 % 4) true t))) ∧
    (∀ (n : Fin 512) (v : Word), (let w := mixBits (s.slotHeldBits n) (s.word CTE_SLOTCFG n) v
      let t := slotCfgWrite n w.toNat (if w = v then s else discard (regOff CTE_SLOTCFG n 0) false s)
      DoesP (.coefLoad n v) s t ∧ DoesP (.slotEnable n v) s t ∧ DoesP (.slotDisable n v) s t ∧ DoesP (.slotAuto n v) s t ∧
      DoesP (.slotManual n v) s t)) ∧
    (∀ v : Word, s.get CTE_TESTSTAT_STATE ≠ 1 → v.toNat / 1024 % 2 = 1 → s.runOf (v.toNat % 512) = 2 → ∃ u,
      DoesP (.testStart v) s u ∧ u.get CTE_TESTSTAT_STATE = 1 ∧ u.get CTE_TESTSTAT_POINTS = 0 ∧
      u.get CTE_TESTCFG_SLOT = v.toNat % 512 ∧ u.cte.phase = 0 ∧ u.cte.prbs = 1) ∧
    (∀ v : Word, s.get CTE_TESTSTAT_STATE = 1 → DoesP (.testStart v) s (discard (regOff CTE_TESTCFG 0 0) false s)) ∧
    (∀ (ch : Fin 48) (v : Word), bitOf v.toNat 1 = true → bitOf v.toNat 3 = false → bitOf v.toNat 4 = false →
      (s.chGroup ch = none → ∃ u, DoesP (.tripRelease ch v) s u ∧ u.get PWM_CHSTAT_TRIPPED ch = 0) ∧
      (s.chGroup ch ≠ none → DoesP (.tripRelease ch v) s s)) ∧
    (∀ (g : Fin 4) (v : Word), ∃ u, DoesP (.segReconnect g v) s u ∧ u.get RPS_SEGCTL_EN g = v.toNat % 2 ∧
      u.get RPS_SEGCTL_ALERT_STUCK g = 0 ∧ u.get RPS_SEGCTL_STATE g = (if v.toNat % 2 = 1 then 0 else 3)) ∧
    (∀ v : Word, s.mapLocked 67 = false → 10 ≤ v.toNat / 4 % 256 → v.toNat % 2 = 1 → s.flag RPS_CFG_EN = false →
      ∃ u, DoesP (.rackEnable v) s u ∧ u.flag RPS_CFG_EN = true ∧ u.rps.enabling = true) ∧
    (∀ v : Word, s.mapLocked 67 = false → 10 ≤ v.toNat / 4 % 256 → v.toNat % 2 = 0 → ∃ t, t.flag RPS_CFG_EN = false ∧
      t.rps.enabling = false ∧ t.rps.slowAt = none ∧ DoesP (.rackDisable v) s (setRack 0 t)) ∧
    (∀ v : Word, v.toNat / 4 % 256 < 10 → s.mapLocked 67 = false →
      DoesP (.rackEnable v) s (discard (regOff RPS_CFG 0 0) false s) ∧
      DoesP (.rackDisable v) s (discard (regOff RPS_CFG 0 0) false s)) ∧
    (∀ (i : Fin 3) (v : Word), ∃ u, DoesP (.domfailClear i v) s u ∧ u.get PWR_DOMFAIL_FAIL i =
      (s.get PWR_DOMFAIL_FAIL i &&& (2 ^ 32 - 1 - v.toNat))) ∧
    (∀ (i : Fin 12) (v : Word), DoesP (.fltPendClear i v) s
      (s.put FLT_PEND_PEND (s.get FLT_PEND_PEND i &&& (2 ^ 32 - 1 - v.toNat)) i))

/-- R216, R220: a command of a ring that is next to be served runs on the machine after its fetch; bytes that must be 0 and an
unknown opcode complete it with an error. -/
def Obligations.RingCommandsComplete : Prop :=
  ∀ (s : State) (d : Desc), s.served d.ring → d.lost = false →
    (let t := fetch d.ring s
     let finish := fun (status : Nat) (u : State) => completeCmd d.ring d.tag.toNat status u
     (descBad d = true → Does (.nop d) s (finish stINVALID_FIELD t)) ∧
     (∀ op : Byte, Does (.invalidOpcode d op) s (finish stINVALID_OPCODE t)) ∧
     (descBad d = false →
       Does (.nop d) s (finish stSUCCESS t) ∧
       (∀ (x : Byte) (idx : BitVec 64), x.toNat < 16 → t.snapState x.toNat = 1 →
         Does (.snapTrigger d x true idx) s (finish stSUCCESS (snapTrig x.toNat 1 idx.toNat t)) ∧
         Does (.snapTrigger d x false idx) s (finish stSUCCESS (snapTrig x.toNat 1
           ((t.beatNow + 1) * (if t.snapRaw x.toNat then 1048576 else 1024)) t))) ∧
       (∀ (x : Byte) (b : Bool) (idx : BitVec 64), 16 ≤ x.toNat →
         Does (.snapTrigger d x b idx) s (finish stINVALID_FIELD t) ∧ Does (.snapMove d x) s (finish stINVALID_FIELD t)) ∧
       (∀ x : Byte, x.toNat < 16 → t.snapState x.toNat = 3 → Does (.snapMove d x) s (finish stSUCCESS (startMove x.toNat t))) ∧
       (∀ x : Byte, x.toNat < 16 → t.snapState x.toNat ≠ 3 → Does (.snapMove d x) s (finish stWRONG_STATE t)) ∧
       (∀ mask : Byte, mask.toNat < 16 → Does (.linkRetrain d mask) s (finish stSUCCESS
         (forAll ((List.range 4).filter (fun l => bitOf mask.toNat l)) linkDown t))) ∧
       (∀ mask : Byte, 16 ≤ mask.toNat → Does (.linkRetrain d mask) s (finish stINVALID_FIELD t)) ∧
       Does (.dugoutEnter d) s (finish stSUCCESS (raise ev_HOST_DUGOUT 380 t)) ∧
       (t.flt.buffer = [] → Does (.sbFlush d) s (finish stSUCCESS t)) ∧
       (t.flt.buffer ≠ [] → Does (.sbFlush d) s
         (startFlush { t with flt := { t.flt with flushCmds := t.flt.flushCmds ++ [t.defer d.ring d.tag.toNat] } })) ∧
       (∀ (src : BitVec 16) (kind cls : Byte), src.toNat ≤ 383 → cls.toNat < 3 → Does (.fltInject d src kind cls) s
         (finish stSUCCESS (accept .none { src := src.toNat, code := groupOf src.toNat * 256 + kind.toNat % 256, cls := cls.toNat
                                           injected := true } t))) ∧
       (∀ (src : BitVec 16) (kind cls : Byte), 383 < src.toNat ∨ 3 ≤ cls.toNat →
         Does (.fltInject d src kind cls) s (finish stINVALID_FIELD t)) ∧
       (∀ (first count : BitVec 16) (ring : Byte), 0 < count.toNat → first.toNat + count.toNat ≤ 16384 → ring.toNat ≤ 63 →
         t.flag STR_CFG_EN ring.toNat = true →
         (let r := sendRecord { ring := true, dest := ring.toNat, kind := 4, bytes := t.sbCopyBytes first.toNat count.toNat
                                cmd := some (t.defer d.ring d.tag.toNat) } t
          (r.1 = true → Does (.sbCopy d first count ring 0) s r.2) ∧
          (r.1 = false → Does (.sbCopy d first count ring 0) s (openStatus (t.defer d.ring d.tag.toNat) r.2)))) ∧
       (∀ (first count : BitVec 16) (ring : Byte), 16384 < first.toNat + count.toNat →
         Does (.sbCopy d first count ring 0) s (finish stINVALID_FIELD t))))

/-- R49, R174, R196: the ring commands that calibrate or fetch a nonce. R257, R270-R275: the ring commands of stacks and
pairs, which only a master takes. -/
def Obligations.CalibrationStackAndPairCommands : Prop :=
  (∀ (s : State) (d : Desc), s.served d.ring → d.lost = false → descBad d = false →
     (let t := fetch d.ring s
      (∀ (mask : BitVec 16) (save : Bool), (∃ i < 16, bitOf mask.toNat i = true ∧ (t.rstate i ≤ 1 ∨ t.rstate i = 4)) →
        Does (.convCal d mask save) s (completeCmd d.ring d.tag.toNat stWRONG_STATE t)) ∧
      (∀ (mask : BitVec 16) (save : Bool), (∀ i < 16, bitOf mask.toNat i = true → 2 ≤ t.rstate i ∧ t.rstate i ≠ 4) →
        ((t.cal.running || t.cal.saving) = true → Does (.convCal d mask save) s (completeCmd d.ring d.tag.toNat stBUSY t)) ∧
        ((t.cal.running || t.cal.saving) = false → mask ≠ 0 → ∃ u, Does (.convCal d mask save) s u ∧ u.cal.running = true ∧
          u.cal.cmd = some (t.defer d.ring d.tag.toNat) ∧ u.cal.save = save ∧ u.cal.endAt = t.now + 450 * Config.ms ∧
          (∀ i, i ∈ u.cal.group ++ u.cal.rest ↔ i < 16 ∧ bitOf mask.toNat i = true))) ∧
      (∀ mask : Byte, mask = 0 ∨ 16 ≤ mask.toNat →
        Does (.synthCal d mask) s (completeCmd d.ring d.tag.toNat stINVALID_FIELD t)) ∧
      (∀ mask : Byte, mask ≠ 0 → mask.toNat < 16 → 2 ≤ t.rstate 16 →
        (∀ q < 4, bitOf mask.toNat q = true → t.quadRelay q = false) → t.cal.running = false →
        (∀ q < 4, (t.synth q).calEnd = none ∧ (t.synth q).want = false) →
        Does (.synthCal d mask) s (kickRadio (forAll ((List.range 4).filter (fun q => bitOf mask.toNat q)) (fun q u =>
          u.modSynth q (fun y => { y with picked := true, cmd := some (t.defer d.ring d.tag.toNat) })) t))) ∧
      (∀ addr : BitVec 64, ∃ (b : List Nat) (u : State), u.pst.nonce = some { bytes := b, issued := t.opTime } ∧
        u.pst.nonces = t.pst.nonces + 1 ∧ u.hif.nonceMem = (addr.toNat, b) :: t.hif.nonceMem.take 15 ∧
        u.get PST_STAT_NONCE_VALID = 1 ∧ b.length = 32 ∧
        b.drop 24 = leBytes 4 (t.get PST_LOCKGEN_GEN) ++ leBytes 4 (t.pst.nonces + 1) ∧
        Does (.nonceGet d addr) s (completeCmd d.ring d.tag.toNat stSUCCESS u)))) ∧
  (∀ (s : State) (d : Desc), s.served d.ring → d.lost = false → descBad d = false →
     (let t := fetch d.ring s
      let finish := fun (status : Nat) (u : State) => completeCmd d.ring d.tag.toNat status u
      (t.isMaster = false → Does (.stackRealign d) s (finish stNOT_MASTER t) ∧ Does (.pairSwap d) s (finish stNOT_MASTER t) ∧
        Does (.pairPromote d) s (finish stNOT_MASTER t) ∧ Does (.pairResync d) s (finish stNOT_MASTER t)) ∧
      (t.isMaster = true →
        Does (.stackRealign d) s (finish stSUCCESS
          { t with qlk := { t.qlk with realignAt := some (t.beatTick (t.beatAt (t.now + 4 * Config.beat))) } }) ∧
        (t.linkSt 3 ≠ 3 → Does (.pairSwap d) s (finish stUNREACHABLE t)) ∧
        (t.linkSt 3 = 3 → t.role = 1 ∨ t.role = 2 → t.flag QLK_PAIRSTAT_MIRROR_SYNC = true → t.qlk.swap = none →
          Does (.pairSwap d) s (sendMsg 3 .swap [] { t with qlk := { t.qlk with swap := some (t.defer d.ring d.tag.toNat) } })) ∧
        (t.role = 2 → t.linkSt 3 = 0 → Does (.pairPromote d) s (finish stSUCCESS (promote t))) ∧
        (t.role ≠ 2 → Does (.pairPromote d) s (finish stWRONG_STATE t)) ∧
        (t.role ≠ 1 → Does (.pairResync d) s (finish stWRONG_STATE t)) ∧
        (t.role = 1 → t.linkSt 3 = 3 → Does (.pairResync d) s (finish stSUCCESS
          (sendConfig { t with qlk := { t.qlk with resyncDue := true } }))))))

/-- R27: an event of the ports, the fabric, the cancellers, the watch or the radio states leaves the power side alone. R27: a
command of the host's rings and doorbells, and an event of the links or of the collector, leaves the power side alone. -/
def Obligations.RadioAndLinkCommandsLeaveThePowerSide : Prop :=
  (∀ (i : Instr) (s t : State), radioEvent i = true → exec i s = .next t → powerSideKept s t) ∧
  (∀ (i : Instr) (s t : State), ringCommand i = true ∨ linkEvent i = true → exec i s = .next t → powerSideKept s t)

/-- R202, R280: an event of the control engine, the PWM channels, rack power or the start leaves the store and the
measurements alone. -/
def Obligations.PowerEventsLeaveTheStore : Prop :=
  ∀ (i : Instr) (s t : State), powerEventOf i = true → exec i s = .next t → storeKept s t
end

