-- ==== Sys2Proof/Laws/Tab.lean ====
section
/-!
SUPPORT. Sys2Proof/Laws/Tab.lean: what reading, writing and taking out an entry of a sparse table do, and the bit fields of a word.
-/
namespace Sys2Proof.Machine
open Sys2Proof

/-! ### Reading after writing -/

theorem tabGetD_tabInsert_same {α : Type} (d v : α) (t : Tab α) (k : Nat) : tabGetD d (tabInsert k v t) k = v := by
  induction t with
  | nil => simp [tabInsert, tabGetD]
  | cons e t ih =>
    obtain ⟨k', v'⟩ := e
    simp only [tabInsert]
    split
    · simp [tabGetD]
    · split
      · simp [tabGetD]
      · simp [tabGetD, *]

theorem tabGetD_tabInsert_ne {α : Type} (d v : α) (t : Tab α) {k j : Nat} (h : j ≠ k) :
    tabGetD d (tabInsert k v t) j = tabGetD d t j := by
  induction t with
  | nil => simp [tabInsert, tabGetD, h]
  | cons e t ih =>
    obtain ⟨k', v'⟩ := e
    simp only [tabInsert]
    split
    · simp [tabGetD, h]
    · split
      · rename_i h1 h2; subst h2; simp [tabGetD, h]
      · simp only [tabGetD]; split
        · rfl
        · exact ih

theorem tabGetD_tabErase_same {α : Type} (d : α) (t : Tab α) (k : Nat) : tabGetD d (tabErase k t) k = d := by
  induction t with
  | nil => rfl
  | cons e t ih =>
    obtain ⟨k', v'⟩ := e
    unfold tabErase at *
    simp only [List.filter]
    split
    · rename_i h
      have h' : k ≠ k' := fun e => by simp [e] at h
      simpa [tabGetD, h'] using ih
    · exact ih

theorem tabGetD_tabErase_ne {α : Type} (d : α) (t : Tab α) {k j : Nat} (h : j ≠ k) :
    tabGetD d (tabErase k t) j = tabGetD d t j := by
  induction t with
  | nil => rfl
  | cons e t ih =>
    obtain ⟨k', v'⟩ := e
    unfold tabErase at *
    simp only [List.filter]
    split
    · simp only [tabGetD]; split
      · rfl
      · exact ih
    · rename_i hk
      have hk' : k' = k := by simpa using hk
      subst hk'
      simpa [tabGetD, h] using ih

@[simp] theorem tabGetD_tabSetD_same {α : Type} [DecidableEq α] (d v : α) (t : Tab α) (k : Nat) :
    tabGetD d (tabSetD d t k v) k = v := by
  unfold tabSetD
  split
  · rename_i h; rw [tabGetD_tabErase_same, h]
  · exact tabGetD_tabInsert_same d v t k

theorem tabGetD_tabSetD_ne {α : Type} [DecidableEq α] (d d' v : α) (t : Tab α) {k j : Nat} (h : j ≠ k) :
    tabGetD d (tabSetD d' t k v) j = tabGetD d t j := by
  unfold tabSetD
  split
  · exact tabGetD_tabErase_ne d t h
  · exact tabGetD_tabInsert_ne d v t h

@[simp] theorem tabGet_tabSet_same {α : Type} [Inhabited α] [DecidableEq α] (t : Tab α) (k : Nat) (v : α) :
    tabGet (tabSet t k v) k = v := tabGetD_tabSetD_same _ _ _ _

theorem tabGet_tabSet_ne {α : Type} [Inhabited α] [DecidableEq α] (t : Tab α) {k j : Nat} (v : α) (h : j ≠ k) :
    tabGet (tabSet t k v) j = tabGet t j := tabGetD_tabSetD_ne _ _ _ _ h

@[simp] theorem tabGet_tabMod_same {α : Type} [Inhabited α] [DecidableEq α] (t : Tab α) (k : Nat) (f : α → α) :
    tabGet (tabMod t k f) k = f (tabGet t k) := tabGet_tabSet_same _ _ _

theorem tabGet_tabMod_ne {α : Type} [Inhabited α] [DecidableEq α] (t : Tab α) {k j : Nat} (f : α → α) (h : j ≠ k) :
    tabGet (tabMod t k f) j = tabGet t j := tabGet_tabSet_ne _ _ h

/-! ### Bit fields -/

/-- The part of a word below, in and above a field. -/
theorem word_split (w lo width : Nat) :
    w = w % 2 ^ lo + (w / 2 ^ lo % 2 ^ width) * 2 ^ lo + w / 2 ^ (lo + width) * 2 ^ (lo + width) := by
  have h1 := Nat.div_add_mod w (2 ^ lo)
  have h2 := Nat.div_add_mod (w / 2 ^ lo) (2 ^ width)
  rw [Nat.div_div_eq_div_mul, ← pow_add] at h2
  rw [pow_add] at h2 ⊢
  have h3 : 2 ^ lo * (2 ^ width * (w / (2 ^ lo * 2 ^ width)) + w / 2 ^ lo % 2 ^ width) = 2 ^ lo * (w / 2 ^ lo) := by rw [h2]
  rw [Nat.mul_add] at h3
  have h4 : 2 ^ lo * (2 ^ width * (w / (2 ^ lo * 2 ^ width))) = w / (2 ^ lo * 2 ^ width) * (2 ^ lo * 2 ^ width) := by ring
  have h5 : 2 ^ lo * (w / 2 ^ lo % 2 ^ width) = w / 2 ^ lo % 2 ^ width * 2 ^ lo := by ring
  omega

theorem setBits_toNat (w : Word) (lo width v : Nat) (h : lo + width ≤ 32) :
    (setBits w lo width v).toNat =
      w.toNat % 2 ^ lo + (v % 2 ^ width) * 2 ^ lo + w.toNat / 2 ^ (lo + width) * 2 ^ (lo + width) := by
  unfold setBits
  rw [BitVec.toNat_ofNat, Nat.mod_eq_of_lt]
  have hw := w.isLt
  have hp : (2 : Nat) ^ (lo + width) * 2 ^ (32 - (lo + width)) = 2 ^ 32 := by rw [← pow_add]; congr 1; omega
  have h1 : w.toNat % 2 ^ lo < 2 ^ lo := Nat.mod_lt _ (by positivity)
  have h2 : v % 2 ^ width < 2 ^ width := Nat.mod_lt _ (by positivity)
  have h3 : w.toNat / 2 ^ (lo + width) < 2 ^ (32 - (lo + width)) := by
    rw [Nat.div_lt_iff_lt_mul (by positivity)]; rw [Nat.mul_comm, hp]; exact hw
  have h4 : w.toNat % 2 ^ lo + (v % 2 ^ width) * 2 ^ lo < 2 ^ (lo + width) := by
    rw [pow_add]
    have : (v % 2 ^ width + 1) * 2 ^ lo ≤ 2 ^ width * 2 ^ lo := Nat.mul_le_mul_right _ h2
    nlinarith
  have h5 : (w.toNat / 2 ^ (lo + width) + 1) * 2 ^ (lo + width) ≤ 2 ^ (32 - (lo + width)) * 2 ^ (lo + width) :=
    Nat.mul_le_mul_right _ h3
  rw [Nat.mul_comm (2 ^ (32 - (lo + width)))] at h5
  rw [hp] at h5
  nlinarith

/-- A field reads as the low bits of what was put into it. -/
theorem getBits_setBits_same (w : Word) (lo width v : Nat) (h : lo + width ≤ 32) :
    getBits (setBits w lo width v) lo width = v % 2 ^ width := by
  unfold getBits
  rw [setBits_toNat w lo width v h]
  have e : w.toNat % 2 ^ lo + (v % 2 ^ width) * 2 ^ lo + w.toNat / 2 ^ (lo + width) * 2 ^ (lo + width) =
      w.toNat % 2 ^ lo + 2 ^ lo * (v % 2 ^ width + 2 ^ width * (w.toNat / 2 ^ (lo + width))) := by rw [pow_add]; ring
  rw [e, Nat.add_mul_div_left _ _ (by positivity), Nat.div_eq_of_lt (Nat.mod_lt _ (by positivity)), Nat.zero_add,
    Nat.add_mul_mod_self_left, Nat.mod_mod]

/-- A field is left alone by a write of a field that lies apart from it. -/
theorem getBits_setBits_apart (w : Word) (lo width v lo' width' : Nat) (h : lo + width ≤ 32)
    (ha : lo' + width' ≤ lo ∨ lo + width ≤ lo') :
    getBits (setBits w lo width v) lo' width' = getBits w lo' width' := by
  unfold getBits
  rw [setBits_toNat w lo width v h]
  rcases ha with ha | ha
  · obtain ⟨d, rfl⟩ : ∃ d, lo = lo' + width' + d := ⟨lo - (lo' + width'), by omega⟩
    have e : w.toNat % 2 ^ (lo' + width' + d) + (v % 2 ^ width) * 2 ^ (lo' + width' + d) +
        w.toNat / 2 ^ (lo' + width' + d + width) * 2 ^ (lo' + width' + d + width) =
        w.toNat % 2 ^ (lo' + width' + d) + 2 ^ (lo' + width') * (2 ^ d * (v % 2 ^ width) +
          2 ^ (d + width) * (w.toNat / 2 ^ (lo' + width' + d + width))) := by
      simp only [pow_add]; ring
    have key : ∀ x c : Nat, (x + 2 ^ (lo' + width') * c) / 2 ^ lo' % 2 ^ width' = x / 2 ^ lo' % 2 ^ width' := by
      intro x c
      have : x + 2 ^ (lo' + width') * c = x + 2 ^ lo' * (2 ^ width' * c) := by rw [pow_add]; ring
      rw [this, Nat.add_mul_div_left _ _ (by positivity), Nat.add_mul_mod_self_left]
    rw [e, key]
    have hs := Nat.div_add_mod w.toNat (2 ^ (lo' + width' + d))
    have e2 : w.toNat = w.toNat % 2 ^ (lo' + width' + d) + 2 ^ (lo' + width') * (2 ^ d * (w.toNat / 2 ^ (lo' + width' + d))) := by
      rw [pow_add 2 (lo' + width') d] at hs ⊢
      nlinarith [hs]
    conv_rhs => rw [e2, key]
  · obtain ⟨d, rfl⟩ : ∃ d, lo' = lo + width + d := ⟨lo' - (lo + width), by omega⟩
    congr 1
    have h1 : w.toNat % 2 ^ lo + (v % 2 ^ width) * 2 ^ lo < 2 ^ (lo + width) := by
      have h1 : w.toNat % 2 ^ lo < 2 ^ lo := Nat.mod_lt _ (by positivity)
      have h2 : v % 2 ^ width < 2 ^ width := Nat.mod_lt _ (by positivity)
      rw [pow_add]
      have : (v % 2 ^ width + 1) * 2 ^ lo ≤ 2 ^ width * 2 ^ lo := Nat.mul_le_mul_right _ h2
      nlinarith
    rw [pow_add 2 (lo + width) d, ← Nat.div_div_eq_div_mul, ← Nat.div_div_eq_div_mul, Nat.add_mul_div_right _ _ (by positivity),
      Nat.div_eq_of_lt h1, Nat.zero_add]

theorem getBits_lt (w : Word) (lo width : Nat) : getBits w lo width < 2 ^ width := Nat.mod_lt _ (by positivity)

theorem bit_lt_two (b : Bool) : bit b < 2 := by cases b <;> decide

end Sys2Proof.Machine
end

