-- ==== Sys2Proof/Laws/State.lean ====
section
/-!
SUPPORT. Sys2Proof/Laws/State.lean: what each shared operation leaves alone, one lemma per field of the state, and what a register
reads after a write.
-/
namespace Sys2Proof.Machine
open Sys2Proof

/-! ### Registers -/

@[simp] theorem regsOf_regsPut_same (r : Regs) (b : Blk) (t : Tab Word) : regsOf (regsPut r b t) b = t := by cases b <;> rfl

theorem regsOf_regsPut_ne (r : Regs) {b c : Blk} (t : Tab Word) (h : c ≠ b) : regsOf (regsPut r b t) c = regsOf r c := by
  cases b <;> cases c <;> first | rfl | exact absurd rfl h

/-- A register reads as what was written to it. -/
@[simp] theorem regWord_regWrite_same (v : Variant) (r : Regs) (f : RegFam) (i j : Nat) (w : Word) :
    regWord v (regWrite v r f i j w) f i j = w := by simp [regWord, regWrite]

/-- A write of one register leaves another as it was: one of another block, or at another offset. -/
theorem regWord_regWrite_ne (v : Variant) (r : Regs) (f g : RegFam) (i j i' j' : Nat) (w : Word)
    (h : g.blk ≠ f.blk ∨ regOff g i' j' ≠ regOff f i j) :
    regWord v (regWrite v r f i j w) g i' j' = regWord v r g i' j' := by
  unfold regWord regWrite
  by_cases hb : g.blk = f.blk
  · rw [hb, regsOf_regsPut_same, tabGetD_tabSetD_ne]
    rcases h with h | h
    · exact absurd hb h
    · exact h
  · rw [regsOf_regsPut_ne _ _ hb]

@[simp] theorem word_putWord_same (s : State) (f : RegFam) (w : Word) (i j : Nat) : (s.putWord f w i j).word f i j = w := by
  simp [State.word, State.putWord]

theorem word_putWord_ne (s : State) (f g : RegFam) (w : Word) (i j i' j' : Nat)
    (h : g.blk ≠ f.blk ∨ regOff g i' j' ≠ regOff f i j) : (s.putWord f w i j).word g i' j' = s.word g i' j' :=
  regWord_regWrite_ne _ _ _ _ _ _ _ _ _ h

/-- A field reads as what was put into it, cut to its width. -/
theorem get_put_same (s : State) (f : Fld) (v i j : Nat) (h : f.lo + f.width ≤ 32) :
    (s.put f v i j).get f i j = v % 2 ^ f.width := by
  unfold State.get State.put
  rw [word_putWord_same, getBits_setBits_same _ _ _ _ h]

/-- A field put leaves alone a field of another register. -/
theorem get_put_ne (s : State) (f g : Fld) (v i j i' j' : Nat)
    (h : g.fam.blk ≠ f.fam.blk ∨ regOff g.fam i' j' ≠ regOff f.fam i j) :
    (s.put f v i j).get g i' j' = s.get g i' j' := by
  unfold State.get State.put
  rw [word_putWord_ne _ _ _ _ _ _ _ _ h]

/-- A field put leaves alone a field that lies apart from it in the same register. -/
theorem get_put_apart (s : State) (f g : Fld) (v i j : Nat) (hf : g.fam = f.fam) (h : f.lo + f.width ≤ 32)
    (ha : g.lo + g.width ≤ f.lo ∨ f.lo + f.width ≤ g.lo) :
    (s.put f v i j).get g i j = s.get g i j := by
  unfold State.get State.put
  rw [hf, word_putWord_same, getBits_setBits_apart _ _ _ _ _ _ h ha]

/-- Equal registers read equal fields. -/
theorem get_congr {s t : State} (f : Fld) (i j : Nat) (hr : t.regs = s.regs) (hp : t.part = s.part) : t.get f i j = s.get f i j := by
  unfold State.get State.word; rw [hr, hp]

/-- Two states with the same table of a block read the same field of it. -/
theorem get_congr_blk {s t : State} (f : Fld) (i j : Nat) (hr : regsOf t.regs f.fam.blk = regsOf s.regs f.fam.blk)
    (hp : t.part = s.part) : t.get f i j = s.get f i j := by
  unfold State.get State.word regWord; rw [hr, hp]

theorem get_lt (s : State) (f : Fld) (i j : Nat) : s.get f i j < 2 ^ f.width := getBits_lt _ _ _

/-! ### Writing a register changes nothing but the registers -/
@[simp] theorem putWord_part (s : State) (f : RegFam) (w : Word) (i j : Nat) : (s.putWord f w i j).part = s.part := (rfl)
@[simp] theorem putWord_now (s : State) (f : RegFam) (w : Word) (i j : Nat) : (s.putWord f w i j).now = s.now := (rfl)
@[simp] theorem putWord_vauxAt (s : State) (f : RegFam) (w : Word) (i j : Nat) : (s.putWord f w i j).vauxAt = s.vauxAt := (rfl)
@[simp] theorem putWord_align (s : State) (f : RegFam) (w : Word) (i j : Nat) : (s.putWord f w i j).align = s.align := (rfl)
@[simp] theorem putWord_pending (s : State) (f : RegFam) (w : Word) (i j : Nat) : (s.putWord f w i j).pending = s.pending := (rfl)
@[simp] theorem putWord_free (s : State) (f : RegFam) (w : Word) (i j : Nat) : (s.putWord f w i j).free = s.free := (rfl)
@[simp] theorem putWord_latch (s : State) (f : RegFam) (w : Word) (i j : Nat) : (s.putWord f w i j).latch = s.latch := (rfl)
@[simp] theorem putWord_flt (s : State) (f : RegFam) (w : Word) (i j : Nat) : (s.putWord f w i j).flt = s.flt := (rfl)
@[simp] theorem putWord_hif (s : State) (f : RegFam) (w : Word) (i j : Nat) : (s.putWord f w i j).hif = s.hif := (rfl)
@[simp] theorem putWord_units (s : State) (f : RegFam) (w : Word) (i j : Nat) : (s.putWord f w i j).units = s.units := (rfl)
@[simp] theorem putWord_cal (s : State) (f : RegFam) (w : Word) (i j : Nat) : (s.putWord f w i j).cal = s.cal := (rfl)
@[simp] theorem putWord_fab (s : State) (f : RegFam) (w : Word) (i j : Nat) : (s.putWord f w i j).fab = s.fab := (rfl)
@[simp] theorem putWord_past (s : State) (f : RegFam) (w : Word) (i j : Nat) : (s.putWord f w i j).past = s.past := (rfl)
@[simp] theorem putWord_iso (s : State) (f : RegFam) (w : Word) (i j : Nat) : (s.putWord f w i j).iso = s.iso := (rfl)
@[simp] theorem putWord_spw (s : State) (f : RegFam) (w : Word) (i j : Nat) : (s.putWord f w i j).spw = s.spw := (rfl)
@[simp] theorem putWord_radio (s : State) (f : RegFam) (w : Word) (i j : Nat) : (s.putWord f w i j).radio = s.radio := (rfl)
@[simp] theorem putWord_pst (s : State) (f : RegFam) (w : Word) (i j : Nat) : (s.putWord f w i j).pst = s.pst := (rfl)
@[simp] theorem putWord_qlk (s : State) (f : RegFam) (w : Word) (i j : Nat) : (s.putWord f w i j).qlk = s.qlk := (rfl)
@[simp] theorem putWord_tim (s : State) (f : RegFam) (w : Word) (i j : Nat) : (s.putWord f w i j).tim = s.tim := (rfl)
@[simp] theorem putWord_mea (s : State) (f : RegFam) (w : Word) (i j : Nat) : (s.putWord f w i j).mea = s.mea := (rfl)
@[simp] theorem putWord_cte (s : State) (f : RegFam) (w : Word) (i j : Nat) : (s.putWord f w i j).cte = s.cte := (rfl)
@[simp] theorem putWord_pwm (s : State) (f : RegFam) (w : Word) (i j : Nat) : (s.putWord f w i j).pwm = s.pwm := (rfl)
@[simp] theorem putWord_rps (s : State) (f : RegFam) (w : Word) (i j : Nat) : (s.putWord f w i j).rps = s.rps := (rfl)
@[simp] theorem putWord_therm (s : State) (f : RegFam) (w : Word) (i j : Nat) : (s.putWord f w i j).therm = s.therm := (rfl)
@[simp] theorem putWord_doms (s : State) (f : RegFam) (w : Word) (i j : Nat) : (s.putWord f w i j).doms = s.doms := (rfl)
@[simp] theorem putWord_boot (s : State) (f : RegFam) (w : Word) (i j : Nat) : (s.putWord f w i j).boot = s.boot := (rfl)
/-! ### Putting a field changes nothing but the registers -/
@[simp] theorem put_part (s : State) (f : Fld) (v i j : Nat) : (s.put f v i j).part = s.part := (rfl)
@[simp] theorem put_now (s : State) (f : Fld) (v i j : Nat) : (s.put f v i j).now = s.now := (rfl)
@[simp] theorem put_vauxAt (s : State) (f : Fld) (v i j : Nat) : (s.put f v i j).vauxAt = s.vauxAt := (rfl)
@[simp] theorem put_align (s : State) (f : Fld) (v i j : Nat) : (s.put f v i j).align = s.align := (rfl)
@[simp] theorem put_pending (s : State) (f : Fld) (v i j : Nat) : (s.put f v i j).pending = s.pending := (rfl)
@[simp] theorem put_free (s : State) (f : Fld) (v i j : Nat) : (s.put f v i j).free = s.free := (rfl)
@[simp] theorem put_latch (s : State) (f : Fld) (v i j : Nat) : (s.put f v i j).latch = s.latch := (rfl)
@[simp] theorem put_flt (s : State) (f : Fld) (v i j : Nat) : (s.put f v i j).flt = s.flt := (rfl)
@[simp] theorem put_hif (s : State) (f : Fld) (v i j : Nat) : (s.put f v i j).hif = s.hif := (rfl)
@[simp] theorem put_units (s : State) (f : Fld) (v i j : Nat) : (s.put f v i j).units = s.units := (rfl)
@[simp] theorem put_cal (s : State) (f : Fld) (v i j : Nat) : (s.put f v i j).cal = s.cal := (rfl)
@[simp] theorem put_fab (s : State) (f : Fld) (v i j : Nat) : (s.put f v i j).fab = s.fab := (rfl)
@[simp] theorem put_past (s : State) (f : Fld) (v i j : Nat) : (s.put f v i j).past = s.past := (rfl)
@[simp] theorem put_iso (s : State) (f : Fld) (v i j : Nat) : (s.put f v i j).iso = s.iso := (rfl)
@[simp] theorem put_spw (s : State) (f : Fld) (v i j : Nat) : (s.put f v i j).spw = s.spw := (rfl)
@[simp] theorem put_radio (s : State) (f : Fld) (v i j : Nat) : (s.put f v i j).radio = s.radio := (rfl)
@[simp] theorem put_pst (s : State) (f : Fld) (v i j : Nat) : (s.put f v i j).pst = s.pst := (rfl)
@[simp] theorem put_qlk (s : State) (f : Fld) (v i j : Nat) : (s.put f v i j).qlk = s.qlk := (rfl)
@[simp] theorem put_tim (s : State) (f : Fld) (v i j : Nat) : (s.put f v i j).tim = s.tim := (rfl)
@[simp] theorem put_mea (s : State) (f : Fld) (v i j : Nat) : (s.put f v i j).mea = s.mea := (rfl)
@[simp] theorem put_cte (s : State) (f : Fld) (v i j : Nat) : (s.put f v i j).cte = s.cte := (rfl)
@[simp] theorem put_pwm (s : State) (f : Fld) (v i j : Nat) : (s.put f v i j).pwm = s.pwm := (rfl)
@[simp] theorem put_rps (s : State) (f : Fld) (v i j : Nat) : (s.put f v i j).rps = s.rps := (rfl)
@[simp] theorem put_therm (s : State) (f : Fld) (v i j : Nat) : (s.put f v i j).therm = s.therm := (rfl)
@[simp] theorem put_doms (s : State) (f : Fld) (v i j : Nat) : (s.put f v i j).doms = s.doms := (rfl)
@[simp] theorem put_boot (s : State) (f : Fld) (v i j : Nat) : (s.put f v i j).boot = s.boot := (rfl)
/-! ### The same for a field of a port -/
@[simp] theorem pput_part (s : State) (f : Fld) (n v : Nat) : (s.pput f n v).part = s.part := (rfl)
@[simp] theorem pput_now (s : State) (f : Fld) (n v : Nat) : (s.pput f n v).now = s.now := (rfl)
@[simp] theorem pput_vauxAt (s : State) (f : Fld) (n v : Nat) : (s.pput f n v).vauxAt = s.vauxAt := (rfl)
@[simp] theorem pput_align (s : State) (f : Fld) (n v : Nat) : (s.pput f n v).align = s.align := (rfl)
@[simp] theorem pput_pending (s : State) (f : Fld) (n v : Nat) : (s.pput f n v).pending = s.pending := (rfl)
@[simp] theorem pput_free (s : State) (f : Fld) (n v : Nat) : (s.pput f n v).free = s.free := (rfl)
@[simp] theorem pput_latch (s : State) (f : Fld) (n v : Nat) : (s.pput f n v).latch = s.latch := (rfl)
@[simp] theorem pput_flt (s : State) (f : Fld) (n v : Nat) : (s.pput f n v).flt = s.flt := (rfl)
@[simp] theorem pput_hif (s : State) (f : Fld) (n v : Nat) : (s.pput f n v).hif = s.hif := (rfl)
@[simp] theorem pput_units (s : State) (f : Fld) (n v : Nat) : (s.pput f n v).units = s.units := (rfl)
@[simp] theorem pput_cal (s : State) (f : Fld) (n v : Nat) : (s.pput f n v).cal = s.cal := (rfl)
@[simp] theorem pput_fab (s : State) (f : Fld) (n v : Nat) : (s.pput f n v).fab = s.fab := (rfl)
@[simp] theorem pput_past (s : State) (f : Fld) (n v : Nat) : (s.pput f n v).past = s.past := (rfl)
@[simp] theorem pput_iso (s : State) (f : Fld) (n v : Nat) : (s.pput f n v).iso = s.iso := (rfl)
@[simp] theorem pput_spw (s : State) (f : Fld) (n v : Nat) : (s.pput f n v).spw = s.spw := (rfl)
@[simp] theorem pput_radio (s : State) (f : Fld) (n v : Nat) : (s.pput f n v).radio = s.radio := (rfl)
@[simp] theorem pput_pst (s : State) (f : Fld) (n v : Nat) : (s.pput f n v).pst = s.pst := (rfl)
@[simp] theorem pput_qlk (s : State) (f : Fld) (n v : Nat) : (s.pput f n v).qlk = s.qlk := (rfl)
@[simp] theorem pput_tim (s : State) (f : Fld) (n v : Nat) : (s.pput f n v).tim = s.tim := (rfl)
@[simp] theorem pput_mea (s : State) (f : Fld) (n v : Nat) : (s.pput f n v).mea = s.mea := (rfl)
@[simp] theorem pput_cte (s : State) (f : Fld) (n v : Nat) : (s.pput f n v).cte = s.cte := (rfl)
@[simp] theorem pput_pwm (s : State) (f : Fld) (n v : Nat) : (s.pput f n v).pwm = s.pwm := (rfl)
@[simp] theorem pput_rps (s : State) (f : Fld) (n v : Nat) : (s.pput f n v).rps = s.rps := (rfl)
@[simp] theorem pput_therm (s : State) (f : Fld) (n v : Nat) : (s.pput f n v).therm = s.therm := (rfl)
@[simp] theorem pput_doms (s : State) (f : Fld) (n v : Nat) : (s.pput f n v).doms = s.doms := (rfl)
@[simp] theorem pput_boot (s : State) (f : Fld) (n v : Nat) : (s.pput f n v).boot = s.boot := (rfl)
/-! ### Counting changes nothing but the registers -/
@[simp] theorem count_part (s : State) (f : Fld) (i j n : Nat) : (s.count f i j n).part = s.part := (rfl)
@[simp] theorem count_now (s : State) (f : Fld) (i j n : Nat) : (s.count f i j n).now = s.now := (rfl)
@[simp] theorem count_vauxAt (s : State) (f : Fld) (i j n : Nat) : (s.count f i j n).vauxAt = s.vauxAt := (rfl)
@[simp] theorem count_align (s : State) (f : Fld) (i j n : Nat) : (s.count f i j n).align = s.align := (rfl)
@[simp] theorem count_pending (s : State) (f : Fld) (i j n : Nat) : (s.count f i j n).pending = s.pending := (rfl)
@[simp] theorem count_free (s : State) (f : Fld) (i j n : Nat) : (s.count f i j n).free = s.free := (rfl)
@[simp] theorem count_latch (s : State) (f : Fld) (i j n : Nat) : (s.count f i j n).latch = s.latch := (rfl)
@[simp] theorem count_flt (s : State) (f : Fld) (i j n : Nat) : (s.count f i j n).flt = s.flt := (rfl)
@[simp] theorem count_hif (s : State) (f : Fld) (i j n : Nat) : (s.count f i j n).hif = s.hif := (rfl)
@[simp] theorem count_units (s : State) (f : Fld) (i j n : Nat) : (s.count f i j n).units = s.units := (rfl)
@[simp] theorem count_cal (s : State) (f : Fld) (i j n : Nat) : (s.count f i j n).cal = s.cal := (rfl)
@[simp] theorem count_fab (s : State) (f : Fld) (i j n : Nat) : (s.count f i j n).fab = s.fab := (rfl)
@[simp] theorem count_past (s : State) (f : Fld) (i j n : Nat) : (s.count f i j n).past = s.past := (rfl)
@[simp] theorem count_iso (s : State) (f : Fld) (i j n : Nat) : (s.count f i j n).iso = s.iso := (rfl)
@[simp] theorem count_spw (s : State) (f : Fld) (i j n : Nat) : (s.count f i j n).spw = s.spw := (rfl)
@[simp] theorem count_radio (s : State) (f : Fld) (i j n : Nat) : (s.count f i j n).radio = s.radio := (rfl)
@[simp] theorem count_pst (s : State) (f : Fld) (i j n : Nat) : (s.count f i j n).pst = s.pst := (rfl)
@[simp] theorem count_qlk (s : State) (f : Fld) (i j n : Nat) : (s.count f i j n).qlk = s.qlk := (rfl)
@[simp] theorem count_tim (s : State) (f : Fld) (i j n : Nat) : (s.count f i j n).tim = s.tim := (rfl)
@[simp] theorem count_mea (s : State) (f : Fld) (i j n : Nat) : (s.count f i j n).mea = s.mea := (rfl)
@[simp] theorem count_cte (s : State) (f : Fld) (i j n : Nat) : (s.count f i j n).cte = s.cte := (rfl)
@[simp] theorem count_pwm (s : State) (f : Fld) (i j n : Nat) : (s.count f i j n).pwm = s.pwm := (rfl)
@[simp] theorem count_rps (s : State) (f : Fld) (i j n : Nat) : (s.count f i j n).rps = s.rps := (rfl)
@[simp] theorem count_therm (s : State) (f : Fld) (i j n : Nat) : (s.count f i j n).therm = s.therm := (rfl)
@[simp] theorem count_doms (s : State) (f : Fld) (i j n : Nat) : (s.count f i j n).doms = s.doms := (rfl)
@[simp] theorem count_boot (s : State) (f : Fld) (i j n : Nat) : (s.count f i j n).boot = s.boot := (rfl)
/-! ### Writing a bit of a bank changes nothing but the registers -/
@[simp] theorem putBit_part (s : State) (f : Fld) (i : Nat) (b : Bool) : (s.putBit f i b).part = s.part := (rfl)
@[simp] theorem putBit_now (s : State) (f : Fld) (i : Nat) (b : Bool) : (s.putBit f i b).now = s.now := (rfl)
@[simp] theorem putBit_vauxAt (s : State) (f : Fld) (i : Nat) (b : Bool) : (s.putBit f i b).vauxAt = s.vauxAt := (rfl)
@[simp] theorem putBit_align (s : State) (f : Fld) (i : Nat) (b : Bool) : (s.putBit f i b).align = s.align := (rfl)
@[simp] theorem putBit_pending (s : State) (f : Fld) (i : Nat) (b : Bool) : (s.putBit f i b).pending = s.pending := (rfl)
@[simp] theorem putBit_free (s : State) (f : Fld) (i : Nat) (b : Bool) : (s.putBit f i b).free = s.free := (rfl)
@[simp] theorem putBit_latch (s : State) (f : Fld) (i : Nat) (b : Bool) : (s.putBit f i b).latch = s.latch := (rfl)
@[simp] theorem putBit_flt (s : State) (f : Fld) (i : Nat) (b : Bool) : (s.putBit f i b).flt = s.flt := (rfl)
@[simp] theorem putBit_hif (s : State) (f : Fld) (i : Nat) (b : Bool) : (s.putBit f i b).hif = s.hif := (rfl)
@[simp] theorem putBit_units (s : State) (f : Fld) (i : Nat) (b : Bool) : (s.putBit f i b).units = s.units := (rfl)
@[simp] theorem putBit_cal (s : State) (f : Fld) (i : Nat) (b : Bool) : (s.putBit f i b).cal = s.cal := (rfl)
@[simp] theorem putBit_fab (s : State) (f : Fld) (i : Nat) (b : Bool) : (s.putBit f i b).fab = s.fab := (rfl)
@[simp] theorem putBit_past (s : State) (f : Fld) (i : Nat) (b : Bool) : (s.putBit f i b).past = s.past := (rfl)
@[simp] theorem putBit_iso (s : State) (f : Fld) (i : Nat) (b : Bool) : (s.putBit f i b).iso = s.iso := (rfl)
@[simp] theorem putBit_spw (s : State) (f : Fld) (i : Nat) (b : Bool) : (s.putBit f i b).spw = s.spw := (rfl)
@[simp] theorem putBit_radio (s : State) (f : Fld) (i : Nat) (b : Bool) : (s.putBit f i b).radio = s.radio := (rfl)
@[simp] theorem putBit_pst (s : State) (f : Fld) (i : Nat) (b : Bool) : (s.putBit f i b).pst = s.pst := (rfl)
@[simp] theorem putBit_qlk (s : State) (f : Fld) (i : Nat) (b : Bool) : (s.putBit f i b).qlk = s.qlk := (rfl)
@[simp] theorem putBit_tim (s : State) (f : Fld) (i : Nat) (b : Bool) : (s.putBit f i b).tim = s.tim := (rfl)
@[simp] theorem putBit_mea (s : State) (f : Fld) (i : Nat) (b : Bool) : (s.putBit f i b).mea = s.mea := (rfl)
@[simp] theorem putBit_cte (s : State) (f : Fld) (i : Nat) (b : Bool) : (s.putBit f i b).cte = s.cte := (rfl)
@[simp] theorem putBit_pwm (s : State) (f : Fld) (i : Nat) (b : Bool) : (s.putBit f i b).pwm = s.pwm := (rfl)
@[simp] theorem putBit_rps (s : State) (f : Fld) (i : Nat) (b : Bool) : (s.putBit f i b).rps = s.rps := (rfl)
@[simp] theorem putBit_therm (s : State) (f : Fld) (i : Nat) (b : Bool) : (s.putBit f i b).therm = s.therm := (rfl)
@[simp] theorem putBit_doms (s : State) (f : Fld) (i : Nat) (b : Bool) : (s.putBit f i b).doms = s.doms := (rfl)
@[simp] theorem putBit_boot (s : State) (f : Fld) (i : Nat) (b : Bool) : (s.putBit f i b).boot = s.boot := (rfl)
/-! ### Moving time changes nothing but the moment -/
@[simp] theorem moveTo_part (s : State) (t : Nat) : (s.moveTo t).part = s.part := (rfl)
@[simp] theorem moveTo_vauxAt (s : State) (t : Nat) : (s.moveTo t).vauxAt = s.vauxAt := (rfl)
@[simp] theorem moveTo_align (s : State) (t : Nat) : (s.moveTo t).align = s.align := (rfl)
@[simp] theorem moveTo_pending (s : State) (t : Nat) : (s.moveTo t).pending = s.pending := (rfl)
@[simp] theorem moveTo_free (s : State) (t : Nat) : (s.moveTo t).free = s.free := (rfl)
@[simp] theorem moveTo_latch (s : State) (t : Nat) : (s.moveTo t).latch = s.latch := (rfl)
@[simp] theorem moveTo_flt (s : State) (t : Nat) : (s.moveTo t).flt = s.flt := (rfl)
@[simp] theorem moveTo_hif (s : State) (t : Nat) : (s.moveTo t).hif = s.hif := (rfl)
@[simp] theorem moveTo_units (s : State) (t : Nat) : (s.moveTo t).units = s.units := (rfl)
@[simp] theorem moveTo_cal (s : State) (t : Nat) : (s.moveTo t).cal = s.cal := (rfl)
@[simp] theorem moveTo_fab (s : State) (t : Nat) : (s.moveTo t).fab = s.fab := (rfl)
@[simp] theorem moveTo_past (s : State) (t : Nat) : (s.moveTo t).past = s.past := (rfl)
@[simp] theorem moveTo_iso (s : State) (t : Nat) : (s.moveTo t).iso = s.iso := (rfl)
@[simp] theorem moveTo_spw (s : State) (t : Nat) : (s.moveTo t).spw = s.spw := (rfl)
@[simp] theorem moveTo_radio (s : State) (t : Nat) : (s.moveTo t).radio = s.radio := (rfl)
@[simp] theorem moveTo_pst (s : State) (t : Nat) : (s.moveTo t).pst = s.pst := (rfl)
@[simp] theorem moveTo_qlk (s : State) (t : Nat) : (s.moveTo t).qlk = s.qlk := (rfl)
@[simp] theorem moveTo_tim (s : State) (t : Nat) : (s.moveTo t).tim = s.tim := (rfl)
@[simp] theorem moveTo_mea (s : State) (t : Nat) : (s.moveTo t).mea = s.mea := (rfl)
@[simp] theorem moveTo_cte (s : State) (t : Nat) : (s.moveTo t).cte = s.cte := (rfl)
@[simp] theorem moveTo_pwm (s : State) (t : Nat) : (s.moveTo t).pwm = s.pwm := (rfl)
@[simp] theorem moveTo_rps (s : State) (t : Nat) : (s.moveTo t).rps = s.rps := (rfl)
@[simp] theorem moveTo_therm (s : State) (t : Nat) : (s.moveTo t).therm = s.therm := (rfl)
@[simp] theorem moveTo_doms (s : State) (t : Nat) : (s.moveTo t).doms = s.doms := (rfl)
@[simp] theorem moveTo_boot (s : State) (t : Nat) : (s.moveTo t).boot = s.boot := (rfl)
@[simp] theorem moveTo_regs (s : State) (t : Nat) : (s.moveTo t).regs = s.regs := (rfl)
@[simp] theorem moveTo_now (s : State) (t : Nat) : (s.moveTo t).now = max s.now t := (rfl)
/-! ### What a report leaves alone -/
@[simp] theorem reportOnly_part (s t : State) : (reportOnly s t).part = s.part := (rfl)
@[simp] theorem reportOnly_now (s t : State) : (reportOnly s t).now = s.now := (rfl)
@[simp] theorem reportOnly_vauxAt (s t : State) : (reportOnly s t).vauxAt = s.vauxAt := (rfl)
@[simp] theorem reportOnly_align (s t : State) : (reportOnly s t).align = s.align := (rfl)
@[simp] theorem reportOnly_pending (s t : State) : (reportOnly s t).pending = s.pending := (rfl)
@[simp] theorem reportOnly_free (s t : State) : (reportOnly s t).free = s.free := (rfl)
@[simp] theorem reportOnly_latch (s t : State) : (reportOnly s t).latch = s.latch := (rfl)
@[simp] theorem reportOnly_units (s t : State) : (reportOnly s t).units = s.units := (rfl)
@[simp] theorem reportOnly_cal (s t : State) : (reportOnly s t).cal = s.cal := (rfl)
@[simp] theorem reportOnly_fab (s t : State) : (reportOnly s t).fab = s.fab := (rfl)
@[simp] theorem reportOnly_past (s t : State) : (reportOnly s t).past = s.past := (rfl)
@[simp] theorem reportOnly_iso (s t : State) : (reportOnly s t).iso = s.iso := (rfl)
@[simp] theorem reportOnly_spw (s t : State) : (reportOnly s t).spw = s.spw := (rfl)
@[simp] theorem reportOnly_radio (s t : State) : (reportOnly s t).radio = s.radio := (rfl)
@[simp] theorem reportOnly_pst (s t : State) : (reportOnly s t).pst = s.pst := (rfl)
@[simp] theorem reportOnly_qlk (s t : State) : (reportOnly s t).qlk = s.qlk := (rfl)
@[simp] theorem reportOnly_tim (s t : State) : (reportOnly s t).tim = s.tim := (rfl)
@[simp] theorem reportOnly_mea (s t : State) : (reportOnly s t).mea = s.mea := (rfl)
@[simp] theorem reportOnly_cte (s t : State) : (reportOnly s t).cte = s.cte := (rfl)
@[simp] theorem reportOnly_pwm (s t : State) : (reportOnly s t).pwm = s.pwm := (rfl)
@[simp] theorem reportOnly_rps (s t : State) : (reportOnly s t).rps = s.rps := (rfl)
@[simp] theorem reportOnly_therm (s t : State) : (reportOnly s t).therm = s.therm := (rfl)
@[simp] theorem reportOnly_doms (s t : State) : (reportOnly s t).doms = s.doms := (rfl)
@[simp] theorem reportOnly_boot (s t : State) : (reportOnly s t).boot = s.boot := (rfl)
@[simp] theorem reportOnly_regs_glb (s t : State) : (reportOnly s t).regs.glb = s.regs.glb := (rfl)
@[simp] theorem reportOnly_regs_pwr (s t : State) : (reportOnly s t).regs.pwr = s.regs.pwr := (rfl)
@[simp] theorem reportOnly_regs_clk (s t : State) : (reportOnly s t).regs.clk = s.regs.clk := (rfl)
@[simp] theorem reportOnly_regs_tile (s t : State) : (reportOnly s t).regs.tile = s.regs.tile := (rfl)
@[simp] theorem reportOnly_regs_fab (s t : State) : (reportOnly s t).regs.fab = s.regs.fab := (rfl)
@[simp] theorem reportOnly_regs_iso (s t : State) : (reportOnly s t).regs.iso = s.regs.iso := (rfl)
@[simp] theorem reportOnly_regs_spw (s t : State) : (reportOnly s t).regs.spw = s.regs.spw := (rfl)
@[simp] theorem reportOnly_regs_qlk (s t : State) : (reportOnly s t).regs.qlk = s.regs.qlk := (rfl)
@[simp] theorem reportOnly_regs_exp (s t : State) : (reportOnly s t).regs.exp = s.regs.exp := (rfl)
@[simp] theorem reportOnly_regs_mea (s t : State) : (reportOnly s t).regs.mea = s.regs.mea := (rfl)
@[simp] theorem reportOnly_regs_cte (s t : State) : (reportOnly s t).regs.cte = s.regs.cte := (rfl)
@[simp] theorem reportOnly_regs_pwm (s t : State) : (reportOnly s t).regs.pwm = s.regs.pwm := (rfl)
@[simp] theorem reportOnly_regs_rps (s t : State) : (reportOnly s t).regs.rps = s.regs.rps := (rfl)
@[simp] theorem reportOnly_regs_pst (s t : State) : (reportOnly s t).regs.pst = s.regs.pst := (rfl)
@[simp] theorem reportOnly_regs_tim (s t : State) : (reportOnly s t).regs.tim = s.regs.tim := (rfl)
/-! ### A report changes nothing but the collector and the host interface (R235, R372, R382) -/
@[simp] theorem emit_part (k : EvKind) (src : Nat) (s : State) (a : Area) (p0 p1 p2 p3 : Nat) : (emit k src s a p0 p1 p2 p3).part = s.part := reportOnly_part _ _
@[simp] theorem emit_now (k : EvKind) (src : Nat) (s : State) (a : Area) (p0 p1 p2 p3 : Nat) : (emit k src s a p0 p1 p2 p3).now = s.now := reportOnly_now _ _
@[simp] theorem emit_vauxAt (k : EvKind) (src : Nat) (s : State) (a : Area) (p0 p1 p2 p3 : Nat) : (emit k src s a p0 p1 p2 p3).vauxAt = s.vauxAt := reportOnly_vauxAt _ _
@[simp] theorem emit_align (k : EvKind) (src : Nat) (s : State) (a : Area) (p0 p1 p2 p3 : Nat) : (emit k src s a p0 p1 p2 p3).align = s.align := reportOnly_align _ _
@[simp] theorem emit_pending (k : EvKind) (src : Nat) (s : State) (a : Area) (p0 p1 p2 p3 : Nat) : (emit k src s a p0 p1 p2 p3).pending = s.pending := reportOnly_pending _ _
@[simp] theorem emit_free (k : EvKind) (src : Nat) (s : State) (a : Area) (p0 p1 p2 p3 : Nat) : (emit k src s a p0 p1 p2 p3).free = s.free := reportOnly_free _ _
@[simp] theorem emit_latch (k : EvKind) (src : Nat) (s : State) (a : Area) (p0 p1 p2 p3 : Nat) : (emit k src s a p0 p1 p2 p3).latch = s.latch := reportOnly_latch _ _
@[simp] theorem emit_units (k : EvKind) (src : Nat) (s : State) (a : Area) (p0 p1 p2 p3 : Nat) : (emit k src s a p0 p1 p2 p3).units = s.units := reportOnly_units _ _
@[simp] theorem emit_cal (k : EvKind) (src : Nat) (s : State) (a : Area) (p0 p1 p2 p3 : Nat) : (emit k src s a p0 p1 p2 p3).cal = s.cal := reportOnly_cal _ _
@[simp] theorem emit_fab (k : EvKind) (src : Nat) (s : State) (a : Area) (p0 p1 p2 p3 : Nat) : (emit k src s a p0 p1 p2 p3).fab = s.fab := reportOnly_fab _ _
@[simp] theorem emit_past (k : EvKind) (src : Nat) (s : State) (a : Area) (p0 p1 p2 p3 : Nat) : (emit k src s a p0 p1 p2 p3).past = s.past := reportOnly_past _ _
@[simp] theorem emit_iso (k : EvKind) (src : Nat) (s : State) (a : Area) (p0 p1 p2 p3 : Nat) : (emit k src s a p0 p1 p2 p3).iso = s.iso := reportOnly_iso _ _
@[simp] theorem emit_spw (k : EvKind) (src : Nat) (s : State) (a : Area) (p0 p1 p2 p3 : Nat) : (emit k src s a p0 p1 p2 p3).spw = s.spw := reportOnly_spw _ _
@[simp] theorem emit_radio (k : EvKind) (src : Nat) (s : State) (a : Area) (p0 p1 p2 p3 : Nat) : (emit k src s a p0 p1 p2 p3).radio = s.radio := reportOnly_radio _ _
@[simp] theorem emit_pst (k : EvKind) (src : Nat) (s : State) (a : Area) (p0 p1 p2 p3 : Nat) : (emit k src s a p0 p1 p2 p3).pst = s.pst := reportOnly_pst _ _
@[simp] theorem emit_qlk (k : EvKind) (src : Nat) (s : State) (a : Area) (p0 p1 p2 p3 : Nat) : (emit k src s a p0 p1 p2 p3).qlk = s.qlk := reportOnly_qlk _ _
@[simp] theorem emit_tim (k : EvKind) (src : Nat) (s : State) (a : Area) (p0 p1 p2 p3 : Nat) : (emit k src s a p0 p1 p2 p3).tim = s.tim := reportOnly_tim _ _
@[simp] theorem emit_mea (k : EvKind) (src : Nat) (s : State) (a : Area) (p0 p1 p2 p3 : Nat) : (emit k src s a p0 p1 p2 p3).mea = s.mea := reportOnly_mea _ _
@[simp] theorem emit_cte (k : EvKind) (src : Nat) (s : State) (a : Area) (p0 p1 p2 p3 : Nat) : (emit k src s a p0 p1 p2 p3).cte = s.cte := reportOnly_cte _ _
@[simp] theorem emit_pwm (k : EvKind) (src : Nat) (s : State) (a : Area) (p0 p1 p2 p3 : Nat) : (emit k src s a p0 p1 p2 p3).pwm = s.pwm := reportOnly_pwm _ _
@[simp] theorem emit_rps (k : EvKind) (src : Nat) (s : State) (a : Area) (p0 p1 p2 p3 : Nat) : (emit k src s a p0 p1 p2 p3).rps = s.rps := reportOnly_rps _ _
@[simp] theorem emit_therm (k : EvKind) (src : Nat) (s : State) (a : Area) (p0 p1 p2 p3 : Nat) : (emit k src s a p0 p1 p2 p3).therm = s.therm := reportOnly_therm _ _
@[simp] theorem emit_doms (k : EvKind) (src : Nat) (s : State) (a : Area) (p0 p1 p2 p3 : Nat) : (emit k src s a p0 p1 p2 p3).doms = s.doms := reportOnly_doms _ _
@[simp] theorem emit_boot (k : EvKind) (src : Nat) (s : State) (a : Area) (p0 p1 p2 p3 : Nat) : (emit k src s a p0 p1 p2 p3).boot = s.boot := reportOnly_boot _ _
@[simp] theorem emit_regs_glb (k : EvKind) (src : Nat) (s : State) (a : Area) (p0 p1 p2 p3 : Nat) : (emit k src s a p0 p1 p2 p3).regs.glb = s.regs.glb := reportOnly_regs_glb _ _
@[simp] theorem emit_regs_pwr (k : EvKind) (src : Nat) (s : State) (a : Area) (p0 p1 p2 p3 : Nat) : (emit k src s a p0 p1 p2 p3).regs.pwr = s.regs.pwr := reportOnly_regs_pwr _ _
@[simp] theorem emit_regs_clk (k : EvKind) (src : Nat) (s : State) (a : Area) (p0 p1 p2 p3 : Nat) : (emit k src s a p0 p1 p2 p3).regs.clk = s.regs.clk := reportOnly_regs_clk _ _
@[simp] theorem emit_regs_tile (k : EvKind) (src : Nat) (s : State) (a : Area) (p0 p1 p2 p3 : Nat) : (emit k src s a p0 p1 p2 p3).regs.tile = s.regs.tile := reportOnly_regs_tile _ _
@[simp] theorem emit_regs_fab (k : EvKind) (src : Nat) (s : State) (a : Area) (p0 p1 p2 p3 : Nat) : (emit k src s a p0 p1 p2 p3).regs.fab = s.regs.fab := reportOnly_regs_fab _ _
@[simp] theorem emit_regs_iso (k : EvKind) (src : Nat) (s : State) (a : Area) (p0 p1 p2 p3 : Nat) : (emit k src s a p0 p1 p2 p3).regs.iso = s.regs.iso := reportOnly_regs_iso _ _
@[simp] theorem emit_regs_spw (k : EvKind) (src : Nat) (s : State) (a : Area) (p0 p1 p2 p3 : Nat) : (emit k src s a p0 p1 p2 p3).regs.spw = s.regs.spw := reportOnly_regs_spw _ _
@[simp] theorem emit_regs_qlk (k : EvKind) (src : Nat) (s : State) (a : Area) (p0 p1 p2 p3 : Nat) : (emit k src s a p0 p1 p2 p3).regs.qlk = s.regs.qlk := reportOnly_regs_qlk _ _
@[simp] theorem emit_regs_exp (k : EvKind) (src : Nat) (s : State) (a : Area) (p0 p1 p2 p3 : Nat) : (emit k src s a p0 p1 p2 p3).regs.exp = s.regs.exp := reportOnly_regs_exp _ _
@[simp] theorem emit_regs_mea (k : EvKind) (src : Nat) (s : State) (a : Area) (p0 p1 p2 p3 : Nat) : (emit k src s a p0 p1 p2 p3).regs.mea = s.regs.mea := reportOnly_regs_mea _ _
@[simp] theorem emit_regs_cte (k : EvKind) (src : Nat) (s : State) (a : Area) (p0 p1 p2 p3 : Nat) : (emit k src s a p0 p1 p2 p3).regs.cte = s.regs.cte := reportOnly_regs_cte _ _
@[simp] theorem emit_regs_pwm (k : EvKind) (src : Nat) (s : State) (a : Area) (p0 p1 p2 p3 : Nat) : (emit k src s a p0 p1 p2 p3).regs.pwm = s.regs.pwm := reportOnly_regs_pwm _ _
@[simp] theorem emit_regs_rps (k : EvKind) (src : Nat) (s : State) (a : Area) (p0 p1 p2 p3 : Nat) : (emit k src s a p0 p1 p2 p3).regs.rps = s.regs.rps := reportOnly_regs_rps _ _
@[simp] theorem emit_regs_pst (k : EvKind) (src : Nat) (s : State) (a : Area) (p0 p1 p2 p3 : Nat) : (emit k src s a p0 p1 p2 p3).regs.pst = s.regs.pst := reportOnly_regs_pst _ _
@[simp] theorem emit_regs_tim (k : EvKind) (src : Nat) (s : State) (a : Area) (p0 p1 p2 p3 : Nat) : (emit k src s a p0 p1 p2 p3).regs.tim = s.regs.tim := reportOnly_regs_tim _ _
/-! ### A completion changes nothing but the host interface (R217, R221) -/
theorem hifOnly_part (s t : State) : (hifOnly s t).part = s.part := (rfl)
theorem modRing_part (s : State) (k : RKind) (i : Nat) (g : Ring → Ring) : (s.modRing k i g).part = s.part := (rfl)
@[simp] theorem writeCpl_part (c : Nat) (e : CplEntry) (s : State) : (writeCpl c e s).part = s.part := by
  unfold writeCpl; dsimp only; split
  · exact modRing_part _ _ _ _
  · exact hifOnly_part _ _
theorem hifOnly_now (s t : State) : (hifOnly s t).now = s.now := (rfl)
theorem modRing_now (s : State) (k : RKind) (i : Nat) (g : Ring → Ring) : (s.modRing k i g).now = s.now := (rfl)
@[simp] theorem writeCpl_now (c : Nat) (e : CplEntry) (s : State) : (writeCpl c e s).now = s.now := by
  unfold writeCpl; dsimp only; split
  · exact modRing_now _ _ _ _
  · exact hifOnly_now _ _
theorem hifOnly_vauxAt (s t : State) : (hifOnly s t).vauxAt = s.vauxAt := (rfl)
theorem modRing_vauxAt (s : State) (k : RKind) (i : Nat) (g : Ring → Ring) : (s.modRing k i g).vauxAt = s.vauxAt := (rfl)
@[simp] theorem writeCpl_vauxAt (c : Nat) (e : CplEntry) (s : State) : (writeCpl c e s).vauxAt = s.vauxAt := by
  unfold writeCpl; dsimp only; split
  · exact modRing_vauxAt _ _ _ _
  · exact hifOnly_vauxAt _ _
theorem hifOnly_align (s t : State) : (hifOnly s t).align = s.align := (rfl)
theorem modRing_align (s : State) (k : RKind) (i : Nat) (g : Ring → Ring) : (s.modRing k i g).align = s.align := (rfl)
@[simp] theorem writeCpl_align (c : Nat) (e : CplEntry) (s : State) : (writeCpl c e s).align = s.align := by
  unfold writeCpl; dsimp only; split
  · exact modRing_align _ _ _ _
  · exact hifOnly_align _ _
theorem hifOnly_pending (s t : State) : (hifOnly s t).pending = s.pending := (rfl)
theorem modRing_pending (s : State) (k : RKind) (i : Nat) (g : Ring → Ring) : (s.modRing k i g).pending = s.pending := (rfl)
@[simp] theorem writeCpl_pending (c : Nat) (e : CplEntry) (s : State) : (writeCpl c e s).pending = s.pending := by
  unfold writeCpl; dsimp only; split
  · exact modRing_pending _ _ _ _
  · exact hifOnly_pending _ _
theorem hifOnly_free (s t : State) : (hifOnly s t).free = s.free := (rfl)
theorem modRing_free (s : State) (k : RKind) (i : Nat) (g : Ring → Ring) : (s.modRing k i g).free = s.free := (rfl)
@[simp] theorem writeCpl_free (c : Nat) (e : CplEntry) (s : State) : (writeCpl c e s).free = s.free := by
  unfold writeCpl; dsimp only; split
  · exact modRing_free _ _ _ _
  · exact hifOnly_free _ _
theorem hifOnly_latch (s t : State) : (hifOnly s t).latch = s.latch := (rfl)
theorem modRing_latch (s : State) (k : RKind) (i : Nat) (g : Ring → Ring) : (s.modRing k i g).latch = s.latch := (rfl)
@[simp] theorem writeCpl_latch (c : Nat) (e : CplEntry) (s : State) : (writeCpl c e s).latch = s.latch := by
  unfold writeCpl; dsimp only; split
  · exact modRing_latch _ _ _ _
  · exact hifOnly_latch _ _
theorem hifOnly_flt (s t : State) : (hifOnly s t).flt = s.flt := (rfl)
theorem modRing_flt (s : State) (k : RKind) (i : Nat) (g : Ring → Ring) : (s.modRing k i g).flt = s.flt := (rfl)
@[simp] theorem writeCpl_flt (c : Nat) (e : CplEntry) (s : State) : (writeCpl c e s).flt = s.flt := by
  unfold writeCpl; dsimp only; split
  · exact modRing_flt _ _ _ _
  · exact hifOnly_flt _ _
theorem hifOnly_units (s t : State) : (hifOnly s t).units = s.units := (rfl)
theorem modRing_units (s : State) (k : RKind) (i : Nat) (g : Ring → Ring) : (s.modRing k i g).units = s.units := (rfl)
@[simp] theorem writeCpl_units (c : Nat) (e : CplEntry) (s : State) : (writeCpl c e s).units = s.units := by
  unfold writeCpl; dsimp only; split
  · exact modRing_units _ _ _ _
  · exact hifOnly_units _ _
theorem hifOnly_cal (s t : State) : (hifOnly s t).cal = s.cal := (rfl)
theorem modRing_cal (s : State) (k : RKind) (i : Nat) (g : Ring → Ring) : (s.modRing k i g).cal = s.cal := (rfl)
@[simp] theorem writeCpl_cal (c : Nat) (e : CplEntry) (s : State) : (writeCpl c e s).cal = s.cal := by
  unfold writeCpl; dsimp only; split
  · exact modRing_cal _ _ _ _
  · exact hifOnly_cal _ _
theorem hifOnly_fab (s t : State) : (hifOnly s t).fab = s.fab := (rfl)
theorem modRing_fab (s : State) (k : RKind) (i : Nat) (g : Ring → Ring) : (s.modRing k i g).fab = s.fab := (rfl)
@[simp] theorem writeCpl_fab (c : Nat) (e : CplEntry) (s : State) : (writeCpl c e s).fab = s.fab := by
  unfold writeCpl; dsimp only; split
  · exact modRing_fab _ _ _ _
  · exact hifOnly_fab _ _
theorem hifOnly_past (s t : State) : (hifOnly s t).past = s.past := (rfl)
theorem modRing_past (s : State) (k : RKind) (i : Nat) (g : Ring → Ring) : (s.modRing k i g).past = s.past := (rfl)
@[simp] theorem writeCpl_past (c : Nat) (e : CplEntry) (s : State) : (writeCpl c e s).past = s.past := by
  unfold writeCpl; dsimp only; split
  · exact modRing_past _ _ _ _
  · exact hifOnly_past _ _
theorem hifOnly_iso (s t : State) : (hifOnly s t).iso = s.iso := (rfl)
theorem modRing_iso (s : State) (k : RKind) (i : Nat) (g : Ring → Ring) : (s.modRing k i g).iso = s.iso := (rfl)
@[simp] theorem writeCpl_iso (c : Nat) (e : CplEntry) (s : State) : (writeCpl c e s).iso = s.iso := by
  unfold writeCpl; dsimp only; split
  · exact modRing_iso _ _ _ _
  · exact hifOnly_iso _ _
theorem hifOnly_spw (s t : State) : (hifOnly s t).spw = s.spw := (rfl)
theorem modRing_spw (s : State) (k : RKind) (i : Nat) (g : Ring → Ring) : (s.modRing k i g).spw = s.spw := (rfl)
@[simp] theorem writeCpl_spw (c : Nat) (e : CplEntry) (s : State) : (writeCpl c e s).spw = s.spw := by
  unfold writeCpl; dsimp only; split
  · exact modRing_spw _ _ _ _
  · exact hifOnly_spw _ _
theorem hifOnly_radio (s t : State) : (hifOnly s t).radio = s.radio := (rfl)
theorem modRing_radio (s : State) (k : RKind) (i : Nat) (g : Ring → Ring) : (s.modRing k i g).radio = s.radio := (rfl)
@[simp] theorem writeCpl_radio (c : Nat) (e : CplEntry) (s : State) : (writeCpl c e s).radio = s.radio := by
  unfold writeCpl; dsimp only; split
  · exact modRing_radio _ _ _ _
  · exact hifOnly_radio _ _
theorem hifOnly_pst (s t : State) : (hifOnly s t).pst = s.pst := (rfl)
theorem modRing_pst (s : State) (k : RKind) (i : Nat) (g : Ring → Ring) : (s.modRing k i g).pst = s.pst := (rfl)
@[simp] theorem writeCpl_pst (c : Nat) (e : CplEntry) (s : State) : (writeCpl c e s).pst = s.pst := by
  unfold writeCpl; dsimp only; split
  · exact modRing_pst _ _ _ _
  · exact hifOnly_pst _ _
theorem hifOnly_qlk (s t : State) : (hifOnly s t).qlk = s.qlk := (rfl)
theorem modRing_qlk (s : State) (k : RKind) (i : Nat) (g : Ring → Ring) : (s.modRing k i g).qlk = s.qlk := (rfl)
@[simp] theorem writeCpl_qlk (c : Nat) (e : CplEntry) (s : State) : (writeCpl c e s).qlk = s.qlk := by
  unfold writeCpl; dsimp only; split
  · exact modRing_qlk _ _ _ _
  · exact hifOnly_qlk _ _
theorem hifOnly_tim (s t : State) : (hifOnly s t).tim = s.tim := (rfl)
theorem modRing_tim (s : State) (k : RKind) (i : Nat) (g : Ring → Ring) : (s.modRing k i g).tim = s.tim := (rfl)
@[simp] theorem writeCpl_tim (c : Nat) (e : CplEntry) (s : State) : (writeCpl c e s).tim = s.tim := by
  unfold writeCpl; dsimp only; split
  · exact modRing_tim _ _ _ _
  · exact hifOnly_tim _ _
theorem hifOnly_mea (s t : State) : (hifOnly s t).mea = s.mea := (rfl)
theorem modRing_mea (s : State) (k : RKind) (i : Nat) (g : Ring → Ring) : (s.modRing k i g).mea = s.mea := (rfl)
@[simp] theorem writeCpl_mea (c : Nat) (e : CplEntry) (s : State) : (writeCpl c e s).mea = s.mea := by
  unfold writeCpl; dsimp only; split
  · exact modRing_mea _ _ _ _
  · exact hifOnly_mea _ _
theorem hifOnly_cte (s t : State) : (hifOnly s t).cte = s.cte := (rfl)
theorem modRing_cte (s : State) (k : RKind) (i : Nat) (g : Ring → Ring) : (s.modRing k i g).cte = s.cte := (rfl)
@[simp] theorem writeCpl_cte (c : Nat) (e : CplEntry) (s : State) : (writeCpl c e s).cte = s.cte := by
  unfold writeCpl; dsimp only; split
  · exact modRing_cte _ _ _ _
  · exact hifOnly_cte _ _
theorem hifOnly_pwm (s t : State) : (hifOnly s t).pwm = s.pwm := (rfl)
theorem modRing_pwm (s : State) (k : RKind) (i : Nat) (g : Ring → Ring) : (s.modRing k i g).pwm = s.pwm := (rfl)
@[simp] theorem writeCpl_pwm (c : Nat) (e : CplEntry) (s : State) : (writeCpl c e s).pwm = s.pwm := by
  unfold writeCpl; dsimp only; split
  · exact modRing_pwm _ _ _ _
  · exact hifOnly_pwm _ _
theorem hifOnly_rps (s t : State) : (hifOnly s t).rps = s.rps := (rfl)
theorem modRing_rps (s : State) (k : RKind) (i : Nat) (g : Ring → Ring) : (s.modRing k i g).rps = s.rps := (rfl)
@[simp] theorem writeCpl_rps (c : Nat) (e : CplEntry) (s : State) : (writeCpl c e s).rps = s.rps := by
  unfold writeCpl; dsimp only; split
  · exact modRing_rps _ _ _ _
  · exact hifOnly_rps _ _
theorem hifOnly_therm (s t : State) : (hifOnly s t).therm = s.therm := (rfl)
theorem modRing_therm (s : State) (k : RKind) (i : Nat) (g : Ring → Ring) : (s.modRing k i g).therm = s.therm := (rfl)
@[simp] theorem writeCpl_therm (c : Nat) (e : CplEntry) (s : State) : (writeCpl c e s).therm = s.therm := by
  unfold writeCpl; dsimp only; split
  · exact modRing_therm _ _ _ _
  · exact hifOnly_therm _ _
theorem hifOnly_doms (s t : State) : (hifOnly s t).doms = s.doms := (rfl)
theorem modRing_doms (s : State) (k : RKind) (i : Nat) (g : Ring → Ring) : (s.modRing k i g).doms = s.doms := (rfl)
@[simp] theorem writeCpl_doms (c : Nat) (e : CplEntry) (s : State) : (writeCpl c e s).doms = s.doms := by
  unfold writeCpl; dsimp only; split
  · exact modRing_doms _ _ _ _
  · exact hifOnly_doms _ _
theorem hifOnly_boot (s t : State) : (hifOnly s t).boot = s.boot := (rfl)
theorem modRing_boot (s : State) (k : RKind) (i : Nat) (g : Ring → Ring) : (s.modRing k i g).boot = s.boot := (rfl)
@[simp] theorem writeCpl_boot (c : Nat) (e : CplEntry) (s : State) : (writeCpl c e s).boot = s.boot := by
  unfold writeCpl; dsimp only; split
  · exact modRing_boot _ _ _ _
  · exact hifOnly_boot _ _
theorem hifOnly_regs_glb (s t : State) : (hifOnly s t).regs.glb = s.regs.glb := (rfl)
@[simp] theorem writeCpl_regs_glb (c : Nat) (e : CplEntry) (s : State) : (writeCpl c e s).regs.glb = s.regs.glb := by
  unfold writeCpl; dsimp only; split
  · rfl
  · exact hifOnly_regs_glb _ _
theorem hifOnly_regs_pwr (s t : State) : (hifOnly s t).regs.pwr = s.regs.pwr := (rfl)
@[simp] theorem writeCpl_regs_pwr (c : Nat) (e : CplEntry) (s : State) : (writeCpl c e s).regs.pwr = s.regs.pwr := by
  unfold writeCpl; dsimp only; split
  · rfl
  · exact hifOnly_regs_pwr _ _
theorem hifOnly_regs_clk (s t : State) : (hifOnly s t).regs.clk = s.regs.clk := (rfl)
@[simp] theorem writeCpl_regs_clk (c : Nat) (e : CplEntry) (s : State) : (writeCpl c e s).regs.clk = s.regs.clk := by
  unfold writeCpl; dsimp only; split
  · rfl
  · exact hifOnly_regs_clk _ _
theorem hifOnly_regs_tile (s t : State) : (hifOnly s t).regs.tile = s.regs.tile := (rfl)
@[simp] theorem writeCpl_regs_tile (c : Nat) (e : CplEntry) (s : State) : (writeCpl c e s).regs.tile = s.regs.tile := by
  unfold writeCpl; dsimp only; split
  · rfl
  · exact hifOnly_regs_tile _ _
theorem hifOnly_regs_fab (s t : State) : (hifOnly s t).regs.fab = s.regs.fab := (rfl)
@[simp] theorem writeCpl_regs_fab (c : Nat) (e : CplEntry) (s : State) : (writeCpl c e s).regs.fab = s.regs.fab := by
  unfold writeCpl; dsimp only; split
  · rfl
  · exact hifOnly_regs_fab _ _
theorem hifOnly_regs_iso (s t : State) : (hifOnly s t).regs.iso = s.regs.iso := (rfl)
@[simp] theorem writeCpl_regs_iso (c : Nat) (e : CplEntry) (s : State) : (writeCpl c e s).regs.iso = s.regs.iso := by
  unfold writeCpl; dsimp only; split
  · rfl
  · exact hifOnly_regs_iso _ _
theorem hifOnly_regs_spw (s t : State) : (hifOnly s t).regs.spw = s.regs.spw := (rfl)
@[simp] theorem writeCpl_regs_spw (c : Nat) (e : CplEntry) (s : State) : (writeCpl c e s).regs.spw = s.regs.spw := by
  unfold writeCpl; dsimp only; split
  · rfl
  · exact hifOnly_regs_spw _ _
theorem hifOnly_regs_qlk (s t : State) : (hifOnly s t).regs.qlk = s.regs.qlk := (rfl)
@[simp] theorem writeCpl_regs_qlk (c : Nat) (e : CplEntry) (s : State) : (writeCpl c e s).regs.qlk = s.regs.qlk := by
  unfold writeCpl; dsimp only; split
  · rfl
  · exact hifOnly_regs_qlk _ _
theorem hifOnly_regs_exp (s t : State) : (hifOnly s t).regs.exp = s.regs.exp := (rfl)
@[simp] theorem writeCpl_regs_exp (c : Nat) (e : CplEntry) (s : State) : (writeCpl c e s).regs.exp = s.regs.exp := by
  unfold writeCpl; dsimp only; split
  · rfl
  · exact hifOnly_regs_exp _ _
theorem hifOnly_regs_mea (s t : State) : (hifOnly s t).regs.mea = s.regs.mea := (rfl)
@[simp] theorem writeCpl_regs_mea (c : Nat) (e : CplEntry) (s : State) : (writeCpl c e s).regs.mea = s.regs.mea := by
  unfold writeCpl; dsimp only; split
  · rfl
  · exact hifOnly_regs_mea _ _
theorem hifOnly_regs_cte (s t : State) : (hifOnly s t).regs.cte = s.regs.cte := (rfl)
@[simp] theorem writeCpl_regs_cte (c : Nat) (e : CplEntry) (s : State) : (writeCpl c e s).regs.cte = s.regs.cte := by
  unfold writeCpl; dsimp only; split
  · rfl
  · exact hifOnly_regs_cte _ _
theorem hifOnly_regs_pwm (s t : State) : (hifOnly s t).regs.pwm = s.regs.pwm := (rfl)
@[simp] theorem writeCpl_regs_pwm (c : Nat) (e : CplEntry) (s : State) : (writeCpl c e s).regs.pwm = s.regs.pwm := by
  unfold writeCpl; dsimp only; split
  · rfl
  · exact hifOnly_regs_pwm _ _
theorem hifOnly_regs_rps (s t : State) : (hifOnly s t).regs.rps = s.regs.rps := (rfl)
@[simp] theorem writeCpl_regs_rps (c : Nat) (e : CplEntry) (s : State) : (writeCpl c e s).regs.rps = s.regs.rps := by
  unfold writeCpl; dsimp only; split
  · rfl
  · exact hifOnly_regs_rps _ _
theorem hifOnly_regs_flt (s t : State) : (hifOnly s t).regs.flt = s.regs.flt := (rfl)
@[simp] theorem writeCpl_regs_flt (c : Nat) (e : CplEntry) (s : State) : (writeCpl c e s).regs.flt = s.regs.flt := by
  unfold writeCpl; dsimp only; split
  · rfl
  · exact hifOnly_regs_flt _ _
theorem hifOnly_regs_pst (s t : State) : (hifOnly s t).regs.pst = s.regs.pst := (rfl)
@[simp] theorem writeCpl_regs_pst (c : Nat) (e : CplEntry) (s : State) : (writeCpl c e s).regs.pst = s.regs.pst := by
  unfold writeCpl; dsimp only; split
  · rfl
  · exact hifOnly_regs_pst _ _
theorem hifOnly_regs_tim (s t : State) : (hifOnly s t).regs.tim = s.regs.tim := (rfl)
@[simp] theorem writeCpl_regs_tim (c : Nat) (e : CplEntry) (s : State) : (writeCpl c e s).regs.tim = s.regs.tim := by
  unfold writeCpl; dsimp only; split
  · rfl
  · exact hifOnly_regs_tim _ _
@[simp] theorem completeCmd_part (r tag st : Nat) (s : State) (x : Nat) (h : Option Nat) : (completeCmd r tag st s x h).part = s.part := writeCpl_part _ _ _
@[simp] theorem completeCmd_now (r tag st : Nat) (s : State) (x : Nat) (h : Option Nat) : (completeCmd r tag st s x h).now = s.now := writeCpl_now _ _ _
@[simp] theorem completeCmd_vauxAt (r tag st : Nat) (s : State) (x : Nat) (h : Option Nat) : (completeCmd r tag st s x h).vauxAt = s.vauxAt := writeCpl_vauxAt _ _ _
@[simp] theorem completeCmd_align (r tag st : Nat) (s : State) (x : Nat) (h : Option Nat) : (completeCmd r tag st s x h).align = s.align := writeCpl_align _ _ _
@[simp] theorem completeCmd_pending (r tag st : Nat) (s : State) (x : Nat) (h : Option Nat) : (completeCmd r tag st s x h).pending = s.pending := writeCpl_pending _ _ _
@[simp] theorem completeCmd_free (r tag st : Nat) (s : State) (x : Nat) (h : Option Nat) : (completeCmd r tag st s x h).free = s.free := writeCpl_free _ _ _
@[simp] theorem completeCmd_latch (r tag st : Nat) (s : State) (x : Nat) (h : Option Nat) : (completeCmd r tag st s x h).latch = s.latch := writeCpl_latch _ _ _
@[simp] theorem completeCmd_flt (r tag st : Nat) (s : State) (x : Nat) (h : Option Nat) : (completeCmd r tag st s x h).flt = s.flt := writeCpl_flt _ _ _
@[simp] theorem completeCmd_units (r tag st : Nat) (s : State) (x : Nat) (h : Option Nat) : (completeCmd r tag st s x h).units = s.units := writeCpl_units _ _ _
@[simp] theorem completeCmd_cal (r tag st : Nat) (s : State) (x : Nat) (h : Option Nat) : (completeCmd r tag st s x h).cal = s.cal := writeCpl_cal _ _ _
@[simp] theorem completeCmd_fab (r tag st : Nat) (s : State) (x : Nat) (h : Option Nat) : (completeCmd r tag st s x h).fab = s.fab := writeCpl_fab _ _ _
@[simp] theorem completeCmd_past (r tag st : Nat) (s : State) (x : Nat) (h : Option Nat) : (completeCmd r tag st s x h).past = s.past := writeCpl_past _ _ _
@[simp] theorem completeCmd_iso (r tag st : Nat) (s : State) (x : Nat) (h : Option Nat) : (completeCmd r tag st s x h).iso = s.iso := writeCpl_iso _ _ _
@[simp] theorem completeCmd_spw (r tag st : Nat) (s : State) (x : Nat) (h : Option Nat) : (completeCmd r tag st s x h).spw = s.spw := writeCpl_spw _ _ _
@[simp] theorem completeCmd_radio (r tag st : Nat) (s : State) (x : Nat) (h : Option Nat) : (completeCmd r tag st s x h).radio = s.radio := writeCpl_radio _ _ _
@[simp] theorem completeCmd_pst (r tag st : Nat) (s : State) (x : Nat) (h : Option Nat) : (completeCmd r tag st s x h).pst = s.pst := writeCpl_pst _ _ _
@[simp] theorem completeCmd_qlk (r tag st : Nat) (s : State) (x : Nat) (h : Option Nat) : (completeCmd r tag st s x h).qlk = s.qlk := writeCpl_qlk _ _ _
@[simp] theorem completeCmd_tim (r tag st : Nat) (s : State) (x : Nat) (h : Option Nat) : (completeCmd r tag st s x h).tim = s.tim := writeCpl_tim _ _ _
@[simp] theorem completeCmd_mea (r tag st : Nat) (s : State) (x : Nat) (h : Option Nat) : (completeCmd r tag st s x h).mea = s.mea := writeCpl_mea _ _ _
@[simp] theorem completeCmd_cte (r tag st : Nat) (s : State) (x : Nat) (h : Option Nat) : (completeCmd r tag st s x h).cte = s.cte := writeCpl_cte _ _ _
@[simp] theorem completeCmd_pwm (r tag st : Nat) (s : State) (x : Nat) (h : Option Nat) : (completeCmd r tag st s x h).pwm = s.pwm := writeCpl_pwm _ _ _
@[simp] theorem completeCmd_rps (r tag st : Nat) (s : State) (x : Nat) (h : Option Nat) : (completeCmd r tag st s x h).rps = s.rps := writeCpl_rps _ _ _
@[simp] theorem completeCmd_therm (r tag st : Nat) (s : State) (x : Nat) (h : Option Nat) : (completeCmd r tag st s x h).therm = s.therm := writeCpl_therm _ _ _
@[simp] theorem completeCmd_doms (r tag st : Nat) (s : State) (x : Nat) (h : Option Nat) : (completeCmd r tag st s x h).doms = s.doms := writeCpl_doms _ _ _
@[simp] theorem completeCmd_boot (r tag st : Nat) (s : State) (x : Nat) (h : Option Nat) : (completeCmd r tag st s x h).boot = s.boot := writeCpl_boot _ _ _
@[simp] theorem completeCmd_regs_glb (r tag st : Nat) (s : State) (x : Nat) (h : Option Nat) : (completeCmd r tag st s x h).regs.glb = s.regs.glb := writeCpl_regs_glb _ _ _
@[simp] theorem completeCmd_regs_pwr (r tag st : Nat) (s : State) (x : Nat) (h : Option Nat) : (completeCmd r tag st s x h).regs.pwr = s.regs.pwr := writeCpl_regs_pwr _ _ _
@[simp] theorem completeCmd_regs_clk (r tag st : Nat) (s : State) (x : Nat) (h : Option Nat) : (completeCmd r tag st s x h).regs.clk = s.regs.clk := writeCpl_regs_clk _ _ _
@[simp] theorem completeCmd_regs_tile (r tag st : Nat) (s : State) (x : Nat) (h : Option Nat) : (completeCmd r tag st s x h).regs.tile = s.regs.tile := writeCpl_regs_tile _ _ _
@[simp] theorem completeCmd_regs_fab (r tag st : Nat) (s : State) (x : Nat) (h : Option Nat) : (completeCmd r tag st s x h).regs.fab = s.regs.fab := writeCpl_regs_fab _ _ _
@[simp] theorem completeCmd_regs_iso (r tag st : Nat) (s : State) (x : Nat) (h : Option Nat) : (completeCmd r tag st s x h).regs.iso = s.regs.iso := writeCpl_regs_iso _ _ _
@[simp] theorem completeCmd_regs_spw (r tag st : Nat) (s : State) (x : Nat) (h : Option Nat) : (completeCmd r tag st s x h).regs.spw = s.regs.spw := writeCpl_regs_spw _ _ _
@[simp] theorem completeCmd_regs_qlk (r tag st : Nat) (s : State) (x : Nat) (h : Option Nat) : (completeCmd r tag st s x h).regs.qlk = s.regs.qlk := writeCpl_regs_qlk _ _ _
@[simp] theorem completeCmd_regs_exp (r tag st : Nat) (s : State) (x : Nat) (h : Option Nat) : (completeCmd r tag st s x h).regs.exp = s.regs.exp := writeCpl_regs_exp _ _ _
@[simp] theorem completeCmd_regs_mea (r tag st : Nat) (s : State) (x : Nat) (h : Option Nat) : (completeCmd r tag st s x h).regs.mea = s.regs.mea := writeCpl_regs_mea _ _ _
@[simp] theorem completeCmd_regs_cte (r tag st : Nat) (s : State) (x : Nat) (h : Option Nat) : (completeCmd r tag st s x h).regs.cte = s.regs.cte := writeCpl_regs_cte _ _ _
@[simp] theorem completeCmd_regs_pwm (r tag st : Nat) (s : State) (x : Nat) (h : Option Nat) : (completeCmd r tag st s x h).regs.pwm = s.regs.pwm := writeCpl_regs_pwm _ _ _
@[simp] theorem completeCmd_regs_rps (r tag st : Nat) (s : State) (x : Nat) (h : Option Nat) : (completeCmd r tag st s x h).regs.rps = s.regs.rps := writeCpl_regs_rps _ _ _
@[simp] theorem completeCmd_regs_flt (r tag st : Nat) (s : State) (x : Nat) (h : Option Nat) : (completeCmd r tag st s x h).regs.flt = s.regs.flt := writeCpl_regs_flt _ _ _
@[simp] theorem completeCmd_regs_pst (r tag st : Nat) (s : State) (x : Nat) (h : Option Nat) : (completeCmd r tag st s x h).regs.pst = s.regs.pst := writeCpl_regs_pst _ _ _
@[simp] theorem completeCmd_regs_tim (r tag st : Nat) (s : State) (x : Nat) (h : Option Nat) : (completeCmd r tag st s x h).regs.tim = s.regs.tim := writeCpl_regs_tim _ _ _
@[simp] theorem completeDefer_part (d : Defer) (st : Nat) (s : State) (x : Nat) : (completeDefer d st s x).part = s.part := writeCpl_part _ _ _
@[simp] theorem completeDefer_now (d : Defer) (st : Nat) (s : State) (x : Nat) : (completeDefer d st s x).now = s.now := writeCpl_now _ _ _
@[simp] theorem completeDefer_vauxAt (d : Defer) (st : Nat) (s : State) (x : Nat) : (completeDefer d st s x).vauxAt = s.vauxAt := writeCpl_vauxAt _ _ _
@[simp] theorem completeDefer_align (d : Defer) (st : Nat) (s : State) (x : Nat) : (completeDefer d st s x).align = s.align := writeCpl_align _ _ _
@[simp] theorem completeDefer_pending (d : Defer) (st : Nat) (s : State) (x : Nat) : (completeDefer d st s x).pending = s.pending := writeCpl_pending _ _ _
@[simp] theorem completeDefer_free (d : Defer) (st : Nat) (s : State) (x : Nat) : (completeDefer d st s x).free = s.free := writeCpl_free _ _ _
@[simp] theorem completeDefer_latch (d : Defer) (st : Nat) (s : State) (x : Nat) : (completeDefer d st s x).latch = s.latch := writeCpl_latch _ _ _
@[simp] theorem completeDefer_flt (d : Defer) (st : Nat) (s : State) (x : Nat) : (completeDefer d st s x).flt = s.flt := writeCpl_flt _ _ _
@[simp] theorem completeDefer_units (d : Defer) (st : Nat) (s : State) (x : Nat) : (completeDefer d st s x).units = s.units := writeCpl_units _ _ _
@[simp] theorem completeDefer_cal (d : Defer) (st : Nat) (s : State) (x : Nat) : (completeDefer d st s x).cal = s.cal := writeCpl_cal _ _ _
@[simp] theorem completeDefer_fab (d : Defer) (st : Nat) (s : State) (x : Nat) : (completeDefer d st s x).fab = s.fab := writeCpl_fab _ _ _
@[simp] theorem completeDefer_past (d : Defer) (st : Nat) (s : State) (x : Nat) : (completeDefer d st s x).past = s.past := writeCpl_past _ _ _
@[simp] theorem completeDefer_iso (d : Defer) (st : Nat) (s : State) (x : Nat) : (completeDefer d st s x).iso = s.iso := writeCpl_iso _ _ _
@[simp] theorem completeDefer_spw (d : Defer) (st : Nat) (s : State) (x : Nat) : (completeDefer d st s x).spw = s.spw := writeCpl_spw _ _ _
@[simp] theorem completeDefer_radio (d : Defer) (st : Nat) (s : State) (x : Nat) : (completeDefer d st s x).radio = s.radio := writeCpl_radio _ _ _
@[simp] theorem completeDefer_pst (d : Defer) (st : Nat) (s : State) (x : Nat) : (completeDefer d st s x).pst = s.pst := writeCpl_pst _ _ _
@[simp] theorem completeDefer_qlk (d : Defer) (st : Nat) (s : State) (x : Nat) : (completeDefer d st s x).qlk = s.qlk := writeCpl_qlk _ _ _
@[simp] theorem completeDefer_tim (d : Defer) (st : Nat) (s : State) (x : Nat) : (completeDefer d st s x).tim = s.tim := writeCpl_tim _ _ _
@[simp] theorem completeDefer_mea (d : Defer) (st : Nat) (s : State) (x : Nat) : (completeDefer d st s x).mea = s.mea := writeCpl_mea _ _ _
@[simp] theorem completeDefer_cte (d : Defer) (st : Nat) (s : State) (x : Nat) : (completeDefer d st s x).cte = s.cte := writeCpl_cte _ _ _
@[simp] theorem completeDefer_pwm (d : Defer) (st : Nat) (s : State) (x : Nat) : (completeDefer d st s x).pwm = s.pwm := writeCpl_pwm _ _ _
@[simp] theorem completeDefer_rps (d : Defer) (st : Nat) (s : State) (x : Nat) : (completeDefer d st s x).rps = s.rps := writeCpl_rps _ _ _
@[simp] theorem completeDefer_therm (d : Defer) (st : Nat) (s : State) (x : Nat) : (completeDefer d st s x).therm = s.therm := writeCpl_therm _ _ _
@[simp] theorem completeDefer_doms (d : Defer) (st : Nat) (s : State) (x : Nat) : (completeDefer d st s x).doms = s.doms := writeCpl_doms _ _ _
@[simp] theorem completeDefer_boot (d : Defer) (st : Nat) (s : State) (x : Nat) : (completeDefer d st s x).boot = s.boot := writeCpl_boot _ _ _
@[simp] theorem completeDefer_regs_glb (d : Defer) (st : Nat) (s : State) (x : Nat) : (completeDefer d st s x).regs.glb = s.regs.glb := writeCpl_regs_glb _ _ _
@[simp] theorem completeDefer_regs_pwr (d : Defer) (st : Nat) (s : State) (x : Nat) : (completeDefer d st s x).regs.pwr = s.regs.pwr := writeCpl_regs_pwr _ _ _
@[simp] theorem completeDefer_regs_clk (d : Defer) (st : Nat) (s : State) (x : Nat) : (completeDefer d st s x).regs.clk = s.regs.clk := writeCpl_regs_clk _ _ _
@[simp] theorem completeDefer_regs_tile (d : Defer) (st : Nat) (s : State) (x : Nat) : (completeDefer d st s x).regs.tile = s.regs.tile := writeCpl_regs_tile _ _ _
@[simp] theorem completeDefer_regs_fab (d : Defer) (st : Nat) (s : State) (x : Nat) : (completeDefer d st s x).regs.fab = s.regs.fab := writeCpl_regs_fab _ _ _
@[simp] theorem completeDefer_regs_iso (d : Defer) (st : Nat) (s : State) (x : Nat) : (completeDefer d st s x).regs.iso = s.regs.iso := writeCpl_regs_iso _ _ _
@[simp] theorem completeDefer_regs_spw (d : Defer) (st : Nat) (s : State) (x : Nat) : (completeDefer d st s x).regs.spw = s.regs.spw := writeCpl_regs_spw _ _ _
@[simp] theorem completeDefer_regs_qlk (d : Defer) (st : Nat) (s : State) (x : Nat) : (completeDefer d st s x).regs.qlk = s.regs.qlk := writeCpl_regs_qlk _ _ _
@[simp] theorem completeDefer_regs_exp (d : Defer) (st : Nat) (s : State) (x : Nat) : (completeDefer d st s x).regs.exp = s.regs.exp := writeCpl_regs_exp _ _ _
@[simp] theorem completeDefer_regs_mea (d : Defer) (st : Nat) (s : State) (x : Nat) : (completeDefer d st s x).regs.mea = s.regs.mea := writeCpl_regs_mea _ _ _
@[simp] theorem completeDefer_regs_cte (d : Defer) (st : Nat) (s : State) (x : Nat) : (completeDefer d st s x).regs.cte = s.regs.cte := writeCpl_regs_cte _ _ _
@[simp] theorem completeDefer_regs_pwm (d : Defer) (st : Nat) (s : State) (x : Nat) : (completeDefer d st s x).regs.pwm = s.regs.pwm := writeCpl_regs_pwm _ _ _
@[simp] theorem completeDefer_regs_rps (d : Defer) (st : Nat) (s : State) (x : Nat) : (completeDefer d st s x).regs.rps = s.regs.rps := writeCpl_regs_rps _ _ _
@[simp] theorem completeDefer_regs_flt (d : Defer) (st : Nat) (s : State) (x : Nat) : (completeDefer d st s x).regs.flt = s.regs.flt := writeCpl_regs_flt _ _ _
@[simp] theorem completeDefer_regs_pst (d : Defer) (st : Nat) (s : State) (x : Nat) : (completeDefer d st s x).regs.pst = s.regs.pst := writeCpl_regs_pst _ _ _
@[simp] theorem completeDefer_regs_tim (d : Defer) (st : Nat) (s : State) (x : Nat) : (completeDefer d st s x).regs.tim = s.regs.tim := writeCpl_regs_tim _ _ _
/-! ### What settling leaves alone -/
theorem keepSettled_part (s t : State) : (keepSettled s t).part = s.part := (rfl)
theorem keepSettled_now (s t : State) : (keepSettled s t).now = s.now := (rfl)
theorem keepSettled_vauxAt (s t : State) : (keepSettled s t).vauxAt = s.vauxAt := (rfl)
theorem keepSettled_pending (s t : State) : (keepSettled s t).pending = s.pending := (rfl)
theorem keepSettled_free (s t : State) : (keepSettled s t).free = s.free := (rfl)
theorem keepSettled_latch (s t : State) : (keepSettled s t).latch = s.latch := (rfl)
theorem keepSettled_cal (s t : State) : (keepSettled s t).cal = s.cal := (rfl)
theorem keepSettled_pst (s t : State) : (keepSettled s t).pst = s.pst := (rfl)
theorem keepSettled_tim (s t : State) : (keepSettled s t).tim = s.tim := (rfl)
theorem keepSettled_mea (s t : State) : (keepSettled s t).mea = s.mea := (rfl)
theorem keepSettled_pwm (s t : State) : (keepSettled s t).pwm = s.pwm := (rfl)
theorem keepSettled_rps (s t : State) : (keepSettled s t).rps = s.rps := (rfl)
theorem keepSettled_therm (s t : State) : (keepSettled s t).therm = s.therm := (rfl)
theorem keepSettled_regs_iso (s t : State) : (keepSettled s t).regs.iso = s.regs.iso := (rfl)
theorem keepSettled_regs_exp (s t : State) : (keepSettled s t).regs.exp = s.regs.exp := (rfl)
theorem keepSettled_regs_mea (s t : State) : (keepSettled s t).regs.mea = s.regs.mea := (rfl)
theorem keepSettled_regs_pwm (s t : State) : (keepSettled s t).regs.pwm = s.regs.pwm := (rfl)
theorem keepSettled_regs_rps (s t : State) : (keepSettled s t).regs.rps = s.regs.rps := (rfl)
theorem keepSettled_regs_pst (s t : State) : (keepSettled s t).regs.pst = s.regs.pst := (rfl)
theorem keepPower_part (s t : State) : (keepPower s t).part = s.part := (rfl)
theorem keepPower_now (s t : State) : (keepPower s t).now = s.now := (rfl)
theorem keepPower_vauxAt (s t : State) : (keepPower s t).vauxAt = s.vauxAt := (rfl)
theorem keepPower_pending (s t : State) : (keepPower s t).pending = s.pending := (rfl)
theorem keepPower_free (s t : State) : (keepPower s t).free = s.free := (rfl)
theorem keepPower_latch (s t : State) : (keepPower s t).latch = s.latch := (rfl)
theorem keepPower_cal (s t : State) : (keepPower s t).cal = s.cal := (rfl)
theorem keepPower_pst (s t : State) : (keepPower s t).pst = s.pst := (rfl)
theorem keepPower_tim (s t : State) : (keepPower s t).tim = s.tim := (rfl)
theorem keepPower_mea (s t : State) : (keepPower s t).mea = s.mea := (rfl)
theorem keepPower_therm (s t : State) : (keepPower s t).therm = s.therm := (rfl)
theorem keepPower_regs_iso (s t : State) : (keepPower s t).regs.iso = s.regs.iso := (rfl)
theorem keepPower_regs_exp (s t : State) : (keepPower s t).regs.exp = s.regs.exp := (rfl)
theorem keepPower_regs_mea (s t : State) : (keepPower s t).regs.mea = s.regs.mea := (rfl)
theorem keepPower_regs_pst (s t : State) : (keepPower s t).regs.pst = s.regs.pst := (rfl)
@[simp] theorem settled_part (s : State) : (settled s).part = s.part := keepSettled_part _ _
@[simp] theorem settled_now (s : State) : (settled s).now = s.now := keepSettled_now _ _
@[simp] theorem settled_vauxAt (s : State) : (settled s).vauxAt = s.vauxAt := keepSettled_vauxAt _ _
@[simp] theorem settled_pending (s : State) : (settled s).pending = s.pending := keepSettled_pending _ _
@[simp] theorem settled_free (s : State) : (settled s).free = s.free := keepSettled_free _ _
@[simp] theorem settled_latch (s : State) : (settled s).latch = s.latch := keepSettled_latch _ _
@[simp] theorem settled_cal (s : State) : (settled s).cal = s.cal := keepSettled_cal _ _
@[simp] theorem settled_pst (s : State) : (settled s).pst = s.pst := keepSettled_pst _ _
@[simp] theorem settled_tim (s : State) : (settled s).tim = s.tim := keepSettled_tim _ _
@[simp] theorem settled_mea (s : State) : (settled s).mea = s.mea := keepSettled_mea _ _
@[simp] theorem settled_pwm (s : State) : (settled s).pwm = s.pwm := keepSettled_pwm _ _
@[simp] theorem settled_rps (s : State) : (settled s).rps = s.rps := keepSettled_rps _ _
@[simp] theorem settled_therm (s : State) : (settled s).therm = s.therm := keepSettled_therm _ _
@[simp] theorem settled_regs_iso (s : State) : (settled s).regs.iso = s.regs.iso := keepSettled_regs_iso _ _
@[simp] theorem settled_regs_exp (s : State) : (settled s).regs.exp = s.regs.exp := keepSettled_regs_exp _ _
@[simp] theorem settled_regs_mea (s : State) : (settled s).regs.mea = s.regs.mea := keepSettled_regs_mea _ _
@[simp] theorem settled_regs_pwm (s : State) : (settled s).regs.pwm = s.regs.pwm := keepSettled_regs_pwm _ _
@[simp] theorem settled_regs_rps (s : State) : (settled s).regs.rps = s.regs.rps := keepSettled_regs_rps _ _
@[simp] theorem settled_regs_pst (s : State) : (settled s).regs.pst = s.regs.pst := keepSettled_regs_pst _ _
@[simp] theorem powered_part (s : State) : (powered s).part = s.part :=
  (keepSettled_part _ _).trans (keepPower_part _ _)
@[simp] theorem powered_now (s : State) : (powered s).now = s.now :=
  (keepSettled_now _ _).trans (keepPower_now _ _)
@[simp] theorem powered_vauxAt (s : State) : (powered s).vauxAt = s.vauxAt :=
  (keepSettled_vauxAt _ _).trans (keepPower_vauxAt _ _)
@[simp] theorem powered_pending (s : State) : (powered s).pending = s.pending :=
  (keepSettled_pending _ _).trans (keepPower_pending _ _)
@[simp] theorem powered_free (s : State) : (powered s).free = s.free :=
  (keepSettled_free _ _).trans (keepPower_free _ _)
@[simp] theorem powered_latch (s : State) : (powered s).latch = s.latch :=
  (keepSettled_latch _ _).trans (keepPower_latch _ _)
@[simp] theorem powered_cal (s : State) : (powered s).cal = s.cal :=
  (keepSettled_cal _ _).trans (keepPower_cal _ _)
@[simp] theorem powered_pst (s : State) : (powered s).pst = s.pst :=
  (keepSettled_pst _ _).trans (keepPower_pst _ _)
@[simp] theorem powered_tim (s : State) : (powered s).tim = s.tim :=
  (keepSettled_tim _ _).trans (keepPower_tim _ _)
@[simp] theorem powered_mea (s : State) : (powered s).mea = s.mea :=
  (keepSettled_mea _ _).trans (keepPower_mea _ _)
@[simp] theorem powered_therm (s : State) : (powered s).therm = s.therm :=
  (keepSettled_therm _ _).trans (keepPower_therm _ _)
@[simp] theorem powered_regs_iso (s : State) : (powered s).regs.iso = s.regs.iso :=
  (keepSettled_regs_iso _ _).trans (keepPower_regs_iso _ _)
@[simp] theorem powered_regs_exp (s : State) : (powered s).regs.exp = s.regs.exp :=
  (keepSettled_regs_exp _ _).trans (keepPower_regs_exp _ _)
@[simp] theorem powered_regs_mea (s : State) : (powered s).regs.mea = s.regs.mea :=
  (keepSettled_regs_mea _ _).trans (keepPower_regs_mea _ _)
@[simp] theorem powered_regs_pst (s : State) : (powered s).regs.pst = s.regs.pst :=
  (keepSettled_regs_pst _ _).trans (keepPower_regs_pst _ _)
/-! ### The frame of every command -/
@[simp] theorem framed_part (g : Grant) (s t : State) : (framed g s t).part = s.part := (rfl)
@[simp] theorem framed_pending (g : Grant) (s t : State) : (framed g s t).pending = s.pending := (rfl)
@[simp] theorem framed_now (g : Grant) (s t : State) : (framed g s t).now = max s.now t.now := (rfl)
@[simp] theorem framed_latch (g : Grant) (s t : State) : (framed g s t).latch = (t.latch || (s.latch && !g.latch)) := (rfl)
@[simp] theorem framed_regs (g : Grant) (s t : State) : (framed g s t).regs = tidyRegs s.part t.regs := (rfl)
@[simp] theorem framed_dugout (g : Grant) (s t : State) :
    (framed g s t).flt.dugout = (t.flt.dugout || (s.flt.dugout && !g.dugout)) := (rfl)
@[simp] theorem framed_locked (g : Grant) (s t : State) :
    (framed g s t).pst.locked = if g.locks then t.pst.locked else s.pst.locked := (rfl)
@[simp] theorem framed_vauxAt (g : Grant) (s t : State) : (framed g s t).vauxAt = t.vauxAt := (rfl)
@[simp] theorem framed_align (g : Grant) (s t : State) : (framed g s t).align = t.align := (rfl)
@[simp] theorem framed_free (g : Grant) (s t : State) : (framed g s t).free = t.free := (rfl)
@[simp] theorem framed_hif (g : Grant) (s t : State) : (framed g s t).hif = t.hif := (rfl)
@[simp] theorem framed_units (g : Grant) (s t : State) : (framed g s t).units = t.units := (rfl)
@[simp] theorem framed_cal (g : Grant) (s t : State) : (framed g s t).cal = t.cal := (rfl)
@[simp] theorem framed_fab (g : Grant) (s t : State) : (framed g s t).fab = t.fab := (rfl)
@[simp] theorem framed_past (g : Grant) (s t : State) : (framed g s t).past = t.past := (rfl)
@[simp] theorem framed_iso (g : Grant) (s t : State) : (framed g s t).iso = t.iso := (rfl)
@[simp] theorem framed_spw (g : Grant) (s t : State) : (framed g s t).spw = t.spw := (rfl)
@[simp] theorem framed_radio (g : Grant) (s t : State) : (framed g s t).radio = t.radio := (rfl)
@[simp] theorem framed_qlk (g : Grant) (s t : State) : (framed g s t).qlk = t.qlk := (rfl)
@[simp] theorem framed_tim (g : Grant) (s t : State) : (framed g s t).tim = t.tim := (rfl)
@[simp] theorem framed_mea (g : Grant) (s t : State) : (framed g s t).mea = t.mea := (rfl)
@[simp] theorem framed_cte (g : Grant) (s t : State) : (framed g s t).cte = t.cte := (rfl)
@[simp] theorem framed_pwm (g : Grant) (s t : State) : (framed g s t).pwm = t.pwm := (rfl)
@[simp] theorem framed_rps (g : Grant) (s t : State) : (framed g s t).rps = t.rps := (rfl)
@[simp] theorem framed_therm (g : Grant) (s t : State) : (framed g s t).therm = t.therm := (rfl)
@[simp] theorem framed_doms (g : Grant) (s t : State) : (framed g s t).doms = t.doms := (rfl)
@[simp] theorem framed_boot (g : Grant) (s t : State) : (framed g s t).boot = t.boot := (rfl)

/-! ### Folds over lists of units -/

/-- A fold keeps what every step of it keeps. -/
theorem forAll_keeps {σ α β : Type} (g : σ → β) (l : List α) (f : α → σ → σ) (s : σ) (h : ∀ a t, g (f a t) = g t) :
    g (forAll l f s) = g s := by
  unfold forAll
  induction l generalizing s with
  | nil => rfl
  | cons a l ih => simp only [List.foldl]; rw [ih, h]

/-- A property holds after a fold when it holds before and every step keeps it. -/
theorem forAll_inv {σ α : Type} (P : σ → Prop) (l : List α) (f : α → σ → σ) (s : σ) (h0 : P s)
    (h : ∀ a ∈ l, ∀ t, P t → P (f a t)) : P (forAll l f s) := by
  unfold forAll
  induction l generalizing s with
  | nil => exact h0
  | cons a l ih =>
    exact ih _ (h a (by simp) s h0) (fun b hb => h b (by simp [hb]))

@[simp] theorem forAll_nil {σ α : Type} (f : α → σ → σ) (s : σ) : forAll [] f s = s := rfl
@[simp] theorem forAll_cons {σ α : Type} (a : α) (l : List α) (f : α → σ → σ) (s : σ) :
    forAll (a :: l) f s = forAll l f (f a s) := rfl

end Sys2Proof.Machine
end

