-- ==== Sys2Proof/Laws/Exec.lean ====
section
/-!
SUPPORT. Sys2Proof/Laws/Exec.lean: what each shape of a command's meaning answers, and that every command keeps the frame.
-/
namespace Sys2Proof.Machine
open Sys2Proof

/-- A dwell that takes no late samples is as it was. -/
@[simp] theorem Dwell.withLate_none (d : Dwell) : d.withLate 0 [] = d := rfl

/-! ### The shapes of a meaning -/

theorem row_next {s : State} (f : State → State) (h : s.awake) : row f s = .next (framed {} s (settled (f s))) := by
  unfold row act; rw [show s.boot.dark = false from h]; rfl

theorem rowP_next {s : State} (f : State → State) (h : s.awake) : rowP f s = .next (framed {} s (powered (f s))) := by
  unfold rowP act; rw [show s.boot.dark = false from h]; rfl

theorem rowLock_next {s : State} (f : State → State) (h : s.awake) :
    rowLock f s = .next (framed { locks := true } s (settled (f s))) := by
  unfold rowLock act; rw [show s.boot.dark = false from h]; rfl

theorem hostAct_next {s : State} (f : State → State) (h : s.heard) : hostAct f s = .next (framed {} s (f s)) := by
  unfold hostAct act; simp only [h.1, h.2]; rfl

theorem hostReg_next {s : State} (off : Nat) (v : Word) (h : s.linked) :
    hostReg off v s = .next (framed {} s (powered (wordWrite off v s))) := by
  unfold hostReg; rw [hostAct_next _ h.1]; unfold bar0Word hostWrite; rw [h.2]; rfl

theorem hostBell_next {s : State} (f : State → State) (h : s.linked) :
    hostBell f s = .next (framed {} s (settled (f s))) := by
  unfold hostBell; rw [hostAct_next _ h.1]; unfold hostWrite; rw [h.2]; rfl

theorem hostCmd_next {s : State} (d : Desc) (f : State → State) (h : s.heard) (hd : d.lost = false) :
    hostCmd d f s = .next (framed {} s (settled (f s))) := by
  unfold hostCmd; rw [hostAct_next _ h, hd]; rfl

/-- The read of a descriptor fails: its ring stops (R244). -/
theorem hostCmd_lost {s : State} (d : Desc) (f : State → State) (h : s.heard) (hd : d.lost = true) :
    hostCmd d f s = .next (framed {} s (settled (fetchFails d.ring s))) := by
  unfold hostCmd; rw [hostAct_next _ h, hd]; rfl

/-- A command of a served ring whose undefined bytes are 0 runs on the state after its fetch. -/
theorem command_served {s : State} {r : Nat} (tag : Nat) (k : State → State) (h : s.served r) :
    command r tag false k s = k (fetch r s) := by
  obtain ⟨_, h1, h2, h3⟩ := h
  simp [command, descriptor, h1, h2, h3]

theorem ringCmd_next {s : State} (d : Desc) (k : Nat → Nat → State → State) (h : s.served d.ring) (hl : d.lost = false)
    (hd : descBad d = false) : ringCmd d k s = .next (framed {} s (settled (k d.ring d.tag.toNat (fetch d.ring s)))) := by
  unfold ringCmd; rw [hostCmd_next _ _ h.1 hl, hd, command_served _ _ h]

/-! ### The frame -/

/-- A meaning answers a fault, or a next state that keeps the frame with what its grant allows. -/
def Keeps (g : Grant) (o : Out) (s : State) : Prop := ∀ t, o = .next t → ∃ u, t = framed g s u

theorem act_keeps (g : Grant) (f : State → State) (s : State) : Keeps g (act g f s) s := by
  intro t h; unfold act at h; cases h; exact ⟨_, rfl⟩

theorem row_keeps (f : State → State) (s : State) : Keeps {} (row f s) s := by
  unfold row; exact act_keeps _ _ _
theorem rowP_keeps (f : State → State) (s : State) : Keeps {} (rowP f s) s := by
  unfold rowP; exact act_keeps _ _ _
theorem rowLock_keeps (f : State → State) (s : State) : Keeps { locks := true } (rowLock f s) s := by
  unfold rowLock; exact act_keeps _ _ _
theorem hostReg_keeps (off : Nat) (v : Word) (s : State) : Keeps {} (hostReg off v s) s := by
  unfold hostReg hostAct; exact act_keeps _ _ _
theorem hostAct_keeps (f : State → State) (s : State) : Keeps {} (hostAct f s) s := by
  unfold hostAct; exact act_keeps _ _ _
theorem hostBell_keeps (f : State → State) (s : State) : Keeps {} (hostBell f s) s := by
  unfold hostBell hostAct; exact act_keeps _ _ _
theorem hostCmd_keeps (d : Desc) (f : State → State) (s : State) : Keeps {} (hostCmd d f s) s := by
  unfold hostCmd hostAct; exact act_keeps _ _ _
theorem ringCmd_keeps (d : Desc) (k : Nat → Nat → State → State) (s : State) : Keeps {} (ringCmd d k s) s := by
  unfold ringCmd hostCmd hostAct; exact act_keeps _ _ _
theorem memberCmd_keeps (d : Desc) (n : Nat) (m : Option Member) (s : State) : Keeps {} (memberCmd d n m s) s := by
  unfold memberCmd hostCmd hostAct; exact act_keeps _ _ _

theorem fault_keeps (g : Grant) (r : Fault) (s : State) : Keeps g (.fault r) s := by intro t h; cases h

theorem ite_keeps (g : Grant) (c : Prop) [Decidable c] (a b : Out) (s : State) (ha : Keeps g a s) (hb : Keeps g b s) :
    Keeps g (if c then a else b) s := by split <;> assumption

/-- What a command is granted beyond its own effect: see `Grant`. -/
def grantOf : Instr → Grant
  | .volleyApply _ => { locks := true }
  | .lockApplied _ => { locks := true }
  | .islandReady _ => { locks := true }
  | .resetAction => { locks := true, dugout := true }
  | .vauxLoss => { locks := true, dugout := true, latch := true }
  | .powerOn _ _ _ => { power := true }
  | _ => {}

/-- Every command keeps the frame. -/
theorem exec_keeps (i : Instr) (s : State) : Keeps (grantOf i) (exec i s) s := by
  cases i with
  | registerWrite _ _ _ => unfold exec execRegisterWrite; exact ite_keeps _ _ _ _ _ (fault_keeps _ _ _) (hostAct_keeps _ _)
  | counterClear _ _ => unfold exec execCounterClear; exact ite_keeps _ _ _ _ _ (fault_keeps _ _ _) (hostReg_keeps _ _ _)
  | beatBoundary _ _ => unfold exec execBeatBoundary; exact row_keeps _ _
  | alignmentPulse => unfold exec execAlignmentPulse; exact row_keeps _ _
  | slipRepin _ => unfold exec execSlipRepin; exact row_keeps _ _
  | unitRepin _ => unfold exec execUnitRepin; exact row_keeps _ _
  | mergerSlot _ _ _ => unfold exec execMergerSlot; exact row_keeps _ _
  | stormRecalDone _ _ => unfold exec execStormRecalDone; exact row_keeps _ _
  | rxGapEnd _ => unfold exec execRxGapEnd; exact row_keeps _ _
  | arcInterval _ => unfold exec execArcInterval; exact row_keeps _ _
  | compSwitch _ => unfold exec execCompSwitch; exact row_keeps _ _
  | ovrDetect _ _ => unfold exec execOvrDetect; exact row_keeps _ _
  | bgcConverged _ => unfold exec execBgcConverged; exact row_keeps _ _
  | tbandSet _ => unfold exec execTbandSet; exact row_keeps _ _
  | dacRampDone _ => unfold exec execDacRampDone; exact row_keeps _ _
  | bubbleMuteRelease _ => unfold exec execBubbleMuteRelease; exact hostReg_keeps _ _ _
  | orxSettleEnd _ => unfold exec execOrxSettleEnd; exact row_keeps _ _
  | convCal _ _ _ => unfold exec execConvCal; exact ringCmd_keeps _ _ _
  | calDone _ _ => unfold exec execCalDone; exact row_keeps _ _
  | calSaveDone _ => unfold exec execCalSaveDone; exact row_keeps _ _
  | subbandSample _ _ _ => unfold exec execSubbandSample; exact row_keeps _ _
  | protoSwitchEnd _ => unfold exec execProtoSwitchEnd; exact row_keeps _ _
  | volleyApply _ => unfold exec execVolleyApply; exact rowLock_keeps _ _
  | xfadeStart _ => unfold exec execXfadeStart; exact row_keeps _ _
  | xfadeDone _ => unfold exec execXfadeDone; exact row_keeps _ _
  | xfadeAbort _ => unfold exec execXfadeAbort; exact row_keeps _ _
  | remoteInputResume _ => unfold exec execRemoteInputResume; exact row_keeps _ _
  | routeEcc _ => unfold exec execRouteEcc; exact row_keeps _ _
  | routeEccFatal _ => unfold exec execRouteEccFatal; exact row_keeps _ _
  | routeReload _ => unfold exec execRouteReload; exact row_keeps _ _
  | isoBlockEnd => unfold exec execIsoBlockEnd; exact row_keeps _ _
  | backoffStep _ => unfold exec execBackoffStep; exact row_keeps _ _
  | backoffRecovered _ => unfold exec execBackoffRecovered; exact row_keeps _ _
  | backoffReleaseStep _ => unfold exec execBackoffReleaseStep; exact row_keeps _ _
  | pathShutdown _ => unfold exec execPathShutdown; exact row_keeps _ _
  | pathRestart _ => unfold exec execPathRestart; exact row_keeps _ _
  | isoClearLockout _ => unfold exec execIsoClearLockout; exact row_keeps _ _
  | isoClearOffside _ => unfold exec execIsoClearOffside; exact row_keeps _ _
  | squelch _ => unfold exec execSquelch; exact row_keeps _ _
  | squelchEnd _ => unfold exec execSquelchEnd; exact row_keeps _ _
  | coldStartStep _ => unfold exec execColdStartStep; exact row_keeps _ _
  | trainLimited _ => unfold exec execTrainLimited; exact row_keeps _ _
  | seedWrite _ => unfold exec execSeedWrite; exact row_keeps _ _
  | cxlEcc _ => unfold exec execCxlEcc; exact row_keeps _ _
  | cxlSliceLost _ => unfold exec execCxlSliceLost; exact row_keeps _ _
  | sliceReload _ => unfold exec execSliceReload; exact row_keeps _ _
  | isoLselSnapshot _ => unfold exec execIsoLselSnapshot; exact hostReg_keeps _ _ _
  | fineTransform _ => unfold exec execFineTransform; exact row_keeps _ _
  | integrationEnd _ => unfold exec execIntegrationEnd; exact row_keeps _ _
  | productHandover _ => unfold exec execProductHandover; exact row_keeps _ _
  | watchEcc _ => unfold exec execWatchEcc; exact row_keeps _ _
  | watchSliceLost _ => unfold exec execWatchSliceLost; exact row_keeps _ _
  | watchSliceRestart _ => unfold exec execWatchSliceRestart; exact row_keeps _ _
  | snapTrigger _ _ _ _ => unfold exec execSnapTrigger; exact ringCmd_keeps _ _ _
  | snapDone _ => unfold exec execSnapDone; exact row_keeps _ _
  | snapMove _ _ => unfold exec execSnapMove; exact ringCmd_keeps _ _ _
  | snapMoved _ => unfold exec execSnapMoved; exact row_keeps _ _
  | snapAbort _ => unfold exec execSnapAbort; exact row_keeps _ _
  | captureEcc _ => unfold exec execCaptureEcc; exact row_keeps _ _
  | offsideDwellEnd _ _ _ => unfold exec execOffsideDwellEnd; exact row_keeps _ _
  | standbyToSynth _ => unfold exec execStandbyToSynth; exact row_keeps _ _
  | synthToReceive _ => unfold exec execSynthToReceive; exact row_keeps _ _
  | paBiasEnHigh _ => unfold exec execPaBiasEnHigh; exact row_keeps _ _
  | paEnHigh _ => unfold exec execPaEnHigh; exact row_keeps _ _
  | paBiasEnLow _ => unfold exec execPaBiasEnLow; exact row_keeps _ _
  | relayToReceive _ => unfold exec execRelayToReceive; exact row_keeps _ _
  | receiveToSynth _ => unfold exec execReceiveToSynth; exact row_keeps _ _
  | synthToStandby _ => unfold exec execSynthToStandby; exact row_keeps _ _
  | sleepEntry => unfold exec execSleepEntry; exact rowP_keeps _ _
  | synthCal _ _ => unfold exec execSynthCal; exact ringCmd_keeps _ _ _
  | synthCalDone _ => unfold exec execSynthCalDone; exact row_keeps _ _
  | synthUnlock _ => unfold exec execSynthUnlock; exact row_keeps _ _
  | forcedCapClear _ _ => unfold exec execForcedCapClear; exact hostReg_keeps _ _ _
  | paFault _ => unfold exec execPaFault; exact row_keeps _ _
  | paFltHigh _ => unfold exec execPaFltHigh; exact row_keeps _ _
  | paFltClear _ _ => unfold exec execPaFltClear; exact hostReg_keeps _ _ _
  | qreqInRise _ => unfold exec execQreqInRise; exact row_keeps _ _
  | qgrant _ => unfold exec execQgrant; exact row_keeps _ _
  | qreqInFall _ => unfold exec execQreqInFall; exact row_keeps _ _
  | qgntInRise _ => unfold exec execQgntInRise; exact row_keeps _ _
  | qgntInFall _ => unfold exec execQgntInFall; exact row_keeps _ _
  | qgntTimeout _ => unfold exec execQgntTimeout; exact row_keeps _ _
  | gateBlockEnd => unfold exec execGateBlockEnd; exact row_keeps _ _
  | nonceGet _ _ => unfold exec execNonceGet; exact ringCmd_keeps _ _ _
  | nonceExpiry => unfold exec execNonceExpiry; exact row_keeps _ _
  | lockChange _ _ _ => unfold exec execLockChange; exact memberCmd_keeps _ _ _ _
  | lockJournalSealed _ => unfold exec execLockJournalSealed; exact row_keeps _ _
  | lockApplied _ => unfold exec execLockApplied; exact rowLock_keeps _ _
  | persistentWrite _ _ => unfold exec execPersistentWrite; exact ite_keeps _ _ _ _ _ (fault_keeps _ _ _) (hostReg_keeps _ _ _)
  | pageCommit _ => unfold exec execPageCommit; exact row_keeps _ _
  | pgselSnapshot _ => unfold exec execPgselSnapshot; exact hostReg_keeps _ _ _
  | optimeCellWrite => unfold exec execOptimeCellWrite; exact row_keeps _ _
  | cmdTailDoorbell _ _ => unfold exec execCmdTailDoorbell; exact hostBell_keeps _ _
  | cplHeadDoorbell _ _ => unfold exec execCplHeadDoorbell; exact hostBell_keeps _ _
  | evtHeadDoorbell _ _ => unfold exec execEvtHeadDoorbell; exact hostBell_keeps _ _
  | streamTailDoorbell _ _ _ => unfold exec execStreamTailDoorbell; exact hostBell_keeps _ _
  | heartbeat _ => unfold exec execHeartbeat; exact hostBell_keeps _ _
  | ringEnable _ _ => unfold exec execRingEnable; exact ite_keeps _ _ _ _ _ (fault_keeps _ _ _) (hostReg_keeps _ _ _)
  | ringDisable _ _ => unfold exec execRingDisable; exact ite_keeps _ _ _ _ _ (fault_keeps _ _ _) (hostReg_keeps _ _ _)
  | begin_ _ => unfold exec execBegin; exact hostCmd_keeps _ _ _
  | write32 _ _ _ => unfold exec execWrite32; exact memberCmd_keeps _ _ _ _
  | writeBlock _ _ _ _ => unfold exec execWriteBlock; exact memberCmd_keeps _ _ _ _
  | commit _ _ => unfold exec execCommit; exact hostCmd_keeps _ _ _
  | abort _ _ _ => unfold exec execAbort; exact hostCmd_keeps _ _ _
  | nop _ => unfold exec execNop; exact ringCmd_keeps _ _ _
  | invalidOpcode _ _ => unfold exec execInvalidOpcode; exact hostCmd_keeps _ _ _
  | volleyValidation _ => unfold exec execVolleyValidation; exact row_keeps _ _
  | stackPrepare _ _ _ _ _ _ => unfold exec execStackPrepare; exact row_keeps _ _
  | stackReady _ _ _ _ => unfold exec execStackReady; exact row_keeps _ _
  | stackGoDecision _ => unfold exec execStackGoDecision; exact row_keeps _ _
  | stackGo _ => unfold exec execStackGo; exact row_keeps _ _
  | stackAbort _ => unfold exec execStackAbort; exact row_keeps _ _
  | stackVolleyDiscard _ => unfold exec execStackVolleyDiscard; exact row_keeps _ _
  | stackAck _ _ => unfold exec execStackAck; exact row_keeps _ _
  | stackCompletion _ => unfold exec execStackCompletion; exact row_keeps _ _
  | hostLost => unfold exec execHostLost; exact row_keeps _ _
  | hostLostClear _ => unfold exec execHostLostClear; exact hostReg_keeps _ _ _
  | recordWaitTimeout _ => unfold exec execRecordWaitTimeout; exact row_keeps _ _
  | exportLink _ _ => unfold exec execExportLink; exact row_keeps _ _
  | exportTransmit _ => unfold exec execExportTransmit; exact row_keeps _ _
  | pfcPause _ _ => unfold exec execPfcPause; exact row_keeps _ _
  | interruptTimer _ _ => unfold exec execInterruptTimer; exact row_keeps _ _
  | pcieLinkUp _ _ => unfold exec execPcieLinkUp; exact row_keeps _ _
  | pcieLinkDown => unfold exec execPcieLinkDown; exact row_keeps _ _
  | linkTrain _ => unfold exec execLinkTrain; exact row_keeps _ _
  | linkAligning _ _ _ _ _ => unfold exec execLinkAligning; exact row_keeps _ _
  | linkTrainTimeout _ => unfold exec execLinkTrainTimeout; exact row_keeps _ _
  | linkRetry _ => unfold exec execLinkRetry; exact row_keeps _ _
  | linkUp _ _ _ => unfold exec execLinkUp; exact row_keeps _ _
  | linkDown _ => unfold exec execLinkDown; exact row_keeps _ _
  | linkCrc _ _ => unfold exec execLinkCrc; exact row_keeps _ _
  | linkCreditStall _ => unfold exec execLinkCreditStall; exact row_keeps _ _
  | linkRetrain _ _ => unfold exec execLinkRetrain; exact ringCmd_keeps _ _ _
  | gridMark _ _ => unfold exec execGridMark; exact row_keeps _ _
  | stackRealign _ => unfold exec execStackRealign; exact ringCmd_keeps _ _ _
  | beatToken _ _ => unfold exec execBeatToken; exact row_keeps _ _
  | stackMasterLost => unfold exec execStackMasterLost; exact row_keeps _ _
  | dugoutMsg => unfold exec execDugoutMsg; exact row_keeps _ _
  | stackMemberLost _ => unfold exec execStackMemberLost; exact row_keeps _ _
  | timFracRead => unfold exec execTimFracRead; exact hostBell_keeps _ _
  | timeSetArm _ => unfold exec execTimeSetArm; exact hostReg_keeps _ _ _
  | timeSet => unfold exec execTimeSet; exact row_keeps _ _
  | ppsEdge => unfold exec execPpsEdge; exact row_keeps _ _
  | ppsLost => unfold exec execPpsLost; exact row_keeps _ _
  | ppsOutPulse => unfold exec execPpsOutPulse; exact row_keeps _ _
  | ptpSync _ _ _ => unfold exec execPtpSync; exact row_keeps _ _
  | mirrorReceive _ _ _ => unfold exec execMirrorReceive; exact row_keeps _ _
  | mirrorApply => unfold exec execMirrorApply; exact row_keeps _ _
  | epochTake => unfold exec execEpochTake; exact row_keeps _ _
  | epochReceive _ _ => unfold exec execEpochReceive; exact row_keeps _ _
  | relinquish => unfold exec execRelinquish; exact row_keeps _ _
  | link3LossTimer => unfold exec execLink3LossTimer; exact row_keeps _ _
  | promotionBeat => unfold exec execPromotionBeat; exact row_keeps _ _
  | promotionCapLift => unfold exec execPromotionCapLift; exact row_keeps _ _
  | pairSwap _ => unfold exec execPairSwap; exact ringCmd_keeps _ _ _
  | swapRequest => unfold exec execSwapRequest; exact row_keeps _ _
  | pairPromote _ => unfold exec execPairPromote; exact ringCmd_keeps _ _ _
  | pairResync _ => unfold exec execPairResync; exact ringCmd_keeps _ _ _
  | resyncApply _ _ => unfold exec execResyncApply; exact row_keeps _ _
  | hkConversion _ _ _ => unfold exec execHkConversion; exact rowP_keeps _ _
  | hkRefCheck _ _ => unfold exec execHkRefCheck; exact rowP_keeps _ _
  | hkCorrectionDone _ => unfold exec execHkCorrectionDone; exact rowP_keeps _ _
  | chFallback _ => unfold exec execChFallback; exact rowP_keeps _ _
  | choutRead _ => unfold exec execChoutRead; exact hostBell_keeps _ _
  | cmpStateChange _ _ _ => unfold exec execCmpStateChange; exact rowP_keeps _ _
  | cmpCheck _ => unfold exec execCmpCheck; exact hostReg_keeps _ _ _
  | cmpCheckDone _ => unfold exec execCmpCheckDone; exact rowP_keeps _ _
  | cmpAutoCheck => unfold exec execCmpAutoCheck; exact rowP_keeps _ _
  | slotExecute _ => unfold exec execSlotExecute; exact rowP_keeps _ _
  | feedbackLost _ => unfold exec execFeedbackLost; exact rowP_keeps _ _
  | railFbLost _ => unfold exec execRailFbLost; exact rowP_keeps _ _
  | cteEcc _ => unfold exec execCteEcc; exact rowP_keeps _ _
  | cteEccFatal _ => unfold exec execCteEccFatal; exact rowP_keeps _ _
  | coefLoad _ _ => unfold exec execCoefLoad; exact hostReg_keeps _ _ _
  | slotEnable _ _ => unfold exec execSlotEnable; exact hostReg_keeps _ _ _
  | slotDisable _ _ => unfold exec execSlotDisable; exact hostReg_keeps _ _ _
  | slotAuto _ _ => unfold exec execSlotAuto; exact hostReg_keeps _ _ _
  | slotManual _ _ => unfold exec execSlotManual; exact hostReg_keeps _ _ _
  | testStart _ => unfold exec execTestStart; exact hostReg_keeps _ _ _
  | testDone => unfold exec execTestDone; exact rowP_keeps _ _
  | ishareSample _ _ => unfold exec execIshareSample; exact rowP_keeps _ _
  | pwmPeriodStart _ => unfold exec execPwmPeriodStart; exact rowP_keeps _ _
  | tripRelease _ _ => unfold exec execTripRelease; exact hostReg_keeps _ _ _
  | blankWindowEnd _ => unfold exec execBlankWindowEnd; exact rowP_keeps _ _
  | psyncEdge _ _ => unfold exec execPsyncEdge; exact rowP_keeps _ _
  | syncLost => unfold exec execSyncLost; exact rowP_keeps _ _
  | railFreqStep => unfold exec execRailFreqStep; exact rowP_keeps _ _
  | slotSpLost => unfold exec execSlotSpLost; exact rowP_keeps _ _
  | pmbusPoll _ => unfold exec execPmbusPoll; exact rowP_keeps _ _
  | pmbAlert _ _ => unfold exec execPmbAlert; exact rowP_keeps _ _
  | pmbSegStuck _ _ => unfold exec execPmbSegStuck; exact rowP_keeps _ _
  | pmbAlertStuck _ => unfold exec execPmbAlertStuck; exact rowP_keeps _ _
  | segReconnect _ _ => unfold exec execSegReconnect; exact hostReg_keeps _ _ _
  | rackEnable _ => unfold exec execRackEnable; exact hostReg_keeps _ _ _
  | rackDisable _ => unfold exec execRackDisable; exact hostReg_keeps _ _ _
  | holdupSlow => unfold exec execHoldupSlow; exact rowP_keeps _ _
  | rackReturnAc => unfold exec execRackReturnAc; exact rowP_keeps _ _
  | stringEod _ => unfold exec execStringEod; exact rowP_keeps _ _
  | shedEvaluate => unfold exec execShedEvaluate; exact rowP_keeps _ _
  | thermalScan _ => unfold exec execThermalScan; exact rowP_keeps _ _
  | throttle => unfold exec execThrottle; exact rowP_keeps _ _
  | railRampDownDone => unfold exec execRailRampDownDone; exact rowP_keeps _ _
  | domainRampDone _ => unfold exec execDomainRampDone; exact rowP_keeps _ _
  | domainSwitchOff _ => unfold exec execDomainSwitchOff; exact rowP_keeps _ _
  | domainFail _ => unfold exec execDomainFail; exact rowP_keeps _ _
  | domfailClear _ _ => unfold exec execDomfailClear; exact hostReg_keeps _ _ _
  | faultReport _ => unfold exec execFaultReport; exact row_keeps _ _
  | shadowClose => unfold exec execShadowClose; exact rowP_keeps _ _
  | fltPendClear _ _ => unfold exec execFltPendClear; exact hostReg_keeps _ _ _
  | cascadeFault _ _ => unfold exec execCascadeFault; exact row_keeps _ _
  | reconcile _ _ _ => unfold exec execReconcile; exact rowP_keeps _ _
  | dugoutEnter _ => unfold exec execDugoutEnter; exact ringCmd_keeps _ _ _
  | sbFlush _ => unfold exec execSbFlush; exact ringCmd_keeps _ _ _
  | sbFlushTimer => unfold exec execSbFlushTimer; exact row_keeps _ _
  | sbFlushDone _ => unfold exec execSbFlushDone; exact row_keeps _ _
  | sbCleared => unfold exec execSbCleared; exact row_keeps _ _
  | sbwinAutoincRead => unfold exec execSbwinAutoincRead; exact hostBell_keeps _ _
  | sbCopy _ _ _ _ _ => unfold exec execSbCopy; exact ringCmd_keeps _ _ _
  | fltInject _ _ _ _ => unfold exec execFltInject; exact ringCmd_keeps _ _ _
  | powerFail => unfold exec execPowerFail; exact row_keeps _ _
  | powerOn _ _ _ => unfold exec execPowerOn; exact act_keeps _ _ _
  | islandReady _ => unfold exec execIslandReady; exact act_keeps _ _ _
  | railRampStep => unfold exec execRailRampStep; exact rowP_keeps _ _
  | railGood => unfold exec execRailGood; exact rowP_keeps _ _
  | railTimeout => unfold exec execRailTimeout; exact rowP_keeps _ _
  | fwImageRead _ _ => unfold exec execFwImageRead; exact rowP_keeps _ _
  | fwVerifyDone _ => unfold exec execFwVerifyDone; exact rowP_keeps _ _
  | fwLoad _ => unfold exec execFwLoad; exact hostReg_keeps _ _ _
  | pinReset _ _ => unfold exec execPinReset; exact rowP_keeps _ _
  | deviceReset _ => unfold exec execDeviceReset; exact hostReg_keeps _ _ _
  | radioReset _ => unfold exec execRadioReset; exact hostReg_keeps _ _ _
  | resetAction => unfold exec execResetAction; exact act_keeps _ _ _
  | linkReset _ => unfold exec execLinkReset; exact row_keeps _ _
  | perstRise => unfold exec execPerstRise; exact rowP_keeps _ _
  | vauxLoss => unfold exec execVauxLoss; exact act_keeps _ _ _
  | seedWriteDone _ _ => unfold exec execSeedWriteDone; exact row_keeps _ _
  | pwrfailNRise => unfold exec execPwrfailNRise; exact row_keeps _ _
  | powerFailWindowEnd => unfold exec execPowerFailWindowEnd; exact row_keeps _ _
  | readyForLinkTraining => unfold exec execReadyForLinkTraining; exact row_keeps _ _
  | busMasterEnable _ => unfold exec execBusMasterEnable; exact hostBell_keeps _ _
  | creditsReturned _ _ _ => unfold exec execCreditsReturned; exact row_keeps _ _

end Sys2Proof.Machine
end

