-- ==== Sys2Proof/Tests/Slice0.lean ====
section
/-!
SUPPORT. Sys2Proof/Tests/Slice0.lean: ill-formed commands that WellFormed refuses, a concrete state for every clause of a statement
that has hypotheses, and small tests of one step whose expected values come from the manual.
-/
namespace Sys2Proof.Tests
open Sys2Proof Sys2Proof.Machine
set_option Elab.async false
set_option maxRecDepth 4000

/-! ### Ill-formed commands -/

theorem refuse_registerWrite_beyond_bar0 : wellFormed (.registerWrite 0x400000 4 0#64) = false := by decide
theorem refuse_registerWrite_of_no_byte : wellFormed (.registerWrite 0 0 0#64) = false := by decide
theorem refuse_registerWrite_wide_value : wellFormed (.registerWrite 0 1 256#64) = false := by decide
theorem refuse_counterClear_unaligned : wellFormed (.counterClear 2 0#32) = false := by decide
theorem refuse_beatBoundary_twice : wellFormed (.beatBoundary [3, 3] ⟨[], []⟩) = false := by decide
theorem refuse_beatBoundary_two_updates :
    wellFormed (.beatBoundary [] ⟨[⟨0, 0, 1⟩, ⟨0, 0, 2⟩], []⟩) = false := by decide
theorem refuse_mergerSlot_short_burst : wellFormed (.mergerSlot 0 [⟨0#16, []⟩] []) = false := by decide
theorem refuse_mergerSlot_wide_code : wellFormed (.mergerSlot 0 [] [⟨0#16, List.replicate 64 2048⟩]) = false := by decide
theorem refuse_stormRecalDone_length : wellFormed (.stormRecalDone 0 (some [])) = false := by decide
theorem refuse_calDone_lengths : wellFormed (.calDone 0 []) = false := by decide
theorem refuse_subbandSample_twice : wellFormed (.subbandSample ⟨[(0, 0), (0, 0)], [], []⟩ [] []) = false := by decide
theorem refuse_subbandSample_wide : wellFormed (.subbandSample ⟨[], [], []⟩ [] [⟨0, 0, 0, 0, 32768, 0, 0, 0, 0⟩]) = false := by decide
theorem refuse_subbandSample_watch_twice : wellFormed (.subbandSample ⟨[], [], [5, 5]⟩ [] []) = false := by decide
theorem refuse_lockChange_length : wellFormed (.lockChange { ring := 0, tag := 0#32 } 4#32 (some [])) = false := by decide
theorem refuse_persistentWrite_unaligned : wellFormed (.persistentWrite 1 0#32) = false := by decide
theorem refuse_streamTail_wide_buffer : wellFormed (.streamTailDoorbell 0 0#32 (some [(0, 2 ^ 32)])) = false := by decide
theorem refuse_ringEnable_unaligned : wellFormed (.ringEnable 2 0#32) = false := by decide
theorem refuse_ringDisable_beyond : wellFormed (.ringDisable 0x400000 0#32) = false := by decide
theorem refuse_writeBlock_length : wellFormed (.writeBlock { ring := 0, tag := 0#32 } 0#32 2#32 (some [])) = false := by decide
theorem refuse_invalidOpcode_listed : wellFormed (.invalidOpcode { ring := 0, tag := 0#32 } 1#8) = false := by decide
theorem refuse_stackPrepare_unaligned : wellFormed (.stackPrepare 0 0 0 0 [(2#32, 0#32)] []) = false := by decide
theorem refuse_stackReady_index : wellFormed (.stackReady 0 0 0#16 8192) = false := by decide
theorem refuse_interruptTimer_ring : wellFormed (.interruptTimer 2 8) = false := by decide
theorem refuse_pcieLinkUp_no_rate : wellFormed (.pcieLinkUp 0 1) = false := by decide
theorem refuse_pcieLinkUp_width : wellFormed (.pcieLinkUp 1 3) = false := by decide
theorem refuse_linkAligning_delay : wellFormed (.linkAligning 0 0 false 0 65536) = false := by decide
theorem refuse_linkUp_digest : wellFormed (.linkUp 0 0 []) = false := by decide
theorem refuse_gridMark_time : wellFormed (.gridMark 0 (2 ^ 80)) = false := by decide
theorem refuse_beatToken_time : wellFormed (.beatToken (2 ^ 80) ⟨true, 0, none, false⟩) = false := by decide
theorem refuse_mirrorReceive_unaligned : wellFormed (.mirrorReceive 0#32 true [(1#32, 0#32)]) = false := by decide
theorem refuse_epochReceive_time : wellFormed (.epochReceive 0#32 (some ⟨2 ^ 80, true, [], [], []⟩)) = false := by decide
theorem refuse_resyncApply_beyond : wellFormed (.resyncApply 0#32 [(0x400000#32, 0#32)]) = false := by decide
theorem refuse_cmpStateChange_code : wellFormed (.cmpStateChange 0 3 0) = false := by decide
theorem refuse_cmpCheckDone_length : wellFormed (.cmpCheckDone ⟨0, 0, [], 0, 0⟩) = false := by decide
theorem refuse_psyncEdge_no_gap : wellFormed (.psyncEdge 0 0) = false := by decide
theorem refuse_psyncEdge_duty : wellFormed (.psyncEdge 1 4096) = false := by decide
theorem refuse_pmbusPoll_twice :
    wellFormed (.pmbusPoll [⟨0, false, 0#16, [0, 0, 0, 0]⟩, ⟨0, true, 0#16, [0, 0, 0, 0]⟩]) = false := by decide
theorem refuse_pmbusPoll_words : wellFormed (.pmbusPoll [⟨0, true, 0#16, []⟩]) = false := by decide
theorem refuse_thermalScan_length : wellFormed (.thermalScan []) = false := by decide
theorem refuse_thermalScan_code : wellFormed (.thermalScan (List.replicate 56 65536)) = false := by decide
theorem refuse_reconcile_index : wellFormed (.reconcile 1 96 0) = false := by decide
theorem refuse_sbFlushDone_twice : wellFormed (.sbFlushDone [1, 1]) = false := by decide
theorem refuse_sbFlushDone_index : wellFormed (.sbFlushDone [16384]) = false := by decide
theorem refuse_islandReady_length : wellFormed (.islandReady [(0, [], 0#32)]) = false := by decide
theorem refuse_offsideDwellEnd_late : wellFormed (.offsideDwellEnd 0 0 [(1, 1)]) = false := by decide
theorem refuse_powerOn_banks : wellFormed (.powerOn 0 false ⟨true, [], [], []⟩) = false := by decide
theorem refuse_fwImageRead_header : wellFormed (.fwImageRead true []) = false := by decide
theorem refuse_creditsReturned_none : wellFormed (.creditsReturned 0 0 ⟨0, none⟩) = false := by decide

/-! ### States for the tests -/

/-- A test of the next state of an outcome. -/
def nextIs (o : Out) (p : State → Bool) : Bool :=
  match o with
  | .next t => p t
  | _ => false

/-- The machine after reset. -/
abbrev s0 : State := State.reset

/-- The PCI Express link is up and the firmware runs. -/
def up : State := ({ s0 with hif := { s0.hif with linkUp := true } }.put GLB_BOOTSTAT_STAGE 3)

/-- The descriptor of a command of ring 0. -/
def d0 : Desc := { ring := 0, tag := 7#32 }

/-- Ring 0 and its completion ring are enabled, and a command of it is next to be served. -/
def serve (s : State) : State :=
  (((s.put CMD_CFG_EN 1 0).put CPL_CFG_EN 1 0).modRing .cmd 0 (fun r => { r with other := 3 }))

/-! ### Hypotheses of the statements are met -/

theorem witness_StepKeepsRegisterForm : ∃ t, step { s0 with pending := [.rxGapEnd 0] } = .next t :=
  ⟨_, by unfold step exec execRxGapEnd; exact row_next _ rfl⟩

theorem witness_EveryCommandKeepsTheFrame :
    (∃ t, exec (.rxGapEnd 0) { s0 with latch := true } = .next t) ∧
    nextIs (exec .vauxLoss { s0 with pst := { s0.pst with locked := [(0, [1])] } }) (fun t => t.pst.locked ≠ [(0, [1])]) = true :=
  ⟨⟨_, by unfold exec execRxGapEnd; exact row_next _ rfl⟩, by decide +kernel⟩

theorem witness_OnlyAResetLeavesDugout :
    nextIs (exec .vauxLoss { s0 with flt := { s0.flt with dugout := true } }) (fun t => !t.flt.dugout) = true := by decide +kernel

theorem witness_up : up.linked ∧ up.running = true := by unfold State.linked State.heard; decide +kernel

theorem witness_SilentMachineTakesNoCommand :
    ({ s0 with boot := { s0.boot with dark := true } } : State).boot.dark = true ∧
    ({ s0 with latch := true } : State).latch = true ∧ s0.boot.dark = false ∧ s0.heard ∧ s0.hif.linkUp = false := by
  unfold State.heard; decide +kernel

theorem witness_ReadsAndReservedAddresses :
    blkOf 0 = some .glb ∧ (findFam (famsOf .glb) 0).isSome ∧ blkOf 0x3FFFFC = none ∧ (0x3FFFFC : Nat) < 0x400000 ∧
    blkOf 0xFFFC = some .glb ∧ findFam (famsOf .glb) 0xFFFC = none ∧
    ({ s0 with hif := { s0.hif with linkUp := true } } : State).linked ∧ s0.running = false := by
  unfold State.linked State.heard; decide +kernel

theorem witness_PendingBitsSetAndAcknowledged :
    s0.covered 383 = false ∧
    ({ s0 with flt := { s0.flt with shadows := [{ area := .dugout, till := s0.now + 1 }] } } : State).covered 0 = true ∧
    up.linked ∧ up.running = true := by unfold State.linked State.heard; decide +kernel

theorem witness_CompletionsAreWritten :
    (serve s0).ringLive .cpl 0 = true ∧ (serve s0).get CPL_CFG_LOG2D 0 ≤ 16 ∧ s0.ringLive .cpl 15 = false := by decide +kernel

/-- Source 0 maps to event ring 0, which is enabled. -/
def events : State := s0.put EVT_CFG_EN 1 0

theorem witness_EventsAreDeliveredOrCounted :
    ((s0.put HIF_EVMAP_MAP 0 47).evMap 383).2 = false ∧ (s0.evMap 0).2 = true ∧ s0.ringLive .evt (s0.evMap 0).1 = false ∧
    (events.evMap 0).2 = true ∧ events.ringLive .evt (events.evMap 0).1 = true ∧ events.owesSummary 0 = false ∧
    0 < events.freeSlots .evt 0 ∧
    (let s := events.modRing .evt 0 (fun r => { r with other := 1 })
     s.ringLive .evt 0 = true ∧ s.freeSlots .evt 0 = 0) := by decide +kernel

theorem witness_RegisterWritesAndCounterClears :
    up.linked ∧ up.running = true ∧ TILE_SATCNT.n1 = 16 ∧ TILE_SATCNT.n2 = 6 := by
  unfold State.linked State.heard; decide +kernel

theorem witness_PlainWriteTakesWritableBits : CLK_RCFG.w1c = 0 ∧ CLK_RCFG.blk ≠ GLB_CAPS.blk := by decide +kernel

theorem witness_StagedAndLockedWritesDiscarded :
    FAB_OSET ∈ famsOf FAB_OSET.blk ∧ FAB_OSET.rws ≠ 0 ∧ 127 < FAB_OSET.n1 ∧ 2 < FAB_OSET.n2 ∧
    HIF_HBCFG ∈ famsOf HIF_HBCFG.blk ∧ HIF_HBCFG.rws ≠ 0 := by decide +kernel

theorem witness_GridEventsPinCrossings :
    s0.awake ∧ s0.isMaster = true ∧ ((s0.put QLK_STACKSTAT_STACK_ID 3).put QLK_LINKSTAT_STATE 3 0).isMaster = false ∧
    ({ s0 with qlk := { s0.qlk with realignAt := some 0 } } : State).qlk.realignAt = some 0 ∧
    ({ s0 with radio := { s0.radio with unpinned := [35] } } : State).radio.unpinned.contains 35 = true ∧
    ({ s0 with radio := { s0.radio with slipped := [(35, 9)] } } : State).radio.slipped.find? (fun e => e.1 = 35) = some (35, 9) ∧
    s0.ioOk 7 = true ∧ ({ s0 with radio := { s0.radio with unpinned := [35], aligned := true } } : State).radio.aligned = true := by
  unfold State.awake; decide +kernel

/-- Change unit `u`. -/
def withUnit (u : Nat) (x : Machine.Unit) : State := s0.modUnit u (fun _ => x)

/-- Tile 15 stands in RECEIVE with its domains on, as far as the converters need. -/
def receiving : State := ((((s0.put CLK_TSTAT_STATE 3 15).put CLK_SYNSTAT_LOCK 1 3).put TILE_ORXCFG_ORX_EN 1 15).put PWR_DOMSTAT_ON 0xFFFFFFFF 0).put PWR_DOMSTAT_ON 0xFFFF 1

theorem witness_ReceiveUnitEvents :
    s0.awake ∧ ((receiving.modUnit 111 (fun y => { y with gap := true })).unit 111).gap = true ∧
    receiving.gapCause 111 = false ∧
    ((withUnit 95 { comp := [(5, 7)] }).unit 95).comp = [(5, 7)] ∧
    ((withUnit 95 { rampDir := 1 }).unit 95).rampDir = 1 ∧
    ((receiving.put CLK_TSTAT_STATE 4 15).modUnit 95 (fun y => { y with rampDir := 3 })).inRelay 15 = true ∧
    ((withUnit 111 { settleAt := some 9 }).unit 111).settleAt = some 9 ∧
    receiving.rxEn 111 = true ∧ (s0.pput TILE_PORTCFG_ARC_EN 95 0).arcActive 95 = false := by unfold State.awake; decide +kernel

/-- Port 95 receives with ARC on, as after reset, and an interval that has a largest code. -/
def arcOn : State := receiving.modUnit 95
  (fun y => { y with gap := false, arcMax := some 2047 })

theorem witness_ArcIntervalSteps :
    arcOn.awake ∧ arcOn.arcActive 95 = true ∧ (arcOn.unit 95).arcSkip = false ∧ (arcOn.unit 95).arcMax = some 2047 ∧
    arcOn.pget TILE_PORTCFG_ATT_MIN 95 ≤ arcOn.pget TILE_PORTCFG_ATT_MAX 95 ∧
    arcOn.pget TILE_PORTSTAT_ATT_NOW 95 ≤ arcOn.pget TILE_PORTCFG_ATT_MAX 95 ∧
    arcOn.pget TILE_PORTCFG_ATT_MIN 95 ≤ arcOn.pget TILE_PORTSTAT_ATT_NOW 95 := by unfold State.awake; decide +kernel

theorem witness_MergerSlotMergesBursts :
    (let s := receiving.modUnit 111 (fun y => { y with gap := false })
     let n := max (s.unit 111).slotN ((s.now - s.align + 3199) / 3200)
     s.awake ∧ s.converting 111 = true ∧ (s.unit 111).gap = false ∧ (s.unit 111).fifoA = [] ∧ (s.unit 111).fifoB = [] ∧
       (0#16).toNat = n % 65536 ∧ s.slipIn (unitTile 111) (n / 8192) = false) := by unfold State.awake; decide +kernel

/-- Calibration factors without any error: gains 1, SETTLE 100 samples. -/
def flat : List Word := [0#32, 0x80008000#32, 0#32, 0#32, 0#32, 0#32, 0#32, 100#32, 0#32]

/-- Tiles 14 and 15 are being calibrated. -/
def calibrating : State := { s0 with cal := { s0.cal with running := true, group := [14, 15] } }

theorem witness_CalibrationEvents :
    s0.awake ∧ calibrating.calOn (unitTile 111) = true ∧ ((withUnit 95 { recalAt := some 5 }).unit 95).recalAt = some 5 ∧
    (withUnit 95 { recalAt := some 5 }).calOn (unitTile 95) = false ∧
    recalOk 95 flat = true ∧ recalOk 95 (List.replicate 9 0xFFFFFFFF#32) = false ∧
    (let s := s0.modUnit 111 (fun y => { y with bgc := tabSet y.bgc (s0.unitBand 111) { beats := 64 } })
     (tabGet (s.unit 111).bgc (s.unitBand 111)).conv = false ∧ 64 ≤ (tabGet (s.unit 111).bgc (s.unitBand 111)).beats) ∧
    (let s : State := { s0 with therm := { s0.therm with bands := [(15, 7)] } }
     s.get PWR_TILE_TBAND 15 ≠ tabGet s.therm.bands 15 ∧ tabGet s.therm.bands 15 < 8) ∧
    calibrating.calOn 15 = true ∧ 2 ≤ calibrating.cal.group.length ∧ calibrating.cal.group.Nodup ∧
    ({ s0 with cal := { s0.cal with saving := true } } : State).cal.saving = true := by unfold State.awake; decide +kernel

theorem witness_FabricStreamsAdvanceAndRecover :
    s0.awake ∧ ((withUnit 95 { zeroFrom := some 3 }).unit 95).zeroFrom = some 3 ∧
    (s0.put QLK_LINKSTAT_STATE 3 2).get QLK_LINKSTAT_STATE 2 = 3 ∧ s0.fab.up.contains 2 = false ∧ s0.covered 115 = false ∧
    ({ s0 with flt := { s0.flt with shadows := [{ area := .quarter 3, till := s0.now + 1 }] } } : State).covered 115 = true ∧
    ({ s0 with fab := { s0.fab with dead := [3] } } : State).fab.dead.contains 3 = true := by unfold State.awake; decide +kernel

/-- The machine with slot `v` as given. -/
def withSlot (v : Nat) (x : Slot) : State := s0.setSlot v x

theorem witness_VolleyAppliesAtItsBeat :
    (let s := withSlot 3 { st := .staged, beat := 2 }
     s.awake ∧ (s.slot 3).st = .staged ∧ s.nextStaged = some 3 ∧ (s.slot 3).prot = false ∧ (s.slot 3).stack = false) ∧
    (let s := withSlot 3 { st := .staged, beat := 2, prot := true, sealedAt := some 1 }
     s.nextStaged = some 3 ∧ (s.slot 3).prot = true ∧ (s.slot 3).sealedAt ≠ none) ∧
    (let s := withSlot 3 { st := .staged, beat := 2, prot := true }
     s.nextStaged = some 3 ∧ (s.slot 3).sealedAt = none) := by unfold State.awake; decide +kernel

theorem witness_CrossfadesStartEndAndAbort :
    s0.awake ∧
    (let s := (s0.put FAB_XFSTAT_PHASE 1 63).modPath 0 (fun p => { p with st := 2 })
     s.get FAB_XFSTAT_PHASE 63 = 1 ∧ (s.path (s.get FAB_XFPATH_NEW 63)).st = 2) ∧
    (s0.put FAB_XFSTAT_PHASE 2 63).get FAB_XFSTAT_PHASE 63 = 2 ∧ (s0.put FAB_XFSTAT_PHASE 3 63).get FAB_XFSTAT_PHASE 63 = 3 := by
  unfold State.awake; decide +kernel

/-- Path 4095 in state `st` with its governor and history as given. -/
def withPath (st : Nat) (g : Gov) (h : Hist) : State :=
  ((s0.modPath 4095 (fun p => { p with st := st })).setHist 4095 h).modGov 4095 (fun _ => g)

theorem witness_BackoffAndShutdownOfPaths :
    s0.awake ∧
    (let s := withPath 3 { steps := 18 } {}
     (s.path 4095).st = 3 ∧ (s.gov 4095).steps < 19 ∧
       (s.moveTo ((s.gov 4095).m0 + 80000 * Config.subSample)).covered (124 + s.pathQuad 4095) = false) ∧
    (let s := withPath 3 { clearAt := some 0 } {}
     (s.gov 4095).clearAt = some 0 ∧ (s.path 4095).st = 3 ∧ s.oscCond 4095 = false ∧
       0 + 8000 * Config.subSample ≤ (s.gov 4095).m0 + 80000 * Config.subSample) ∧
    (let s := withPath 2 { back := some (-100) } {}
     (s.gov 4095).back = some (-100) ∧ (s.path 4095).st = 2) ∧
    ((withPath 4 {} { holdEnd := some 9 }).hist 4095).holdEnd = some 9 ∧ ((withPath 4 {} {}).path 4095).st = 4 ∧
    ((withPath 4 {} { lockout := true }).hist 4095).lockout = true ∧ ((withPath 2 {} {}).path 4095).st ≠ 4 := by
  unfold State.awake; decide +kernel

theorem witness_SquelchAndColdStart :
    s0.awake ∧
    (let s := ((withPath 2 { idle := 3907 } {}).put FAB_PCFG0_CLASS 1 4095).put ISO_PUL_SQ_EN 1 4095
     (s.gov 4095).squelched = false ∧ 3907 ≤ (s.gov 4095).idle ∧ (s.path 4095).st = 2 ∧ (s.route 4095).uplink = true ∧
       s.flag ISO_PUL_SQ_EN 4095 = true) ∧
    (let s := withPath 2 { squelched := true, signal := true } {}
     (s.gov 4095).squelched = true ∧ (s.gov 4095).signal = true) ∧
    (let s := withPath 1 { cold := some (-200), training := true, limSince := some 3 } {}
     (s.gov 4095).cold = some (-200) ∧ (s.gov 4095).training = true ∧ (s.path 4095).st = 1 ∧
       (s.gov 4095).limSince = some 3 ∧ (s.gov 4095).probe = false ∧ (∃ v ∈ s.otherLimits 4095, -200 < v)) ∧
    (∀ v ∈ (withPath 1 { cold := some 5000, training := true } {}).otherLimits 4095, v ≤ 5000) ∧
    (let s := (((withPath 1 { probe := true } {}).put CLK_QCTL_EN 1 4).putWord CLK_QPORT 1#32 4 0).putWord CLK_QSB 0xFFFFFFFF#32 4 0
     (s.gov 4095).probe = true ∧ (s.putWord FAB_OSET 1#32 0 0).probeWaits 4095 = true) := by unfold State.awake; decide +kernel

theorem witness_CancellerEvents :
    s0.awake ∧ s0.covered 123 = false ∧
    (let s := (s0.modLink 16383 (fun l => { l with st := 3, hourUpd := true })).put ISO_LCFG_SEED 1 16383
     (s.link 16383).st = 3 ∧ s.flag ISO_LCFG_SEED 16383 = true ∧ (s.link 16383).hourUpd = true) ∧
    (let s : State := { s0.put PWR_DOMSTAT_ON 0x80000000 1 with iso := { s0.iso with lost := [7] } }
     s.domainOn 63 = true ∧ s.iso.lost.contains 7 = true) := by unfold State.awake; decide +kernel

/-- Port 95 is watched. -/
def watching : State :=
  ((s0.put PWR_DOMSTAT_ON 0x00800000 1).put SPW_PDEST_RING_EN 1 95).modWatch 95 (fun x => { x with cnt := 1, out := [[1, 2]] })

theorem witness_WatchEvents :
    watching.awake ∧ watching.domainOn 55 = true ∧ (watching.watch 95).lost = false ∧ (watching.watch 95).cnt ≠ 0 ∧
    watching.mCfg 95 ≤ (watching.watch 95).cnt ∧ (s0.watch 95).out = [] ∧ watching.flag SPW_PDEST_RING_EN 95 = true ∧
    (watching.watch 95).out = [[1, 2]] ∧ s0.covered 151 = false ∧ (s0.watch 95).cnt = 0 ∧ (s0.watch 95).cutAt = none ∧
    (∃ i < 12, ((s0.modWatch 95 (fun x => { x with lost := true })).watch (12 * 7 + i)).lost = true) := by
  unfold State.awake; decide +kernel

/-- A product of one record that its stream ring has room for. -/
def handing : State :=
  let t := (watching.put STR_CFG_EN 1 0).modRing .str 0 (fun r => { r with other := 2 })
  { t with hif := { t.hif with str := [(0, { len := 4096 }), (1, { len := 4096 })] } }

theorem witness_WatchEvents_handover :
    (sendWhole true (handing.get SPW_PDEST_RING 95) 1 [1, 2] (handing.modWatch 95 (fun x => { x with out := [] }))).1 = true ∧
    handing.flag SPW_PDEST_RING_EN 95 = true ∧ handing.flag SPW_PDEST_EXP_EN 95 = false := by decide +kernel

/-- Slot 15 of the capture memory in state `st`. -/
def snapping (st : Nat) : State := s0.put SPW_SNAPSTAT_STATE st 15

theorem witness_SnapshotEvents :
    s0.awake ∧ (snapping 2).snapState 15 = 2 ∧ (snapping 2).flag SPW_SNAPCFG0_AUTO_MOVE 15 = false ∧
    ((snapping 2).put SPW_SNAPCFG0_AUTO_MOVE 1 15).flag SPW_SNAPCFG0_AUTO_MOVE 15 = true ∧
    (let s : State := { snapping 4 with hif := { s0.hif with waiting := [{ slot := some 15 }] } }
     s.snapState 15 = 4 ∧ (pump s).hif.waiting.find? (fun y => y.slot = some 15) = some { slot := some 15 } ∧
       ({ slot := some 15 } : Waiting).bytes.length ≤ ({ slot := some 15 } : Waiting).done ∧
       s.flag SPW_SNAPCFG0_AUTO_REARM 15 = false) ∧
    (snapping 1).snapState 15 = 1 ∧ (snapping 1).covered 167 = false := by unfold State.awake; decide +kernel

/-- Tile 15 has had a dwell of 600 samples. -/
def dwelling : State := { receiving with spw := { receiving.spw with dwells := [(15, { n := 600 })] } }

theorem witness_CleanOffsideDwellMovesOn :
    dwelling.awake ∧ 3 ≤ dwelling.rstate 15 ∧ dwelling.rxEn 111 = true ∧ dwelling.outOfService 111 = false ∧
    dwelling.domainOn 45 = true ∧ dwelling.flag TILE_ORXCFG_MANUAL 15 = false ∧ dwelling.get SPW_OFFSTAT_INPUT 15 < 6 ∧
    (let e := (tabGet dwelling.spw.dwells 15 : Dwell).start + dwelling.get SPW_OFFCFG_DWELL_M1 15 + 1
     let d : Dwell := tabGet (dwellTo 15 (1024 * e) (dwelling.moveTo (dwelling.beatTick e))).spw.dwells 15
     512 ≤ d.n ∧ (∀ k < 1024, dwelling.offsideOver (6 * 15 + dwelling.get SPW_OFFSTAT_INPUT 15) k d.n (tabGet d.sums k) = false)) := by
  unfold State.awake; decide +kernel

/-- Tile 15 steps from one radio state to another. -/
def tileStep (from_ goal : Nat) (b : Bool) : State :=
  (s0.put CLK_TSTAT_STATE from_ 15).setStep 15 { active := true, goal := goal, biased := b }

/-- The device steps from one radio state to another. -/
def devStep (from_ goal : Nat) : State := (s0.put CLK_RSTAT_STATE from_).setStep 16 { active := true, goal := goal }

theorem witness_RadioStepsComplete :
    s0.awake ∧ (s0.stepOf 16).goal < 5 ∧ (tileStep 1 2 false).stepping 15 1 2 = true ∧ (devStep 1 2).stepping 16 1 2 = true ∧
    (tileStep 2 3 false).stepping 15 2 3 = true ∧ (tileStep 4 3 false).stepping 15 4 3 = true ∧
    (tileStep 3 2 false).stepping 15 3 2 = true ∧ (tileStep 2 1 false).stepping 15 2 1 = true ∧
    (devStep 2 1).stepping 16 2 1 = true ∧ (devStep 1 0).radio.dev.active = true ∧ (devStep 1 0).radio.dev.goal = 0 := by
  unfold State.awake; decide +kernel

/-- No bank of the control I/O has a level. -/
def badIo : State := { s0 with boot := { s0.boot with io := List.replicate 8 .bad } }

/-- The amplifier sequencer of port 95 as given. -/
def withPa (x : Pa) : State := s0.modPa 95 (fun _ => x)

theorem witness_AmplifierSequence :
    s0.awake ∧ ((tileStep 3 4 false).stepOf 15).active = true ∧ ((tileStep 3 4 false).stepOf 15).goal = 4 ∧
    ((tileStep 3 4 false).stepOf 15).biased = false ∧ ((withPa { enAt := some 4 }).pa 95).enAt = some 4 ∧
    ((withPa { offAt := some 4 }).pa 95).offAt = some 4 ∧ ((withPa { offAt := some 4 }).pa 95).again = false ∧
    (s0.pput TILE_PACFG_FLT_EN 95 1).pflag TILE_PACFG_FLT_EN 95 = true ∧ s0.covered 181 = false ∧
    (s0.pput TILE_PACFG_FLT_EN 95 0).pflag TILE_PACFG_FLT_EN 95 = false ∧ s0.pflag TILE_PASTAT_FLT 95 = false ∧
    (s0.pput TILE_PACFG_PA_PRESENT 95 0).pflag TILE_PACFG_PA_PRESENT 95 = false ∧ s0.ioOk (paBank 95) = true ∧
    badIo.ioOk (paBank 95) = false := by unfold State.awake; decide +kernel

theorem witness_SynthesizerEvents :
    s0.awake ∧ ((s0.modSynth 3 (fun y => { y with calEnd := some 8 })).synth 3).calEnd = some 8 ∧
    ((s0.modSynth 3 (fun y => { y with calEnd := some 8 })).synth 3).cmd = none ∧ s0.covered 180 = false := by
  unfold State.awake; decide +kernel

/-- Quiet entry `q` as given. -/
def withQuiet (q : Nat) (x : Quiet) : State := s0.modQuiet q (fun _ => x)

theorem witness_QuietAndGateEvents :
    s0.awake ∧ s0.ioOk 6 = true ∧ (s0.put CLK_QCTL_EN 1 3).flag CLK_QCTL_EN 3 = true ∧ s0.flag CLK_QCTL_EN 3 = false ∧
    ((withQuiet 3 { req := true, on := true }).quiet 3).on = true ∧ ((withQuiet 3 { req := true, on := true }).quiet 3).gnt = false ∧
    ((withQuiet 3 { req := true, on := true }).quiet 3).req = true ∧
    ((withQuiet 7 { req := true, tmoAt := some 6 }).quiet 7).tmoAt = some 6 ∧
    ((withQuiet 7 { req := true, tmoAt := some 6 }).quiet 7).req = true ∧
    ((withQuiet 7 { req := true, tmoAt := some 6 }).quiet 7).gnt = false := by unfold State.awake; decide +kernel

/-- The persistent store with a nonce, a queued page commit and its file as given. -/
def storing : State := { s0 with pst := { s0.pst with nonce := some { bytes := [], issued := 1 }, queue := [{ page := 255 }] } }

theorem witness_StoreEvents :
    storing.awake ∧ storing.pst.nonce = some { bytes := [], issued := 1 } ∧ storing.pst.queue = [{ page := 255 }] ∧ storing.flt.flushN = 0 ∧
    (∀ w < 4, w ≠ 3 → (((withSlot 3 { st := .staged, prot := true }).slot w).prot &&
      (((withSlot 3 { st := .staged, prot := true }).slot w).st = .validating ||
        ((withSlot 3 { st := .staged, prot := true }).slot w).st = .staged)) = false) ∧
    (let s := withSlot 3 { st := .staged, prot := true }
     (s.slot 3).st = .staged ∧ (s.slot 3).prot = true ∧ (s.slot 3).sealedAt = none) ∧
    ((withSlot 3 { st := .staged, prot := true, applied := true }).slot 3).applied = true := by
  unfold State.awake; decide +kernel

theorem witness_PersistentWritesTakeEffectAndQueue :
    (persistReg 70).isSome = true ∧ (persistReg 0).isSome = true ∧ s0.pst.lowPf = false ∧ tabGet s0.pst.counts 70 < 1000000 ∧
    up.linked ∧ up.running = true ∧ up.mapLocked 70 = false ∧
    ({ up with pst := { up.pst with locked := [(6, List.replicate 40 255)] } } : State).mapLocked 70 = true := by
  unfold State.linked State.heard; decide +kernel


theorem witness_DoorbellsAndHeartbeat :
    up.linked ∧ up.running = true ∧ up.flag (fEN .cmd) 15 = false ∧ (serve up).flag (fEN .cmd) 0 = true ∧
    ((serve up).put CMD_STAT_STOPPED 1 0).flag (fSTOPPED .cmd) 0 = true ∧ (serve up).flag (fSTOPPED .cmd) 0 = false ∧
    (serve up).depth .cmd 0 ≤ 65535 ∧ 15 < (serve up).depth .cmd 0 ∧
    (let s := (up.put EVT_CFG_EN 1 7).put EVT_STAT_INDEX 2 7
     s.flag (fEN .evt) 7 = true ∧ s.flag (fSTOPPED .evt) 7 = false ∧ 2 < s.depth .evt 7 ∧
       used (s.depth .evt 7) (s.ring .evt 7).other 2 ≤ used (s.depth .evt 7) (s.ring .evt 7).other (s.get (fINDEX .evt) 7)) ∧
    (let s := (up.put CPL_CFG_EN 1 15).put CPL_STAT_INDEX 2 15
     s.flag CPL_CFG_EN 15 = true ∧ s.flag CPL_STAT_STOPPED 15 = false ∧ 2 < s.depth .cpl 15 ∧
       used (s.depth .cpl 15) (s.ring .cpl 15).other 2 ≤ used (s.depth .cpl 15) (s.ring .cpl 15).other (s.get CPL_STAT_INDEX 15)) ∧
    (let s := up.put STR_CFG_EN 1 63
     s.flag STR_CFG_EN 63 = true ∧ s.flag STR_STAT_STOPPED 63 = false ∧ 15 < s.depth .str 63 ∧ s.covered 208 = false ∧
       used (s.depth .str 63) (s.ring .str 63).other 15 ≠ 0 ∧ (4095 : Nat) < 4096 ∧ ¬ 65536 < s.depth .str 63) ∧
    up.hif.lost = false ∧ ({ up with hif := { up.hif with lost := true } } : State).hif.beatSince = false ∧
    ({ up with hif := { up.hif with lost := true, beatSince := true } } : State).hif.beatSince = true ∧
    bellAt 0x1A40 = none ∧ bellAt 0x19C0 = some (.str 63) := by unfold State.linked State.heard; decide +kernel

theorem witness_RingConfigurationWrites :
    up.linked ∧ up.running = true ∧ 63 < (cfgFam .str).n1 ∧ getBits 9#32 0 1 = 1 ∧ getBits 8#32 0 1 = 0 ∧
    (serve up).flag (fEN .cmd) 0 = true ∧ up.flag (fEN .str) 63 = false ∧ (up.ring .str 63).badBase = false ∧
    4 ≤ (ringEnable .str 63 (regOff (cfgFam .str) 63 0) 9#32 up).get (fLOG2D .str) 63 ∧
    (ringEnable .str 63 (regOff (cfgFam .str) 63 0) 9#32 up).get (fLOG2D .str) 63 ≤ 16 ∧
    ((up.modRing .str 63 (fun r => { r with badBase := true })).ring .str 63).badBase = true := by
  unfold State.linked State.heard; decide +kernel

/-- Ring 0 is served next and has the Volley of slot 3 open. -/
def opened (x : Slot) : State := (serve up).setSlot 3 { x with st := .opened, ring := 0 }

/-- Every slot of the ring commands is taken. -/
def full : State := ((((serve up).setSlot 0 { st := .validating, ring := 1 }).setSlot 1 { st := .validating, ring := 1 }).setSlot 2
  { st := .validating, ring := 1 }).setSlot 3 { st := .validating, ring := 1 }

theorem witness_VolleysOpenGrowCommitAndAbort :
    (serve up).heard ∧ (serve up).nextRing = some (0 : Fin 16).val ∧ (fetch 0 (serve up)).draining 0 = false ∧
    (fetch 0 (serve up)).openOn 0 = none ∧
    (List.range 4).find? (fun v => ((fetch 0 (serve up)).slot v).st = .free) = some 0 ∧
    full.nextRing = some 0 ∧ (fetch 0 full).draining 0 = false ∧ (fetch 0 full).openOn 0 = none ∧
    (List.range 4).find? (fun v => ((fetch 0 full).slot v).st = .free) = none ∧
    (let t := fetch 0 (opened {})
     (opened {}).nextRing = some 0 ∧ t.draining 0 = false ∧ t.openOn 0 = some 3 ∧ (t.slot 3).tooLarge = false ∧
       (t.slot 3).members.length < 4096 ∧ (t.slot 3).bytes + 262144 ≤ 262144 ∧ (t.slot 3).prot = false) ∧
    (let s := (opened {}).setSlot 2 { st := .validating, ring := 0 }
     s.nextRing = some 0 ∧ s.validatingOn 0 = true ∧ (s.openOn 0).isSome = true) ∧ (opened {}).validatingOn 0 = false ∧
    descBad d0 = false ∧ d0.lost = false ∧ ({ d0 with lost := true } : Desc).lost = true ∧
    (let s := (serve up).setSlot 3 { st := .staged, beat := 3 }
     let t := fetch 0 s
     s.nextRing = some 0 ∧ t.draining 0 = false ∧ t.openOn 0 = none ∧
       (t.stagedOrder.filter (fun w => w < 4)).getLast? = some 3 ∧ (t.slot 3).prot = false ∧ (t.slot 3).stack = false ∧
       t.beatNow + 2 < (t.slot 3).beat) := by unfold State.heard; decide +kernel

/-- A member that writes one word. -/
def oneMember : Member := { off := 0x150000, words := [0#32] }

/-- A Volley of slot 3 waits for its validation. -/
def validating (x : Slot) : State := s0.setSlot 3 { x with st := .validating }

theorem witness_ValidationStagesOrRefuses :
    s0.awake ∧ ((validating {}).slot 3).st = .validating ∧ ((validating {}).slot 3).answers = [] ∧
    ((validating { tooLarge := true }).slot 3).tooLarge = true ∧
    (∃ x, earlyRows 3 (validating { mode := .reserved }) = some x) ∧
    earlyRows 3 (validating {}) = none ∧ ((validating {}).slot 3).stack = false ∧
    (∃ x, blockChecks (validating { members := [{ off := 0x20000, words := [7#32] }] })
      (((validating { members := [{ off := 0x20000, words := [7#32] }] }).slot 3).writesFor 0) false [] = some x) ∧
    blockChecks (validating {}) (((validating {}).slot 3).writesFor 0) false (validating {}).fab.sends = none ∧
    (validating { mode := .beat, fBeat := 9, given := 3 }).late 3 = true ∧
    earlyRows 3 (validating { mode := .beat, fBeat := 9, given := 3 }) = none ∧ (validating {}).late 3 = false ∧
    earlyRows 3 (validating { stack := true }) = none ∧ (validating { stack := true }).late 3 = false ∧
    ((validating { prot := true, early := some 5 }).slot 3).early = some 5 ∧
    ((validating { prot := true }).slot 3).early = none ∧ (validating { prot := true }).late 3 = false ∧
    (validating { prot := true, mode := .beat, fBeat := 9, given := 3 }).late 3 = true := by
  unfold State.awake
  and_intros <;> first | decide +kernel | exact ⟨(_, _), rfl⟩

/-- This device is member 3 of a stack. -/
def member : State := (s0.put QLK_STACKSTAT_STACK_ID 3).put QLK_LINKSTAT_STATE 3 0

theorem witness_StackVolleyProtocol :
    member.awake ∧ member.ownSid ≠ 0 ∧ blockChecks member [] true [] = none ∧
    (∃ x, blockChecks member [{ m := 0, off := 0x20000, v := 7#32 }] true [] = some x) ∧
    (let s := validating { stack := true, answers := [(0, some 0), (1, some 0)], members := [{ sid := 1, off := 0x20000, words := [0#32] }] }
     (s.slot 3).st = .validating ∧ (s.slot 3).stack = true ∧ (s.slot 3).answers ≠ [] ∧ 1 ∈ (s.slot 3).named ∧
       (s.slot 3).named = [0, 1] ∧
       tabGet (s.slot 3).answers 0 = some 0 ∧ tabGet (s.slot 3).answers 1 = some 0) ∧
    (let s := member.setSlot 7 { st := .validating, beat := 3 }
     (s.slot (4 + 3)).st = .validating ∧ s.now < s.beatTick ((s.slot (4 + 3)).beat - 1)) ∧
    ((withSlot 3 { st := .staged, goSent := true }).slot 3).goSent = true ∧
    (let x : Slot := { st := .staged, applied := true, stack := true, members := [{ sid := 1 }], acks := [(0, true), (1, true)] }
     ((withSlot 3 x).slot 3).applied = true ∧ ((withSlot 3 x).slot 3).named = [0, 1] ∧
       tabGet ((withSlot 3 x).slot 3).acks 0 = true ∧ tabGet ((withSlot 3 x).slot 3).acks 1 = true ∧
       tabGet ((withSlot 3 { x with acks := [] }).slot 3).acks 1 = false) := by
  unfold State.awake
  and_intros <;> first | decide +kernel | exact ⟨(_, _), rfl⟩

theorem witness_HostLinkEvents :
    s0.awake ∧
    (let s : State := { s0 with hif := { s0.hif with armed := true } }
     s.hif.armed = true ∧ s.hif.lost = false) ∧
    (let s : State := { s0 with hif := { s0.hif with waiting := [{ bytes := [1] }] } }
     s.hif.waiting[0]? = some { bytes := [1] }) ∧
    (s0.exportPort 7).link = false ∧
    (let s := ((s0.put PWR_DOMSTAT_ON 0xFFFF 2).put EXP_CFG_EN 1 7).modExport 7 (fun x => { x with link := true, queue := [[]] })
     (s.exportPort 7).link = true ∧ (s.exportPort 7).queue = [[]] ∧ s.exportOpen 7 = true ∧
       (s.flag EXP_CFG_PFC_EN 7 && (s.exportPort 7).paused) = false) ∧
    (let s := (s0.put EXP_CFG_PFC_EN 1 7).put EXP_CFG_VLAN 1 7
     s.flag EXP_CFG_PFC_EN 7 = true ∧ s.flag EXP_CFG_VLAN 7 = true) ∧
    ((s0.modRing (rkindOf 3) 63 (fun r => { r with sigAt := some 5 })).ring (rkindOf 3) 63).sigAt = some 5 ∧
    (let s : State := { s0.put PWR_DOMSTAT_ON 0xFFFF 2 with hif := { s0.hif with linkReady := true },
                                                             boot := { s0.boot with perst := true } }
     s.hif.linkReady = true ∧ s.boot.perst = true ∧ s.domainOn 68 = true) ∧
    up.hif.linkUp = true ∧ up.hif.armed = false ∧
    (let s : State := { s0.put CLK_RSTAT_STATE 1 with boot := { s0.boot with good := [0, 1, 2, 3, 4] } }
     s.railsGood = true ∧ 1 ≤ s.rstate 16 ∧ s.latch = false) ∧ up.linked := by
  unfold State.linked State.heard State.awake; decide +kernel

/-- Quirov link 3 in state `st` with its training data as given. -/
def linkAt (st : Nat) (q : QLink) : State := (s0.put QLK_LINKSTAT_STATE st 3).modQl 3 (fun _ => q)

theorem witness_LinkTrainingStates :
    s0.awake ∧ ((linkAt 0 {}).put QLK_LINKCFG_EN 1 3).flag QLK_LINKCFG_EN 3 = true ∧ (linkAt 0 {}).linkSt 3 = 0 ∧
    ((linkAt 0 {}).ql 3).retry = none ∧ (linkAt 1 {}).linkSt 3 = 1 ∧ ((linkAt 1 { timer := some 4 }).ql 3).timer = some 4 ∧
    ((linkAt 0 { retry := some 4 }).ql 3).retry = some 4 ∧ (linkAt 2 {}).linkSt 3 = 2 ∧
    (linkAt 2 {}).flag QLK_LINKSTAT_MISMATCH 3 = false ∧ (linkAt 2 {}).get QLK_LINKDLY_D 3 ≤ 500 ∧ (linkAt 3 {}).linkSt 3 = 3 ∧
    ((linkAt 3 { fails := 6 }).ql 3).fails < 7 ∧ 7 ≤ ((linkAt 3 { fails := 7 }).ql 3).fails ∧
    (s0.put QLK_LINKSTAT_STATE 3 0).linkSt 0 = 3 ∧ ((linkAt 3 { stalled := true }).ql 3).stalled = true := by unfold State.awake; decide +kernel

theorem witness_StackEvents :
    member.awake ∧ member.isMaster = false ∧ ({ member with qlk := { member.qlk with waits := true } } : State).qlk.waits = true ∧
    (let s := (member.put QLK_PAIRSTAT_ROLE 1).put QLK_LINKSTAT_STATE 3 (member.linkTo 0)
     s.ownSid ≠ 0 ∧ s.role ≠ 0 ∧ Fin.ofNat 5 s.role = 1 ∧ s.linkSt (s.linkTo 0) = 3 ∧ s.qlk.orphan = false) ∧ s0.ownSid = 0 ∧
    bitOf ((s0.put QLK_STACKSTAT_PRESENT 8).get QLK_STACKSTAT_PRESENT) 3 = true := by unfold State.awake; decide +kernel

/-- The machine with its device time as given. -/
def timed (x : Tim) : State := { s0 with tim := x }

theorem witness_DeviceTimeEvents :
    up.linked ∧ s0.awake ∧ s0.ioOk 7 = true ∧ (timed { armed := some 3, setNow := true }).tim.setNow = true ∧ s0.tim.armed = none ∧
    s0.tim.step = none ∧ (timed { armed := some 3 }).tim.setNow = false ∧
    (timed { armed := some 3 }).tim.armAt + Config.beat ≤ s0.now ∧ (timed { pps := some (4, 5) }).tim.pps = some (4, 5) ∧
    s0.isMaster = true ∧ ((timed { run := true }).put TIM_CFG_PPS_OUT_EN 1).flag TIM_CFG_PPS_OUT_EN = true ∧
    (timed { run := true }).tim.run = true ∧
    (let s := (s0.put TIM_CFG_SRC 1).put TIM_CFG_PTP1_EN 1
     s.flag TIM_CFG_SRC = true ∧ s.flag TIM_CFG_PTP1_EN = true ∧ (0#8).toNat = s.get TIM_CFG_DOMAIN ∧
       s.flag TIM_STAT_PTP_LOCK = false ∧ (s.put TIM_STAT_PTP_LOCK 1).flag TIM_STAT_PTP_LOCK = true ∧
       (1000 : Int).natAbs ≤ 1000) := by unfold State.linked State.heard State.awake; decide +kernel

/-- A device of role `r` with its links' state as given. -/
def paired (r : Nat) (x : Qlk) : State := { s0.put QLK_PAIRSTAT_ROLE r with qlk := x }

/-- An epoch that holds nothing. -/
def noEpoch : Epoch := { time := 0, valid := false, links := [], paths := [], slots := [] }

theorem witness_PairEvents :
    s0.awake ∧ (paired 2 {}).role = 2 ∧ (paired 2 { mirrors := [(1, [])] }).qlk.mirrors ≠ [] ∧ (paired 1 {}).role = 1 ∧
    (paired 1 { epochAt := some 2 }).qlk.epochAt = some 2 ∧ (paired 1 {}).qlk.swap = none ∧ (paired 2 {}).qlk.promoAt = none ∧
    ((paired 2 { downAt := some 2 }).put QLK_PAIRCFG_AUTO_LINKLOSS 1).flag QLK_PAIRCFG_AUTO_LINKLOSS = true ∧
    (paired 2 { downAt := some 2 }).qlk.downAt = some 2 ∧ (paired 2 { promoAt := some 2 }).qlk.promoAt = some 2 ∧
    (paired 2 { promoAt := some 2 }).qlk.held = none ∧ (paired 2 { held := some noEpoch }).qlk.held = some noEpoch ∧
    (paired 3 { liftAt := some 2 }).qlk.liftAt = some 2 ∧ (paired 2 { swap := some {} }).isMaster = true ∧
    (paired 2 { swap := some {} }).qlk.swap = some {} ∧
    (let s := ((paired 2 { downAt := some 2 }).put QLK_STACKSTAT_STACK_ID 3).put QLK_LINKSTAT_STATE 3 0
     s.role = 2 ∧ s.isMaster = false ∧ (paired 1 { downAt := some 2 }).isMaster = true ∧ (paired 1 { downAt := some 2 }).role = 1) := by unfold State.awake; decide +kernel

/-- The measurement chain has ended its correction, both units work and run. -/
def measuring (m : Mea) : State :=
  { (s0.put MEA_STAT_UNIT_OK 3).put MEA_UCFG_EN 1 1 with mea := { m with corrected := true } }

theorem witness_MeasurementEvents :
    s0.awake ∧ (measuring {}).unitOk 1 = true ∧ (measuring {}).mea.corrected = true ∧ (measuring {}).flag MEA_STAT_TAKEOVER = false ∧
    (measuring {}).flag MEA_UCFG_EN 1 = true ∧
    ((measuring { units := [(1, { bad := 1, n := 65536 })] }).hk 1).bad = 1 ∧
    ((measuring { units := [(1, { bad := 1, n := 65536 })] }).hk 1).n = 65536 ∧ s0.covered 321 = false ∧ s0.mea.corrected = false ∧
    (let s := s0.put MEA_CHCFG_EN 1 31
     s.flag MEA_CHCFG_EN 31 = true ∧ s.chFir 31 = false ∧ (s.put MEA_CHFIR_FIR_OK 1 31).flag MEA_CHFIR_FIR_OK 31 = true ∧
       s.flag MEA_CHFIR_FIR_OK 31 = false ∧ s.covered 329 = false) ∧
    up.linked ∧
    (let s := s0.put MEA_CMPCFG_W_MODE 1 31
     s.flag MEA_CMPSTAT_CHECKING 63 = false ∧ s.cmpOut 63 = false ∧ s.cmpMode 63 ≠ 0 ∧ s.get MEA_CMPSTAT_STATE 63 ≠ 2) ∧
    ((measuring {}).hk 1).n < 65536 ∧ tabGet s0.mea.hold 63 ≤ s0.now ∧
    (let s := measuring { check := some {} }
     let l : CheckReadings := { low := 2, high := 1, halves := [], lo := 0#16, hi := BitVec.ofNat 16 (64 * s.get MEA_CMPCFG_P_THR_HI 0) }
     s.mea.check = some {} ∧ s.tieOk 0 l = true ∧ swapOk l = true ∧ s.readOk 0 l = true) ∧
    (let s := (s0.put MEA_CHKCTL_AUTO_S 1).put CLK_RSTAT_STATE 1
     s.get MEA_CHKCTL_AUTO_S ≠ 0 ∧ s.mea.check = none ∧ s.rstate 16 ≠ 0 ∧ (∀ c < 64, s.cmpModeCfg c = 0) ∧
       ((List.range 64).map (fun i => ((s.put MEA_CMPCFG_W_MODE 1 31).mea.autoNext + i) % 64)).find?
         (fun c => (s.put MEA_CMPCFG_W_MODE 1 31).cmpModeCfg c ≠ 0) = some 63) := by
  unfold State.linked State.heard State.awake; decide +kernel

theorem witness_ComparatorStateChange :
    (let s := (s0.put MEA_CMPCFG_W_MODE 1 31).put CLK_RSTAT_STATE 1
     s.flag MEA_CMPROUTE_EV_EN 63 = false ∧ s.flag MEA_CMPSTAT_CHECKING 63 = false ∧ s.cmpOut 63 = false ∧ s.cmpMode 63 ≠ 0 ∧
       tabGet s.mea.hold 63 ≤ s.now ∧ (cmpTrigger 63 s.now s).flag RPS_CFG_EN = false ∧ (cmpTrigger 63 s.now s).rstate 16 ≠ 0) := by decide +kernel

/-- Slot 511 with its registers and its state as given: ENABLE, KIND and RUN. -/
def slotAt (en kind run : Nat) (c : CSlot) : State :=
  (((s0.put CTE_SLOTCFG_ENABLE en 511).put CTE_SLOTCFG_KIND kind 511).put CTE_SLOTSTAT_RUN run 511).modCslot 511 (fun _ => c)

theorem witness_ControlEngineEvents :
    s0.awake ∧ (slotAt 1 6 2 {}).slotMayRun 511 = true ∧ (slotAt 0 6 2 {}).slotMayRun 511 = false ∧
    (slotAt 1 6 2 {}).runOf 511 ≠ 0 ∧ (slotAt 1 6 2 {}).runOf 511 ≠ 3 ∧ (slotAt 1 6 2 {}).kindOf 511 ≠ 1 ∧
    ((slotAt 1 6 2 {}).cslot 511).lost = false ∧ ((slotAt 1 6 2 {}).cslot 511).safe = false ∧ (slotAt 1 6 2 {}).fbSame 511 < 64 ∧
    (let s : State := { slotAt 1 1 2 {} with mea := { s0.mea with chans := [(0, { same := 64 })] } }
     s.kindOf 511 = 1 ∧ s.runOf 511 ≠ 0 ∧ (s.cslot 511).lost = false ∧ (s.cslot 511).safe = false ∧ 64 ≤ s.fbSame 511) ∧
    (let s := (s0.put CTE_SLOTCFG_KIND 1 63).put CTE_SLOTCFG_DEST 4 63
     let t := s.modCslot 63 (fun c => { c with shedAt := some 5 })
     (List.range 64).find? (fun n => t.kindOf n = 1 && t.destOf n = 4 && (t.cslot n).shedAt.isSome) = some 63 ∧
       (t.cslot 63).shedAt = some 5 ∧ t.covered 340 = false) ∧
    (slotAt 1 6 0 {}).runOf 511 = 0 ∧ s0.covered 346 = false ∧
    (let s := (s0.put CTE_TESTSTAT_STATE 1).put CTE_TESTSTAT_POINTS 4096
     s.get CTE_TESTSTAT_STATE = 1 ∧ s.get CTE_TESTSTAT_POINTS = 4096) := by unfold State.awake; decide +kernel

theorem witness_SlotConfigurationWrite :
    s0.slotCfgBad 511 (3 * 32768) = true ∧ (slotAt 1 6 0 {}).slotCfgBad 511 (1 + 6 * 8) = false ∧
    ((slotAt 1 6 0 {}).cslot 511).safe = false ∧ (1 + 6 * 8) % 2 = 1 ∧ (slotAt 1 6 0 {}).flag CTE_SLOTCFG_ENABLE 511 = true ∧
    (slotAt 0 6 0 {}).slotCfgBad 511 (1 + 6 * 8) = false ∧ (slotAt 0 6 0 {}).flag CTE_SLOTCFG_ENABLE 511 = false := by
  decide +kernel

/-- The PWM with its data as given. -/
def pwmAt (x : Pwm) : State := { s0 with pwm := x }

theorem witness_PwmEvents :
    s0.awake ∧ s0.ioOk 3 = true ∧ (pwmAt { edge := some 3 }).pwm.edge = some 3 ∧ s0.pwm.edge = none ∧
    (let s := (pwmAt { chans := [(39, { form := 2, start := s0.now })] }).put PWM_BLK_REF 39 7
     let t := (s.put PWM_BLK_LEN 5 7).put PWM_CHCFG_DT 0 39
     t.blankEnd 7 = some (s0.now + 5 * Config.pwmStep)) ∧
    (s0.put PWM_GCFG_SYNC_SEL 0).get PWM_GCFG_SYNC_SEL = 0 ∧
    ((pwmAt { edge := some 3, pers := [9] }).put PWM_GCFG_SYNC_SEL 1).get PWM_GCFG_SYNC_SEL = 1 ∧
    (pwmAt { edge := some 3, pers := [9] }).pwm.pers ≠ [] ∧ (pwmAt { goal := 1 }).pwm.freq ≠ (pwmAt { goal := 1 }).pwm.goal ∧
    (let s := ((pwmAt { edge := some 3 }).put PWM_GCFG_SYNC_SEL 2).put PWM_GSTAT_PULSE_OK 1
     s.get PWM_GCFG_SYNC_SEL = 2 ∧ s.flag PWM_GSTAT_PULSE_OK = true) := by unfold State.awake; decide +kernel

/-- Rack power with its data as given. -/
def rackAt (x : Rps) : State := { s0 with rps := x }

theorem witness_RackPowerEvents :
    s0.awake ∧
    (let t := s0.moveTo (s0.rps.pollAt + s0.get RPS_CFG_POLL * Config.ms)
     (segOk { t with rps := { t.rps with pollAt := t.now } }).rps.enabling = false) ∧
    (let s := (rackAt { enabling := true }).put GLB_BOOTSTAT_STAGE 3
     (segOk s).rps.enabling = true ∧ (segOk s).get GLB_BOOTSTAT_STAGE = 3) ∧
    s0.ioOk 1 = true ∧ badIo.ioOk 1 = false ∧ s0.flag RPS_SEGCTL_ALERT_STUCK 3 = false ∧ s0.segOn 3 = true ∧
    (let s := (s0.put RPS_DEVCFG_EN 1 27).put RPS_DEVCFG_KIND 1 27
     s.pmKind 27 1 = true ∧ ((s.put RPS_DEVCFG_SEG 3 27).put RPS_DEVCFG_ADDR 127 27).get RPS_DEVCFG_ADDR 27 = 127) ∧
    (rackAt { slowAt := some 3 }).rps.slowAt = some 3 ∧
    ((rackAt { retSince := some 3 }).put RPS_STAT_STATE 3).get RPS_STAT_STATE = 3 ∧
    tabGet (rackAt { eodSince := [(3, some 2)] }).rps.eodSince 3 = some 2 ∧
    (s0.put RPS_STRSTAT_STATE 1 3).get RPS_STRSTAT_STATE 3 = 1 ∧ s0.covered 370 = false := by unfold State.awake; decide +kernel

/-- Temperatures as given, with throttle count n. -/
def hotAt (n : Nat) (x : Therm) : State := { s0.put PWR_THSTAT_N n with therm := x }

theorem witness_ThermalAndDomainEvents :
    s0.awake ∧ (measuring {}).mea.corrected = true ∧ (measuring {}).get MEA_STAT_UNIT_OK ≠ 0 ∧ s0.mea.corrected = false ∧
    s0.get PWR_THSTAT_N = 0 ∧ (hotAt 14 { hot := 100000 }).get PWR_THSTAT_N = 14 ∧ (hotAt 14 { hot := 100000 }).hotNow = true ∧
    (hotAt 15 { relAt := some 2, hot := -100000 }).hotNow = false ∧
    (let s : State := { s0 with latch := true, therm := { s0.therm with down := some 3 } }
     s.latch = true ∧ s.therm.down = some 3) ∧
    (let s : State := { s0 with boot := { s0.boot with downAt := some 4, good := [0, 1] } }
     s.latch = false ∧ s.boot.downAt = some 4 ∧ s.boot.good = [] ++ [0, 1]) ∧
    (let s := s0.modDom 79 (fun x => { x with ramp := some 5 })
     (s.dom 79).ramp = some 5) ∧
    (let s := s0.modDom 79 (fun x => { x with off := some 5 })
     (s.dom 79).off = some 5) ∧
    s0.domainOn 79 = true ∧ (s0.dom 79).ramp = none ∧
    (let s := s0.modDom 0 (fun x => { x with ramp := some 5 })
     s.domainOn 0 = false ∧ (s.dom 0).ramp = some 5) := by unfold State.awake; decide +kernel

/-- A FATAL message from source 375. -/
def fatal : FaultMsg :=
  { block := 2, seq := 0, source := 375, kind := 1#8, cls := 3, address := 0#32, p1 := 0#32, p2 := 0#32, p3 := 0#32 }

/-- Faults as given. -/
def faulty (x : Flt) : State := { s0 with flt := x }

theorem witness_MessagesAndShadows :
    s0.awake ∧ tabGet s0.flt.seqs fatal.block = none ∧
    (tabGet (faulty { seqs := [(2, some 1023)] }).flt.seqs 2 = some 1023 ∧ fatal.seq.val = (1023 + 1) % 1024) ∧
    fatal.cls = 3 ∧ s0.covered fatal.source = false ∧
    (faulty { shadows := [{ area := .dugout, till := s0.now + 1 }] }).covered fatal.source = true ∧
    (faulty { shadows := [{ area := .dugout, till := s0.now + 1 }] }).flt.shadows = [{ area := .dugout, till := s0.now + 1 }] := by
  unfold State.awake; decide +kernel

theorem witness_ScorebookAndPowerFailEvents :
    s0.awake ∧ s0.ioOk 0 = true ∧ badIo.ioOk 0 = false ∧ s0.ownSid = 0 ∧ bitOf ((s0.put FLT_CASCADE_MASK 128).get FLT_CASCADE_MASK) 7 = true ∧
    bitOf ((s0.put FLT_CASCADE_MASK 0).get FLT_CASCADE_MASK) 7 = false ∧ 511 < reconUnits 7 ∧ s0.recorded 7 511 ≠ 1 ∧
    ((s0.moveTo (s0.reconAt 7)).count FLT_RECON_COUNT).covered 382 = false ∧ hostDomain 75 = true ∧ 75 < reconUnits 4 ∧
    (faulty { flushAt := some 3 }).flt.flushAt = some 3 ∧ (faulty { flushN := 1 }).flt.flushN ≠ 0 ∧
    (let s : State := { faulty { clearing := true } with boot := { s0.boot with powerUp := false } }
     s.flt.clearing = true ∧ s.boot.powerUp = false ∧ s.flt.clears < 100001 ∧ s.flt.buffer = [] ∧ s.flt.flushCmds = []) ∧
    up.linked ∧ (up.put FLT_SBCUR_AUTOINC 1).flag FLT_SBCUR_AUTOINC = true ∧
    (faulty { pfWindow := some 3 }).flt.pfWindow = some 3 := by unfold State.linked State.heard State.awake; decide +kernel

/-- Start-up as given. -/
def booting (x : Boot) : State := { s0 with boot := x }

/-- A power-on that finds every bank at 3.3 V, and one that finds bank 0 without a level. -/
def found : PowerFound := { provN := true, volts := List.replicate 8 3300, cells := [], banks := [] }

theorem witness_VauxLossAndReturn :
    s0.awake ∧ (booting { dark := true }).boot.dark = true ∧ found.banks = [] ∧
    (powerOn 1 true found (booting { dark := true })).ioOk 0 = true ∧
    (powerOn 1 true { found with volts := [2500] } (booting { dark := true })).ioOk 0 = false := by
  unfold State.awake; decide +kernel

theorem witness_IslandAndRailsStart :
    s0.awake ∧ (booting { island := false }).boot.island = false ∧ (booting { rail := some 4, step := 39 }).boot.rail = some 4 ∧
    (booting { rail := some 4, step := 39 }).boot.step < 40 ∧ s0.latch = false ∧
    40 ≤ (booting { rail := some 4, step := 40, good := [1] }).boot.step ∧
    (booting { rail := some 4, step := 40, good := [1] }).boot.good ≠ [] ∧
    (∃ k < 4, railAtPos k = 2) ∧ (∃ k < 4, railAtPos k ≠ 2) := by
  unfold State.awake; decide +kernel

/-- The first 16 bytes of an image of 112 bytes with security version 5. -/
def goodHeader : List Byte :=
  [0x4D#8, 0x51#8, 0x46#8, 0x57#8, 1#8, 0#8, 0#8, 0#8, 112#8, 0#8, 0#8, 0#8, 5#8, 0#8, 0#8, 0#8]

theorem witness_FirmwareLoadsAndRuns :
    s0.awake ∧ (booting { loading := true }).ioOk 0 = true ∧ (booting { loading := true }).boot.loading = true ∧ (booting { loading := true }).boot.fromHost = false ∧
    goodHeader.map BitVec.toNat = [0x4D, 0x51, 0x46, 0x57, 0x01, 0, 0, 0] ++ leBytes 4 112 ++ leBytes 4 5 ∧
    (([] : List Byte).map BitVec.toNat).take 4 ≠ [0x4D, 0x51, 0x46, 0x57] ∧ (booting { image := true }).boot.image = true ∧
    (booting { image := true, sec := 4, secMax := 5 }).boot.sec < (booting { image := true, sec := 4, secMax := 5 }).boot.secMax ∧
    up.linked ∧ up.mapLocked 0 = false ∧ getBits 1#32 0 1 = 1 ∧ getBits 1#32 1 2 ≠ 3 ∧
    (s0.put GLB_BOOTSTAT_STAGE 4).get GLB_BOOTSTAT_STAGE = 4 ∧ (0x5A01#32).toNat % 4 = 1 ∧ (0x5A02#32).toNat % 4 = 2 ∧
    (0x5A02#32).toNat / 256 % 256 = 0x5A ∧ (0x5B01#32).toNat / 256 % 256 ≠ 0x5A := by
  unfold State.linked State.heard State.awake; decide +kernel

theorem witness_ResetsAndSeedWrites :
    s0.awake ∧ s0.ioOk 0 = true ∧ s0.latch = false ∧ (booting { resetAt := some 3, resetKind := 3 }).boot.resetAt = some 3 ∧ s0.boot.resetAt = none ∧
    (∀ v < 4, ((ringsOff (pcieDown s0)).slot v).st ≠ .validating) ∧
    (let s : State := { s0 with pst := { s0.pst with seedBusy := [(4095, {})] } }
     s.pst.seedBusy.find? (fun y => y.1 = 4095) = some (4095, {})) := by unfold State.awake; decide +kernel

/-- The link is up, the firmware runs, and the host's supervision is as given. -/
def hosted (x : Hif) : State := { up with hif := { x with linkUp := true } }

theorem witness_ActingWritesOfTheRadioSide :
    up.linked ∧ up.running = true ∧ getBits 8#32 3 1 = 1 ∧ getBits 0#32 3 1 = 0 ∧
    (let s := (up.pput TILE_PASTAT_FLT_PIN 95 1).pput TILE_PASTAT_FLT 95 1
     s.pflag TILE_PASTAT_FLT_PIN 95 = true ∧ s.pflag TILE_PASTAT_FLT 95 = true ∧
       (s.pput TILE_PACFG_PA_PRESENT 95 0).pflag TILE_PACFG_PA_PRESENT 95 = false) ∧
    (up.pput TILE_PASTAT_FLT_PIN 95 0).pflag TILE_PASTAT_FLT_PIN 95 = false ∧ getBits 2#32 1 1 = 1 ∧ getBits 1#32 1 1 = 0 ∧
    (hosted { lost := true, beatSince := true }).hif.lost = true ∧ (hosted { lost := true, beatSince := true }).hif.beatSince = true ∧
    (hosted {}).hif.beatSince = false ∧ up.isMaster = true ∧ up.tim.armed = none ∧ (0x80000000#32).toNat / 2 ^ 31 % 2 = 1 ∧
    (0x7FFFFFFF#32).toNat / 2 ^ 31 % 2 = 0 ∧
    ((up.put QLK_STACKSTAT_STACK_ID 3).put QLK_LINKSTAT_STATE 3 0).isMaster = false := by
  unfold State.linked State.heard; decide +kernel

theorem witness_ActingWritesOfThePowerSide :
    up.linked ∧ up.running = true ∧ ({ up with mea := { up.mea with check := some {} } } : State).mea.check ≠ none ∧
    up.mea.check = none ∧ up.boot.asleep = false ∧ (0x1FF#32).toNat / 256 % 2 = 1 ∧ up.get CTE_TESTSTAT_STATE ≠ 1 ∧ (0x5FF#32).toNat / 1024 % 2 = 1 ∧
    (up.put CTE_SLOTSTAT_RUN 2 511).runOf ((0x5FF#32).toNat % 512) = 2 ∧
    (up.put CTE_TESTSTAT_STATE 1).get CTE_TESTSTAT_STATE = 1 ∧
    bitOf (2#32).toNat 1 = true ∧ bitOf (2#32).toNat 3 = false ∧ bitOf (2#32).toNat 4 = false ∧ up.chGroup 47 = none ∧
    (let s : State := { up.put PWM_CHTRIP_MASK 128 47 with pwm := { up.pwm with groups := 128 } }
     s.chGroup 47 ≠ none) ∧
    up.mapLocked 67 = false ∧ 10 ≤ (41#32).toNat / 4 % 256 ∧ (41#32).toNat % 2 = 1 ∧ up.flag RPS_CFG_EN = false ∧
    10 ≤ (1020#32).toNat / 4 % 256 ∧ (1020#32).toNat % 2 = 0 ∧ (39#32).toNat / 4 % 256 < 10 := by
  unfold State.linked State.heard; decide +kernel

theorem witness_RingCommandsComplete :
    (serve up).served (0 : Fin 16).val ∧ d0.lost = false ∧ descBad { d0 with extra := true } = true ∧ descBad d0 = false ∧
    (fetch 0 ((serve up).put SPW_SNAPSTAT_STATE 1 15)).snapState 15 = 1 ∧
    (fetch 0 ((serve up).put SPW_SNAPSTAT_STATE 3 15)).snapState 15 = 3 ∧ (fetch 0 (serve up)).snapState 15 ≠ 3 ∧
    (fetch 0 (serve up)).flt.buffer = [] ∧
    (fetch 0 { serve up with flt := { s0.flt with buffer := [{}] } }).flt.buffer ≠ [] ∧
    (serve { up with flt := { s0.flt with buffer := [{}] } }).served (0 : Fin 16).val ∧
    ((serve up).put STR_CFG_EN 1 63).served (0 : Fin 16).val ∧
    (fetch 0 ((serve up).put STR_CFG_EN 1 63)).flag STR_CFG_EN 63 = true ∧
    (sendRecord { ring := true, dest := 63 } (fetch 0 ((serve up).put STR_CFG_EN 1 63))).1 = true ∧
    (sendRecord { ring := true, dest := 63 } (fetch 0 (((serve up).put STR_CFG_EN 1 63).put STR_STAT_STOPPED 1 63))).1 = false := by
  unfold State.served State.heard; decide +kernel

theorem witness_CalibrationStackAndPairCommands :
    (serve up).served (0 : Fin 16).val ∧ descBad d0 = false ∧
    bitOf (1#16).toNat 0 = true ∧ (fetch 0 (serve up)).rstate 0 ≤ 1 ∧
    (let t := fetch 0 ((serve up).put CLK_TSTAT_STATE 2 15)
     (∀ i < 16, bitOf (0x8000#16).toNat i = true → 2 ≤ t.rstate i ∧ t.rstate i ≠ 4) ∧ (t.cal.running || t.cal.saving) = false) ∧
    (let t := fetch 0 { (serve up).put CLK_TSTAT_STATE 2 15 with cal := { s0.cal with running := true } }
     (t.cal.running || t.cal.saving) = true) ∧
    (let t := fetch 0 ((serve up).put CLK_RSTAT_STATE 2)
     2 ≤ t.rstate 16 ∧ (∀ q < 4, bitOf (15#8).toNat q = true → t.quadRelay q = false) ∧ t.cal.running = false ∧
       (∀ q < 4, (t.synth q).calEnd = none ∧ (t.synth q).want = false)) ∧
    (let s := (((serve up).put QLK_STACKSTAT_STACK_ID 3).put QLK_LINKSTAT_STATE 3 0)
     s.served (0 : Fin 16).val ∧ (fetch 0 s).isMaster = false) ∧
    (fetch 0 (serve up)).isMaster = true ∧ (fetch 0 (serve up)).linkSt 3 ≠ 3 ∧
    (let t := fetch 0 ((((serve up).put QLK_LINKSTAT_STATE 3 3).put QLK_PAIRSTAT_ROLE 1).put QLK_PAIRSTAT_MIRROR_SYNC 1)
     t.linkSt 3 = 3 ∧ t.role = 1 ∧ t.flag QLK_PAIRSTAT_MIRROR_SYNC = true ∧ t.qlk.swap = none) ∧
    (let t := fetch 0 ((serve up).put QLK_PAIRSTAT_ROLE 2)
     t.role = 2 ∧ t.linkSt 3 = 0) ∧ (fetch 0 (serve up)).role ≠ 2 ∧ (fetch 0 (serve up)).role ≠ 1 := by
  unfold State.served State.heard; decide +kernel

theorem witness_RadioAndLinkCommandsLeaveThePowerSide :
    radioEvent (.rxGapEnd 0) = true ∧ (∃ t, exec (.rxGapEnd 0) s0 = .next t) ∧
    ringCommand (.nop d0) = true ∧ (∃ t, exec (.nop d0) (serve up) = .next t) ∧
    linkEvent .powerFail = true ∧ (∃ t, exec .powerFail s0 = .next t) :=
  ⟨rfl, ⟨_, by unfold exec execRxGapEnd; exact row_next _ rfl⟩, rfl,
   ⟨_, by unfold exec execNop; exact ringCmd_next _ _ (by unfold State.served State.heard; decide +kernel) rfl rfl⟩, rfl,
   ⟨_, by unfold exec execPowerFail; exact row_next _ rfl⟩⟩

theorem witness_PowerEventsLeaveTheStore :
    powerEventOf .railFreqStep = true ∧ ∃ t, exec .railFreqStep s0 = .next t :=
  ⟨rfl, _, by unfold exec execRailFreqStep; exact rowP_next _ rfl⟩

/-! ### One step, with values from the manual -/

/-- The worked example of R23: 0.1 s after an alignment pulse a port is a quarter of the way through beat 3,906, and beat 3,907 is
19.2 µs ahead. -/
theorem test_beat_of_R23 :
    (let s := s0.moveTo (s0.now + 100 * Config.ms)
     s.beatNow = 3906 ∧ s.subNow % 1024 = 256 ∧ s.nextBeat - s.now = 19200 * Config.ticksPerNs) := by decide +kernel

/-- R7, R5: a write of one byte is discarded, counted, and its offset recorded. -/
theorem test_narrow_write_counted :
    nextIs (exec (.registerWrite 0x40001 1 5#64) up)
      (fun t => t.get HIF_DISCARDCNT_WRITES = 1 && t.get HIF_DISCARDADDR_OFFSET = 0x40001) = true := by decide +kernel

/-- R7: an address beyond BAR0 does not exist. -/
theorem test_write_beyond_bar0 : exec (.registerWrite 0x400000 4 0#64) up = .fault .outsideBar0 := rfl

/-- R20: GLB_CAPS reads as the table gives it. -/
theorem test_caps_of_R20 :
    State.reset.readReg 0x4 = BitVec.ofNat 32 (96 + 16 * 2 ^ 8 + 8 * 2 ^ 13 + 8 * 2 ^ 17 + 4 * 2 ^ 21 + 8 * 2 ^ 24 + 4 * 2 ^ 28) := by
  decide +kernel

/-- R220, R221: NOP completes with SUCCESS, its tag, PHASE 1 and the ring's new head. -/
theorem test_nop_completes :
    nextIs (exec (.nop d0) (serve up))
      (fun t => tabGet t.hif.cpl 0 = { tag := 7, status := 0, ring := 0, phase := true, head := 1 }) = true := by decide +kernel

/-- R221: the bytes of a completion. -/
theorem test_completion_bytes :
    cplBytes { tag := 0x01020304, status := 0x0506, ring := 7, slot := 2, volley := true, phase := true, head := 0x090A, result := 1 } =
      [4, 3, 2, 1, 6, 5, 0xE7, 0, 0x0A, 9, 0, 0, 1, 0, 0, 0] := by decide

/-- R379, R381: DUGOUT_ENTER enters Dugout. -/
theorem test_dugout_enter : nextIs (exec (.dugoutEnter d0) (serve up)) (fun t => t.flt.dugout) = true := by decide +kernel

/-- R4, R6: a write of FLT_CFG keeps no reserved bit. -/
theorem test_reserved_bits_stay_zero :
    nextIs (exec (.registerWrite (regOff FLT_CFG 0 0) 4 0xFFFFFFFF#64) up)
      (fun t => (t.word FLT_CFG &&& ~~~(BitVec.ofNat 32 FLT_CFG.mask)) = 0#32) = true := by decide +kernel

/-- FIPS 180-4, SHA-384 of the empty message. -/
theorem test_sha384_empty :
    (sha384 []).take 8 = [0x38, 0xB0, 0x60, 0xA7, 0x51, 0xAC, 0x96, 0x38] := by decide +kernel

/-- R220: the descriptor of a WRITE32 as its bytes. -/
theorem test_decode_write32 :
    decodeDescriptor 3 ([0x02, 0, 1, 0, 0x44, 0x33, 0x22, 0x11, 0x08, 0x01, 0x14, 0, 7, 0, 0, 0] ++ List.replicate 48 0) {} =
      .write32 { ring := 3, tag := 0x11223344#32, sid := 1#8 } 0x140108#32 7#32 := by
  decide +kernel

/-- R397: POWER_ON of a device without power samples the straps into the reset state of the registers. -/
theorem test_power_on_straps :
    nextIs (exec (.powerOn 2 true found) { up with boot := { up.boot with dark := true } })
      (fun t => t.get QLK_STACKSTAT_STACK_ID = 2 && t.flag QLK_STACKSTAT_PAIR_SIDE && !t.running) = true := by decide +kernel

end Sys2Proof.Tests
end

section
/-!
PROOFS. The canonical form of the register file (R6): what tidying a block's table leaves, that every command ends with it, and what
each command is granted beyond its own effect.
-/
namespace Sys2Proof.Machine
open Sys2Proof

/-! ### Bits of a word -/

/-- What a mask lets through has no bit outside the mask. -/
theorem and_mask_and_not (w m : Word) : (w &&& m) &&& ~~~m = 0#32 := by
  rw [BitVec.and_assoc, BitVec.and_not_self]
  exact BitVec.and_zero

/-- A word with no bit outside a mask is as it was under the mask. -/
theorem and_mask_of_and_not {w m : Word} (h : w &&& ~~~m = 0#32) : w &&& m = w := by
  ext k hk
  have hb : (w &&& ~~~m)[k] = false := by rw [h]; exact BitVec.getElem_zero hk
  simpa using hb

/-! ### The canonical form of a block's table (R6) -/

/-- An entry after an insertion is the one put in or one that stood there. -/
theorem mem_tabInsert {α : Type} {k : Nat} {v : α} {t : Tab α} {e : Nat × α} (h : e ∈ tabInsert k v t) :
    e = (k, v) ∨ e ∈ t := by
  induction t with
  | nil => simpa [tabInsert] using h
  | cons x t ih =>
    obtain ⟨k', v'⟩ := x
    simp only [tabInsert] at h
    split at h
    · exact List.mem_cons.1 h
    · split at h
      · exact (List.mem_cons.1 h).imp_right (List.mem_cons_of_mem _)
      · rcases List.mem_cons.1 h with rfl | h
        · exact .inr List.mem_cons_self
        · exact (ih h).imp_right (List.mem_cons_of_mem _)

/-- Offsets that rise from neighbour to neighbour rise between any two entries. -/
theorem rising_iff_pairwise {α : Type} (t : Tab α) : rising t = true ↔ t.Pairwise (fun a b => a.1 < b.1) := by
  induction t with
  | nil => simp [rising]
  | cons x t ih =>
    obtain ⟨k, v⟩ := x
    cases t with
    | nil => simp [rising]
    | cons y t =>
      obtain ⟨k', v'⟩ := y
      rw [rising, Bool.and_eq_true, ih, decide_eq_true_iff]
      refine ⟨fun ⟨hk, ht⟩ => List.pairwise_cons.2 ⟨fun e he => ?_, ht⟩,
        fun h => ⟨List.rel_of_pairwise_cons h List.mem_cons_self, h.of_cons⟩⟩
      rcases List.mem_cons.1 he with rfl | he
      · exact hk
      · exact hk.trans (List.rel_of_pairwise_cons ht he)

theorem rising_tabInsert {α : Type} (k : Nat) (v : α) {t : Tab α} (h : rising t = true) : rising (tabInsert k v t) = true := by
  rw [rising_iff_pairwise] at h ⊢
  induction t with
  | nil => simp [tabInsert]
  | cons x t ih =>
    obtain ⟨k', v'⟩ := x
    obtain ⟨hx, ht⟩ := List.pairwise_cons.1 h
    simp only [tabInsert]
    split
    next hlt =>
      refine List.pairwise_cons.2 ⟨fun e he => ?_, h⟩
      rcases List.mem_cons.1 he with rfl | he
      · exact hlt
      · exact hlt.trans (hx e he)
    next hle =>
      split
      next heq => exact List.pairwise_cons.2 ⟨fun e he => heq ▸ hx e he, ht⟩
      next hne =>
        refine List.pairwise_cons.2 ⟨fun e he => ?_, ih ht⟩
        rcases mem_tabInsert he with rfl | he
        · show k' < k
          omega
        · exact hx e he

theorem rising_tabErase {α : Type} (k : Nat) {t : Tab α} (h : rising t = true) : rising (tabErase k t) = true := by
  rw [rising_iff_pairwise] at h ⊢
  exact h.filter _

/-- A block's table is in canonical form when its offsets rise and each entry is in form. -/
theorem blkWf_iff (v : Variant) (b : Blk) (t : Tab Word) :
    blkWf v b t = true ↔ rising t = true ∧ ∀ e ∈ t, entryWf v b e = true := by
  simp [blkWf]

theorem blkWf_tabInsert {v : Variant} {b : Blk} {t : Tab Word} {k : Nat} {w : Word} (he : entryWf v b (k, w) = true)
    (h : blkWf v b t = true) : blkWf v b (tabInsert k w t) = true := by
  rw [blkWf_iff] at h ⊢
  refine ⟨rising_tabInsert k w h.1, fun e hm => ?_⟩
  rcases mem_tabInsert hm with rfl | hm
  · exact he
  · exact h.2 e hm

theorem blkWf_tabErase {v : Variant} {b : Blk} {t : Tab Word} (k : Nat) (h : blkWf v b t = true) :
    blkWf v b (tabErase k t) = true := by
  rw [blkWf_iff] at h ⊢
  exact ⟨rising_tabErase k h.1, fun e hm => h.2 e (List.mem_of_mem_filter hm)⟩

/-- What it is for an entry at a register's offset to be in form (R6). -/
theorem entryWf_iff {v : Variant} {b : Blk} {k i j : Nat} {f : RegFam} (w : Word) (hf : findFam (famsOf b) k = some (f, i, j)) :
    entryWf v b (k, w) = true ↔ (f.held = true ∨ w ≠ regReset v f i) ∧ w &&& ~~~(BitVec.ofNat 32 f.mask) = 0#32 := by
  unfold entryWf
  rw [hf, Bool.and_eq_true, Bool.or_eq_true, decide_eq_true_iff, decide_eq_true_iff]

/-- An entry in form stands at a register's offset. -/
theorem exists_findFam_of_entryWf {v : Variant} {b : Blk} {e : Nat × Word} (h : entryWf v b e = true) :
    ∃ f i j, findFam (famsOf b) e.1 = some (f, i, j) := by
  cases hf : findFam (famsOf b) e.1 with
  | none => unfold entryWf at h; rw [hf] at h; cases h
  | some x => exact ⟨x.1, x.2.1, x.2.2, rfl⟩

/-- Tidying puts the value of a register back without its reserved bits (R6). -/
theorem tidyEntry_of_findFam {v : Variant} {b : Blk} {t : Tab Word} {k i j : Nat} {f : RegFam} (w : Word)
    (hf : findFam (famsOf b) k = some (f, i, j)) :
    tidyEntry v b (k, w) t =
      if f.held then tabInsert k (w &&& BitVec.ofNat 32 f.mask) t
      else tabSetD (regReset v f i) t k (w &&& BitVec.ofNat 32 f.mask) := by
  unfold tidyEntry
  rw [hf]

/-- Tidying drops what stands at no register's offset (R6). -/
theorem tidyEntry_of_findFam_none {v : Variant} {b : Blk} {e : Nat × Word} {t : Tab Word} (hf : findFam (famsOf b) e.1 = none) :
    tidyEntry v b e t = t := by
  unfold tidyEntry
  rw [hf]

/-- A masked value of a register, other than its reset value where it has one, is an entry in form. -/
theorem entryWf_masked {v : Variant} {b : Blk} {k i j : Nat} {f : RegFam} (w : Word) (hf : findFam (famsOf b) k = some (f, i, j))
    (hr : f.held = true ∨ w &&& BitVec.ofNat 32 f.mask ≠ regReset v f i) :
    entryWf v b (k, w &&& BitVec.ofNat 32 f.mask) = true :=
  (entryWf_iff _ hf).2 ⟨hr, and_mask_and_not _ _⟩

theorem blkWf_tidyEntry {v : Variant} {b : Blk} {t : Tab Word} (e : Nat × Word) (h : blkWf v b t = true) :
    blkWf v b (tidyEntry v b e t) = true := by
  cases hf : findFam (famsOf b) e.1 with
  | none => rwa [tidyEntry_of_findFam_none hf]
  | some x =>
    rw [tidyEntry_of_findFam e.2 hf]
    split
    next hh => exact blkWf_tabInsert (entryWf_masked _ hf (.inl hh)) h
    next =>
      unfold tabSetD
      split
      next => exact blkWf_tabErase _ h
      next hr => exact blkWf_tabInsert (entryWf_masked _ hf (.inr hr)) h

/-- Whatever stood in a block's table, tidied it is in canonical form. -/
theorem blkWf_tidyBlk (v : Variant) (b : Blk) (t : Tab Word) : blkWf v b (tidyBlk v b t) = true := by
  unfold tidyBlk
  induction t with
  | nil => rfl
  | cons e t ih => exact blkWf_tidyEntry e ih

@[simp] theorem regsOf_tidyRegs (v : Variant) (r : Regs) (b : Blk) : regsOf (tidyRegs v r) b = tidyBlk v b (regsOf r b) := by
  cases b <;> rfl

/-- The frame of a command leaves the register file in canonical form, whatever the command wrote. -/
theorem framed_regsWf (g : Grant) (s t : State) : (framed g s t).regsWf := by
  intro b
  rw [framed_part, framed_regs, regsOf_tidyRegs]
  exact blkWf_tidyBlk _ _ _

theorem exec_regsWf {i : Instr} {s t : State} (h : exec i s = .next t) : t.regsWf := by
  obtain ⟨u, rfl⟩ := exec_keeps i s t h
  exact framed_regsWf _ _ _

/-! ### Tidying a table that is in form -/

/-- An entry in form that stands before every other goes in front, as it is. -/
theorem tidyEntry_of_entryWf {v : Variant} {b : Blk} {e : Nat × Word} {t : Tab Word} (he : entryWf v b e = true)
    (ht : ∀ x ∈ t, e.1 < x.1) : tidyEntry v b e t = e :: t := by
  obtain ⟨k, w⟩ := e
  have hins : tabInsert k w t = (k, w) :: t := by
    cases t with
    | nil => rfl
    | cons x t => exact if_pos (ht x (by simp))
  obtain ⟨f, i, j, hf⟩ := exists_findFam_of_entryWf he
  obtain ⟨hr, hm⟩ := (entryWf_iff w hf).1 he
  rw [tidyEntry_of_findFam w hf, and_mask_of_and_not hm]
  by_cases hh : f.held = true
  · rw [if_pos hh, hins]
  · rw [if_neg hh, tabSetD, if_neg (hr.resolve_left hh), hins]

/-- Tidying a block's table that is in canonical form changes nothing (R6). -/
theorem tidyBlk_of_blkWf {v : Variant} {b : Blk} {t : Tab Word} (h : blkWf v b t = true) : tidyBlk v b t = t := by
  rw [blkWf_iff, rising_iff_pairwise] at h
  obtain ⟨hr, he⟩ := h
  unfold tidyBlk
  induction t with
  | nil => rfl
  | cons e t ih =>
    obtain ⟨hlt, hr⟩ := List.pairwise_cons.1 hr
    rw [List.foldr_cons, ih hr (fun x hx => he x (List.mem_cons_of_mem _ hx))]
    exact tidyEntry_of_entryWf (he e List.mem_cons_self) hlt

/-! ### What the grants are -/

/-- Only the loss of VAUX may clear the thermal shutdown latch (R360). -/
theorem grantOf_latch {i : Instr} (h : i ≠ .vauxLoss) : (grantOf i).latch = false := by
  cases i with
  | vauxLoss => exact absurd rfl h
  | _ => rfl

/-- The commands that may change the locked pages (R195, R199). -/
theorem grantOf_locks {i : Instr} (h : (grantOf i).locks = true) :
    (∃ v, i = .volleyApply v) ∨ (∃ v, i = .lockApplied v) ∨ (∃ f, i = .islandReady f) ∨ i = .resetAction ∨ i = .vauxLoss := by
  cases i with
  | volleyApply v => exact .inl ⟨v, rfl⟩
  | lockApplied v => exact .inr (.inl ⟨v, rfl⟩)
  | islandReady f => exact .inr (.inr (.inl ⟨f, rfl⟩))
  | resetAction => exact .inr (.inr (.inr (.inl rfl)))
  | vauxLoss => exact .inr (.inr (.inr (.inr rfl)))
  | _ => exact absurd h Bool.false_ne_true

end Sys2Proof.Machine
end

section
/-!
PROOFS. BAR0 accesses (R4-R7): the bits a plain write takes, what a discarded write records, and what a write or a read of each
width is.
-/
namespace Sys2Proof.Machine
open Sys2Proof

/-! ### Bits and bytes of a word -/

/-- The bits `mixBits` takes from its second word are those outside the mask. -/
theorem mixBits_eq (m : Nat) (a b : Word) :
    mixBits m a b = (a &&& BitVec.ofNat 32 m) ||| (b &&& ~~~(BitVec.ofNat 32 m)) := by
  have hn : BitVec.ofNat 32 (2 ^ 32 - 1 - m % 2 ^ 32) = ~~~(BitVec.ofNat 32 m) := by
    apply BitVec.eq_of_toNat_eq
    rw [BitVec.toNat_not, BitVec.toNat_ofNat, BitVec.toNat_ofNat]
    omega
  rw [mixBits, hn]

@[simp] theorem mixBits_zero (a b : Word) : mixBits 0 a b = b := by
  rw [mixBits_eq, BitVec.not_zero, BitVec.and_allOnes]
  simp

@[simp] theorem length_leBytes (n v : Nat) : (leBytes n v).length = n := by
  induction n generalizing v with
  | zero => rfl
  | succ n ih => simp [leBytes, ih]

theorem getD_leBytes {n k : Nat} (v : Nat) (h : k < n) : (leBytes n v).getD k 0 = v / 2 ^ (8 * k) % 256 := by
  induction n generalizing v k with
  | zero => omega
  | succ n ih =>
    cases k with
    | zero => simp [leBytes]
    | succ k =>
      have hp : (2 : Nat) ^ (8 * (k + 1)) = 256 * 2 ^ (8 * k) := by rw [Nat.mul_succ, pow_add]; ring
      rw [leBytes, List.getD_cons_succ, ih _ (by omega), Nat.div_div_eq_div_mul, hp]

/-! ### Register offsets (R417-R423) -/

/-- Every register lies in BAR0. -/
theorem regOff_lt {b : Blk} {f : RegFam} {i j : Nat} (hf : f ∈ famsOf b) (hi : i < f.n1) (hj : j < f.n2) :
    regOff f i j < 0x400000 := by
  have hmax : ∀ b, ∀ g ∈ famsOf b, g.base + g.s1 * (g.n1 - 1) + g.s2 * (g.n2 - 1) < 0x400000 := by
    intro b; cases b <;> decide +kernel
  have h := hmax b f hf
  have h1 : f.s1 * i ≤ f.s1 * (f.n1 - 1) := Nat.mul_le_mul_left _ (by omega)
  have h2 : f.s2 * j ≤ f.s2 * (f.n2 - 1) := Nat.mul_le_mul_left _ (by omega)
  unfold regOff
  omega

/-- The nine counters carry no staged or locked bits, and the offset of each of their registers leads to it. -/
theorem counterFams_decode : ∀ f ∈ counterFams, f.rws = 0 ∧ f.rwl = 0 ∧ ∀ i < f.n1, ∀ j < f.n2,
    blkOf (regOff f i j) = some f.blk ∧ findFam (famsOf f.blk) (regOff f i j) = some (f, i, j) ∧ regOff f i j < 0x400000 := by
  decide +kernel

/-- HIF_HBCFG is the one register of HIF that is staged, and none is locked. -/
theorem hifFams_staged : ∀ f ∈ hifFams, f.rws ≠ 0 ∨ f.rwl ≠ 0 → f = HIF_HBCFG := by decide +kernel

/-! ### A plain write and a discarded one -/

/-- A plain write of a register without W1C bits takes the RW and RWP bits (R4). -/
theorem plainWrite_word_same (s : State) (f : RegFam) (i j : Nat) (v : Word) (h : f.w1c = 0) :
    (plainWrite f i j v s).word f i j = mixBits (f.rw ||| f.rwp) v (s.word f i j) := by
  simp [plainWrite, h]

theorem plainWrite_word_ne (s : State) (f g : RegFam) (i j i' j' : Nat) (v : Word)
    (h : g.blk ≠ f.blk ∨ regOff g i' j' ≠ regOff f i j) : (plainWrite f i j v s).word g i' j' = s.word g i' j' :=
  word_putWord_ne _ _ _ _ _ _ _ _ h

/-- A field put leaves every other register as it was. -/
theorem put_word_ne (s : State) (f : Fld) (g : RegFam) (v i j i' j' : Nat)
    (h : g.blk ≠ f.fam.blk ∨ regOff g i' j' ≠ regOff f.fam i j) : (s.put f v i j).word g i' j' = s.word g i' j' :=
  word_putWord_ne _ _ _ _ _ _ _ _ h

/-- A discarded write changes no register but HIF_DISCARDCNT and HIF_DISCARDADDR (R243). -/
theorem discard_word_ne (off : Nat) (bar2 : Bool) (s : State) {g : RegFam} {i j : Nat}
    (h : g.blk ≠ .hif ∨ (regOff g i j ≠ regOff HIF_DISCARDCNT 0 0 ∧ regOff g i j ≠ regOff HIF_DISCARDADDR 0 0)) :
    (discard off bar2 s).word g i j = s.word g i j := by
  unfold discard State.count
  rw [put_word_ne _ HIF_DISCARDADDR_BAR2 _ _ _ _ _ _ (h.imp_right And.right),
    put_word_ne _ HIF_DISCARDADDR_OFFSET _ _ _ _ _ _ (h.imp_right And.right),
    put_word_ne _ HIF_DISCARDCNT_WRITES _ _ _ _ _ _ (h.imp_right And.left)]

/-- A discarded write is counted, up to the greatest count (R243). -/
theorem discard_get_writes (off : Nat) (bar2 : Bool) (s : State) :
    (discard off bar2 s).get HIF_DISCARDCNT_WRITES = min (s.get HIF_DISCARDCNT_WRITES + 1) (2 ^ 32 - 1) := by
  have hne : HIF_DISCARDCNT.blk ≠ HIF_DISCARDADDR.blk ∨ regOff HIF_DISCARDCNT 0 0 ≠ regOff HIF_DISCARDADDR 0 0 :=
    .inr (by decide)
  unfold discard State.count
  rw [get_put_ne _ _ _ _ _ _ _ _ hne, get_put_ne _ _ _ _ _ _ _ _ hne, get_put_same _ _ _ _ _ (by decide)]
  exact Nat.mod_eq_of_lt (lt_of_le_of_lt (min_le_right _ _) (by decide))

/-- The offset of a discarded BAR0 write is recorded (R243). -/
theorem discard_get_offset {off : Nat} (bar2 : Bool) (s : State) (h : off < 0x400000) :
    (discard off bar2 s).get HIF_DISCARDADDR_OFFSET = off := by
  unfold discard
  rw [get_put_apart _ HIF_DISCARDADDR_BAR2 HIF_DISCARDADDR_OFFSET _ _ _ rfl (by decide) (by decide),
    get_put_same _ _ _ _ _ (by decide)]
  exact Nat.mod_eq_of_lt h

theorem discard_get_bar2 (off : Nat) (bar2 : Bool) (s : State) :
    (discard off bar2 s).get HIF_DISCARDADDR_BAR2 = bit bar2 := by
  unfold discard
  rw [get_put_same _ _ _ _ _ (by decide)]
  exact Nat.mod_eq_of_lt (bit_lt_two _)

/-- A direct write of a register with staged or locked bits is discarded (R5). -/
theorem famWrite_discarded {f : RegFam} (i j : Nat) (v : Word) (s : State) (h : f.rws ≠ 0 ∨ f.rwl ≠ 0) :
    famWrite f i j v s = discard (regOff f i j) false s := by
  unfold famWrite
  rw [if_pos (by simpa using h)]
  rfl

/-- No register with staged or locked bits is one of the two that count discarded writes. -/
theorem discarded_ne_discardRegs {f : RegFam} {i j : Nat} (hf : f ∈ famsOf f.blk) (hi : i < f.n1) (hj : j < f.n2)
    (hd : f.rws ≠ 0 ∨ f.rwl ≠ 0) :
    f.blk ≠ .hif ∨ (regOff f i j ≠ regOff HIF_DISCARDCNT 0 0 ∧ regOff f i j ≠ regOff HIF_DISCARDADDR 0 0) := by
  by_cases hb : f.blk = .hif
  · rw [hb] at hf
    obtain rfl := hifFams_staged f hf hd
    obtain rfl : i = 0 := Nat.lt_one_iff.1 hi
    obtain rfl : j = 0 := Nat.lt_one_iff.1 hj
    exact .inr (by decide)
  · exact .inl hb

/-! ### BAR0 writes by width (R7) -/

/-- A BAR0 write that reaches the machine has its effect. -/
theorem registerWrite_does {s : State} {off : Nat} (bytes : Fin 9) (val : BitVec 64) (hl : s.linked) (ho : off < 0x400000) :
    DoesP (.registerWrite off bytes val) s (registerWrite off bytes val.toNat s) := by
  show execRegisterWrite off bytes val s = _
  unfold execRegisterWrite
  rw [if_neg (by omega), hostAct_next _ hl.1]

theorem hostWrite_linkUp {s : State} (f : State → State) (h : s.hif.linkUp = true) : hostWrite f s = f s := if_pos h

/-- A word at an offset that is no register's is taken by nothing; before the firmware runs the write is counted (R6, R401). -/
theorem wordWrite_reserved {s : State} {off : Nat} (v : Word) (h : ∀ b, blkOf off = some b → findFam (famsOf b) off = none) :
    wordWrite off v s = if 0x10000 ≤ off && !s.running then discard off false s else s := by
  unfold wordWrite
  congr 1
  split
  next => rfl
  next b hb => rw [h b hb]

theorem readReg_reserved {s : State} {off : Nat} (h : ∀ b, blkOf off = some b → findFam (famsOf b) off = none) :
    s.readReg off = 0#32 := by
  unfold State.readReg
  split
  next => rfl
  next b hb => simp only [h b hb]; rfl

/-- A register reads 0 in its reserved bits (R6). -/
theorem readReg_reserved_bits {s : State} {off : Nat} {b : Blk} {f : RegFam} {i j : Nat} (hb : blkOf off = some b)
    (hf : findFam (famsOf b) off = some (f, i, j)) : s.readReg off &&& ~~~(BitVec.ofNat 32 f.mask) = 0#32 := by
  have hr : s.readReg off = s.readFam f i j &&& BitVec.ofNat 32 f.mask &&& ~~~(BitVec.ofNat 32 f.wo) := by
    unfold State.readReg
    rw [hb]
    dsimp only
    rw [hf]
  rw [hr, BitVec.and_assoc, BitVec.and_comm (~~~_), ← BitVec.and_assoc, and_mask_and_not, BitVec.zero_and]

/-- An aligned 32-bit write is the write of its register (R7). -/
theorem registerWrite_word {s : State} {off : Nat} (val : Nat) (hu : s.hif.linkUp = true) (ha : off % 4 = 0) :
    registerWrite off 4 val s = wordWrite off (BitVec.ofNat 32 val) s := by
  simp [registerWrite, bar0Word, hostWrite_linkUp _ hu, ha]

/-- An aligned 64-bit write is two, the lower address first (R7). -/
theorem registerWrite_two_words {s : State} {off : Nat} (val : Nat) (hu : s.hif.linkUp = true) (ha : off % 4 = 0) :
    registerWrite off 8 val s =
      bar0Word (off + 4) (BitVec.ofNat 32 (val / 2 ^ 32)) (wordWrite off (BitVec.ofNat 32 val) s) := by
  simp [registerWrite, bar0Word, hostWrite_linkUp _ hu, ha]

/-- Every other write is discarded and counted (R7). -/
theorem registerWrite_discarded {s : State} {off bytes : Nat} (val : Nat) (hu : s.hif.linkUp = true) (h0 : bytes ≠ 0)
    (h : off % 4 ≠ 0 ∨ (bytes ≠ 4 ∧ bytes ≠ 8)) : registerWrite off bytes val s = discard off false s := by
  have h4 : ¬(off % 4 = 0 ∧ bytes = 4) := by omega
  have h8 : ¬(off % 4 = 0 ∧ bytes = 8) := by omega
  simp [registerWrite, hostWrite_linkUp _ hu, h0, h4, h8]

/-- What an aligned 32-bit write of a reserved address does: before the firmware runs a write outside GLB is
counted (log 90), and nothing else happens (R6). -/
theorem registerWrite_reserved_does {s : State} {off : Nat} (v : BitVec 64) (hl : s.linked) (ha : off % 4 = 0)
    (ho : off < 0x400000) (h : ∀ b, blkOf off = some b → findFam (famsOf b) off = none) :
    DoesP (.registerWrite off 4 v) s (if 0x10000 ≤ off && !s.running then discard off false s else s) := by
  rw [← wordWrite_reserved _ h, ← registerWrite_word _ hl.2 ha]
  exact registerWrite_does 4 v hl ho

/-- While the firmware runs, a write of one of the nine counters is a write by the counter's own code (R81). -/
theorem wordWrite_counter {s : State} {f : RegFam} {i j : Nat} (v : Word) (hf : f ∈ counterFams) (hi : i < f.n1) (hj : j < f.n2)
    (hr : s.running = true) : wordWrite (regOff f i j) v s = counterWrite f i j v s := by
  obtain ⟨hs, hl, hd⟩ := counterFams_decode f hf
  obtain ⟨hb, hfind, -⟩ := hd i hi j hj
  simp [wordWrite, famWrite, hr, hb, hfind, hs, hl, hf]

theorem counterClear_does {s : State} {off : Nat} (v : Word) (hl : s.linked) (ho : off < 0x400000) :
    DoesP (.counterClear off v) s (wordWrite off v s) := by
  show execCounterClear off v s = _
  unfold execCounterClear
  rw [if_neg (by omega), hostReg_next _ _ hl]

/-! ### BAR0 reads by width (R7) -/

theorem readBytes_word (s : State) {off : Nat} (h : off % 4 = 0) : s.readBytes off 4 = leBytes 4 (s.readReg off).toNat := by
  have ho : off / 4 * 4 = off := Nat.div_mul_cancel (Nat.dvd_of_mod_eq_zero h)
  simp [State.readBytes, h, ho]

theorem readBytes_two_words (s : State) {off : Nat} (h : off % 4 = 0) :
    s.readBytes off 8 = leBytes 4 (s.readReg off).toNat ++ leBytes 4 (s.readReg (off + 4)).toNat := by
  simp [State.readBytes, h]

/-- A read inside one aligned word returns the addressed bytes of it. -/
theorem getD_readBytes (s : State) {off n k : Nat} (h : off % 4 + n ≤ 4) (hk : k < n) :
    (s.readBytes off n).getD k 0 = (s.readReg (off / 4 * 4)).toNat / 2 ^ (8 * (off % 4 + k)) % 256 := by
  rw [State.readBytes, if_pos h, ← getD_leBytes _ (show off % 4 + k < 4 by omega)]
  simp [List.getD_eq_getElem?_getD, hk]

theorem readBytes_other (s : State) {off n : Nat} (h : 4 < off % 4 + n) (h8 : off % 4 ≠ 0 ∨ n ≠ 8) :
    s.readBytes off n = List.replicate n 0 := by
  have hn : ¬(off % 4 = 0 ∧ n = 8) := by omega
  rw [State.readBytes, if_neg (by omega)]
  simp [hn]

/-! ### The registers after power-on -/

/-- With nothing listed, every register that has a reset value reads as it. -/
theorem word_reset (f : RegFam) (i j : Nat) : State.reset.word f i j = regReset .mq96_1A f i := by
  have h : regsOf State.reset.regs f.blk = [] := by cases f.blk <;> rfl
  show tabGetD _ (regsOf State.reset.regs f.blk) _ = _
  rw [h]
  rfl

end Sys2Proof.Machine
end

section
/-!
PROOFS. The statements of the scope family, each put together from the lemmas above.
-/
namespace Sys2Proof.Machine
open Sys2Proof

/-- Settles O3: whatever a command writes, its frame tidies the register file on the way out, and a tidied table is in canonical
form; an idle step changes nothing. That tidying leaves a table in form alone is `tidyBlk_of_blkWf`. -/
theorem stepKeepsRegisterForm : Obligations.StepKeepsRegisterForm := by
  intro s t hs h
  unfold step at h
  split at h
  next => cases h; exact hs
  next c rest hp => exact exec_regsWf h

/-- Settles O4: every command keeps the frame with its own grant, and only the loss of VAUX is granted the latch, only the five
named commands the locked pages. -/
theorem everyCommandKeepsTheFrame : Obligations.EveryCommandKeepsTheFrame := by
  intro i s t h
  obtain ⟨u, rfl⟩ := exec_keeps i s t h
  refine ⟨framed_part _ _ _, framed_pending _ _ _, le_max_left _ _, fun hl hi => ?_, fun hne => grantOf_locks ?_⟩
  · rw [framed_latch, hl, grantOf_latch hi, Bool.not_false, Bool.and_true, Bool.or_true]
  · by_contra hg
    exact hne (by rw [framed_locked, if_neg hg])

/-- Settles O7: a read is taken apart by its width, and a reserved bit or address by the mask of `readReg` and by the branch of
`wordWrite` that finds no register. -/
theorem readsAndReservedAddresses : Obligations.ReadsAndReservedAddresses := by
  constructor
  · intro s off
    exact ⟨readBytes_word s, readBytes_two_words s, fun n hn k hk => getD_readBytes s hn hk, fun n hn h8 => readBytes_other s hn h8⟩
  · intro s
    refine ⟨fun off b f i j hb hf => readReg_reserved_bits hb hf, fun off hres => ⟨readReg_reserved hres, ?_, ?_⟩⟩
    · intro v hl ha ho hr
      simpa [hr] using registerWrite_reserved_does v hl ha ho hres
    · intro v hl ha ho hr
      refine ⟨_, registerWrite_reserved_does v hl ha ho hres, fun g i j hg => ?_⟩
      split
      next => exact discard_word_ne _ _ _ hg
      next => rfl

/-- Settles O13: with no W1C bit the written word is `mixBits` of the RW and RWP bits, at this register's place alone. -/
theorem plainWriteTakesWritableBits : Obligations.PlainWriteTakesWritableBits := by
  intro s f i j v h
  exact ⟨by rw [plainWrite_word_same _ _ _ _ _ h, mixBits_eq], fun g i' j' hg => plainWrite_word_ne _ _ _ _ _ _ _ _ hg⟩

/-- Settles O14: the write is discarded, and the register is neither of the two that record discarded writes. -/
theorem stagedAndLockedWritesDiscarded : Obligations.StagedAndLockedWritesDiscarded := by
  intro s f i j v hf hi hj hd
  rw [famWrite_discarded i j v s hd]
  exact ⟨discard_word_ne _ _ _ (discarded_ne_discardRegs hf hi hj hd), discard_get_writes _ _ _,
    discard_get_offset _ _ (regOff_lt hf hi hj), discard_get_bar2 _ _ _, fun g i' j' hg => discard_word_ne _ _ _ hg⟩

/-- Settles O2: nothing is listed at reset, so every table is in form and every register reads its reset value; the page checks
hold FAULT_N low. -/
theorem resetStateIsWellFormed : Obligations.ResetStateIsWellFormed := by
  refine ⟨fun b => ?_, rfl, rfl, rfl, rfl, rfl, by decide +kernel, rfl, fun f _ _ i _ j _ => word_reset f i j⟩
  cases b <;> rfl

/-- Settles O12: a write is split by its width, and the offset of a counter leads to its own access code. That a value other than
all ones changes nothing, HIF_DISCARDCNT included, is the model's reading (log 24). -/
theorem registerWritesAndCounterClears : Obligations.RegisterWritesAndCounterClears := by
  refine ⟨fun s off bytes val => ⟨fun ho => if_pos ho, fun hl ho => ?_⟩, fun s f i j v hf hi hj hl hr => ?_⟩
  · have hd := registerWrite_does bytes val hl ho
    refine ⟨?_, ?_, fun h0 h => ?_⟩
    · rintro rfl ha
      exact registerWrite_word val.toNat hl.2 ha ▸ hd
    · rintro rfl ha
      exact registerWrite_two_words val.toNat hl.2 ha ▸ hd
    · rwa [registerWrite_discarded _ hl.2 (Fin.val_ne_of_ne h0)
        (h.imp_right (And.imp Fin.val_ne_of_ne Fin.val_ne_of_ne))] at hd
  · obtain ⟨-, -, hdec⟩ := counterFams_decode f hf
    obtain ⟨-, -, ho⟩ := hdec i hi j hj
    have hd := counterClear_does v hl ho
    rw [wordWrite_counter v hf hi hj hr] at hd
    exact hd

end Sys2Proof.Machine
end

section
/-!
PROOFS. The clock grid (R16-R22): alignment pulses, beat boundaries and the pinning of crossings, and what the new grid of an
alignment pulse counts from.
-/
namespace Sys2Proof.Machine
open Sys2Proof

/-! ### The alignment pulse of a master and of any other device (R17, R258) -/

theorem alignmentPulse_master {s : State} {t : Nat} (hm : s.isMaster = true) (ht : s.qlk.realignAt = some t) :
    alignmentPulse s = alignNow { s.moveTo t with qlk := { s.qlk with realignAt := none } } := by
  unfold alignmentPulse
  rw [if_pos hm, ht]
  rfl

theorem alignmentPulse_member {s : State} (hm : s.isMaster = false) : alignmentPulse s = joined (alignNow s) := by
  unfold alignmentPulse
  rw [hm]
  rfl

theorem pinIn_ok {s : State} {k : Nat} (f : State → State) (h : s.ioOk k = true) : pinIn k f s = f s := if_pos h

/-- What an alignment pulse has for its own effect: the master's own, or one on the pin of bank 7 (R17, R405). -/
theorem alignmentPulse_does {s : State} (hs : s.awake) :
    Does .alignmentPulse s (if s.isMaster then alignmentPulse s else pinIn 7 alignmentPulse s) :=
  row_next (fun t => if t.isMaster then alignmentPulse t else pinIn 7 alignmentPulse t) hs

/-! ### Pinning an island (R19, R21) -/

theorem pinned_now (i : Nat) (s : State) : (pinned i s).now = s.now := by
  unfold pinned
  dsimp only
  split
  next => split <;> rfl
  next => rfl

theorem pinned_unpinned {i : Nat} {s : State} (h : s.radio.unpinned.contains i = true) :
    (pinned i s).radio.unpinned = s.radio.unpinned.filter (fun x => x ≠ i) := by
  unfold pinned
  rw [if_pos h]
  dsimp only
  split <;> rfl

/-- R21: PINNED shows when the last island that waited is pinned on a grid. -/
theorem pinned_last {i : Nat} {s : State} (h : s.radio.unpinned.contains i = true)
    (hl : s.radio.unpinned.filter (fun x => x ≠ i) = []) (ha : s.radio.aligned = true) :
    (pinned i s).get GLB_XSTAT_PINNED = 1 := by
  unfold pinned
  rw [if_pos h]
  dsimp only
  rw [hl, ha]
  exact get_put_same _ _ _ _ _ (by decide)

theorem repin_waiting {i : Nat} {s : State} (h : s.radio.unpinned.contains i = true) :
    repin i s = pinned i (s.moveTo s.beatCeil) := if_pos h

theorem slipRepin_found {i t : Nat} {s : State} (h : s.radio.slipped.find? (fun e => e.1 = i) = some (i, t)) :
    slipRepin i s = { s.moveTo t with radio := { s.radio with slipped := tabErase i s.radio.slipped } } := by
  unfold slipRepin
  rw [h]
  rfl

/-- R346: the gain reductions of the rung in force take hold at the boundary. -/
theorem beatBoundary_takes_reductions (slips : List Nat) (resid : List BgcUpdate) (released : List Released) (s : State) :
    (beatBoundary slips resid released s).rps.dlNow = (beatBoundary slips resid released s).get RPS_SHEDSTAT_DL_RED ∧
    (beatBoundary slips resid released s).rps.ulNow = (beatBoundary slips resid released s).get RPS_SHEDSTAT_UL_RED :=
  ⟨rfl, rfl⟩

/-- Settles O15: the effect of each event, written out, is what the statement names. -/
theorem gridEventsPinCrossings : Obligations.GridEventsPinCrossings := by
  intro s hs
  have hpulse := alignmentPulse_does hs
  refine ⟨fun slips report => ?_, fun t hm ht => ?_, fun hm hio => ?_, fun i hi => ?_, fun i t hf => ?_⟩
  · exact ⟨_, row_next _ hs, beatBoundary_takes_reductions _ _ _ _⟩
  · rwa [if_pos hm, alignmentPulse_master hm ht] at hpulse
  · rwa [hm, if_neg Bool.false_ne_true, pinIn_ok _ hio, alignmentPulse_member hm] at hpulse
  · have hi' : (s.moveTo s.beatCeil).radio.unpinned.contains i.val = true := hi
    refine ⟨_, row_next _ hs, ?_⟩
    rw [repin_waiting hi]
    refine ⟨pinned_now _ _, fun j => ?_, fun hl ha => ?_⟩
    · rw [pinned_unpinned hi', List.mem_filter]
      simp
    · rw [pinned_unpinned hi'] at hl
      exact pinned_last hi' hl ha
  · refine ⟨_, row_next _ hs, ?_⟩
    rw [slipRepin_found hf]
    exact ⟨rfl, rfl, rfl, rfl⟩

/-! ### What the watch leaves alone when its integrations close at a pulse (R142) -/

theorem put_regs_qlk (s : State) (f : Fld) (v i j : Nat) (h : f.fam.blk ≠ .qlk) :
    (s.put f v i j).regs.qlk = s.regs.qlk := regsOf_regsPut_ne (b := f.fam.blk) (c := .qlk) _ _ h.symm

theorem count_regs_qlk (s : State) (f : Fld) (i j n : Nat) (h : f.fam.blk ≠ .qlk) :
    (s.count f i j n).regs.qlk = s.regs.qlk := put_regs_qlk _ _ _ _ _ h

/-- The moment, the links and their registers, with the variant that gives these their reset values. -/
def State.linkSide (s : State) : Variant × Nat × Qlk × Tab Word := (s.part, s.now, s.qlk, s.regs.qlk)

theorem modSnap_linkSide (x : Nat) (f : Snap → Snap) (s : State) : (s.modSnap x f).linkSide = s.linkSide := (rfl)
theorem modWatch_linkSide (x : Nat) (f : Watch → Watch) (s : State) : (s.modWatch x f).linkSide = s.linkSide := (rfl)
theorem put_linkSide (s : State) (f : Fld) (v i j : Nat) (h : f.fam.blk ≠ .qlk) :
    (s.put f v i j).linkSide = s.linkSide := by simp [State.linkSide, put_regs_qlk _ _ _ _ _ h]
theorem count_linkSide (s : State) (f : Fld) (i j n : Nat) (h : f.fam.blk ≠ .qlk) :
    (s.count f i j n).linkSide = s.linkSide := put_linkSide _ _ _ _ _ h
theorem emit_linkSide (k : EvKind) (src : Nat) (s : State) (a : Area) (p0 p1 p2 p3 : Nat) :
    (emit k src s a p0 p1 p2 p3).linkSide = s.linkSide := by simp [State.linkSide]

theorem snapTrig_linkSide (x src idx : Nat) (s : State) : (snapTrig x src idx s).linkSide = s.linkSide := by
  simp +decide [snapTrig, apply_ite State.linkSide, put_linkSide, count_linkSide, modSnap_linkSide, emit_linkSide]

theorem snapTrigPort_linkSide (src m : Nat) (ports : List Nat) (s : State) :
    (snapTrigPort src m ports s).linkSide = s.linkSide := by
  refine forAll_keeps State.linkSide _ _ _ fun x t => ?_
  split
  · exact snapTrig_linkSide _ _ _ _
  · rfl

theorem closeIntegration_linkSide (n : Nat) (short : Bool) (s : State) :
    (closeIntegration n short s).linkSide = s.linkSide := by
  simp +decide [closeIntegration, apply_ite State.linkSide, snapTrigPort_linkSide, emit_linkSide, modWatch_linkSide, put_linkSide]

theorem alignWatch_linkSide (b : Nat) (s : State) : (alignWatch b s).linkSide = s.linkSide := by
  refine forAll_keeps State.linkSide _ _ _ fun e t => ?_
  simp [apply_ite State.linkSide, modWatch_linkSide, closeIntegration_linkSide]

theorem isMaster_congr {s t : State} (h : t.linkSide = s.linkSide) : t.isMaster = s.isMaster := by
  simp only [State.linkSide, Prod.mk.injEq] at h
  obtain ⟨hpart, -, -, hregs⟩ := h
  have hget (f : Fld) (l : Nat) (hf : f.fam.blk = .qlk) : t.get f l = s.get f l :=
    get_congr_blk f l 0 (by rw [hf]; exact hregs) hpart
  unfold State.isMaster State.ownSid
  rw [hget _ _ rfl]
  simp only [hget QLK_LINKSTAT_STATE _ rfl]

/-- What the Volleys that wait leave alone at an alignment pulse: the grid, the fabric, the crossings and the links. -/
def State.gridSide (s : State) : Nat × Nat × Fab × Radio × Qlk × Variant × Tab Word :=
  (s.now, s.align, s.fab, s.radio, s.qlk, s.part, s.regs.glb)

theorem setSlot_gridSide (v : Nat) (x : Slot) (s : State) : (s.setSlot v x).gridSide = s.gridSide := (rfl)
theorem put_gridSide (s : State) (f : Fld) (v i j : Nat) (h : f.fam.blk ≠ .glb) :
    (s.put f v i j).gridSide = s.gridSide := by
  have hr : (s.put f v i j).regs.glb = s.regs.glb := regsOf_regsPut_ne (b := f.fam.blk) (c := .glb) _ _ h.symm
  simp [State.gridSide, hr]

theorem completeVolley_gridSide (v tag status : Nat) (s : State) (result : Nat) (head : Option Nat) :
    (completeVolley v tag status s result head).gridSide = s.gridSide := by
  have h (c : Nat) (e : CplEntry) : (writeCpl c e s).gridSide = s.gridSide := by simp [State.gridSide]
  simp +decide [completeVolley, lockIdle, apply_ite State.gridSide, put_gridSide, setSlot_gridSide, h]

theorem alignVolleys_gridSide (oldAlign b : Nat) (s : State) : (alignVolleys oldAlign b s).gridSide = s.gridSide := by
  refine (forAll_keeps State.gridSide _ _ _ fun v t => ?_).trans
    ((forAll_keeps State.gridSide _ _ _ fun v t => setSlot_gridSide _ _ _).trans
      (forAll_keeps State.gridSide _ _ _ fun v t => setSlot_gridSide _ _ _))
  split
  · exact completeVolley_gridSide _ _ _ _ _ _
  · exact setSlot_gridSide _ _ _

/-- What the new grid is before the waiting Volleys move to it (R16, R22). -/
def newGrid (s : State) : State := driveAlign 40 (pinAll s.now (alignUnits 0 (alignWatch 0 s)))

theorem alignNow_gridSide (s : State) :
    (alignNow s).gridSide = (newGrid s).gridSide := by
  have he (k : EvKind) (src : Nat) (t : State) : (emit k src t).gridSide = t.gridSide := by simp [State.gridSide]
  unfold alignNow setTAlign
  rw [he, alignVolleys_gridSide]
  simp +decide [put_gridSide, newGrid]

theorem get_glb_congr {s t : State} (h : t.gridSide = s.gridSide) (f : Fld) (i j : Nat) (hf : f.fam.blk = .glb) :
    t.get f i j = s.get f i j := by
  simp only [State.gridSide, Prod.mk.injEq] at h
  obtain ⟨-, -, -, -, -, hpart, hregs⟩ := h
  exact get_congr_blk f i j (by rw [hf]; exact hregs) hpart

theorem alignUnits_linkSide (b : Nat) (s : State) : (alignUnits b s).linkSide = s.linkSide := (rfl)

theorem pinAll_linkSide (t : Nat) (s : State) : (pinAll t s).linkSide = s.linkSide := by
  simp +decide [pinAll, State.linkSide, put_regs_qlk, count_regs_qlk]

theorem driveAlign_alignTill (ns : Nat) (s : State) : (driveAlign ns s).qlk.alignTill =
    if s.isMaster then s.now + ns * Config.ticksPerNs else s.qlk.alignTill := rfl

/-- What pinning at tick t and the pulse on ALIGN_OUT make of the indices that start again at beat 0 (R16, R17, R22). -/
theorem pinAll_grid (ns t : Nat) (w : State) :
    (driveAlign ns (pinAll t (alignUnits 0 w))).now = w.now ∧ (driveAlign ns (pinAll t (alignUnits 0 w))).align = t ∧
    (driveAlign ns (pinAll t (alignUnits 0 w))).fab.sampN = 0 ∧
    (driveAlign ns (pinAll t (alignUnits 0 w))).radio.unpinned = [] ∧
    (driveAlign ns (pinAll t (alignUnits 0 w))).radio.slipped = [] := ⟨rfl, rfl, rfl, rfl, rfl⟩

theorem pinAll_pinned (ns t : Nat) (s : State) : (driveAlign ns (pinAll t s)).get GLB_XSTAT_PINNED = 1 := by
  have hd : (driveAlign ns (pinAll t s)).get GLB_XSTAT_PINNED =
      ((({ s with align := t } : State).put GLB_XSTAT_PINNED 1).count GLB_XSTAT_ALIGN_COUNT).get GLB_XSTAT_PINNED :=
    get_congr _ _ _ rfl rfl
  rw [hd, State.count, get_put_apart _ GLB_XSTAT_ALIGN_COUNT GLB_XSTAT_PINNED _ _ _ rfl (by decide) (by decide)]
  exact get_put_same _ _ _ _ _ (by decide)

theorem newGrid_alignTill (s : State) :
    (newGrid s).qlk.alignTill = if s.isMaster then s.now + 40 * Config.ticksPerNs else s.qlk.alignTill := by
  have hl : (pinAll s.now (alignUnits 0 (alignWatch 0 s))).linkSide = s.linkSide :=
    (pinAll_linkSide _ _).trans ((alignUnits_linkSide 0 _).trans (alignWatch_linkSide 0 s))
  have hm := isMaster_congr hl
  simp only [State.linkSide, Prod.mk.injEq] at hl
  obtain ⟨-, hnow, hqlk, -⟩ := hl
  rw [newGrid, driveAlign_alignTill, hm, hnow, hqlk]

theorem newGrid_now (s : State) : (newGrid s).now = s.now := by
  have hl := alignWatch_linkSide 0 s
  simp only [State.linkSide, Prod.mk.injEq] at hl
  obtain ⟨-, hnow, -, -⟩ := hl
  obtain ⟨h, -⟩ := pinAll_grid 40 s.now (alignWatch 0 s)
  exact h.trans hnow

theorem subNow_of_align {s : State} (h : s.align = s.now) : s.subNow = 0 := by
  unfold State.subNow
  rw [h, Nat.sub_self, Nat.zero_div]

theorem beatNow_of_align {s : State} (h : s.align = s.now) : s.beatNow = 0 := by
  unfold State.beatNow
  rw [h, Nat.sub_self, Nat.zero_div]

theorem beatTick_eq (s : State) (b : Nat) : s.beatTick b = s.align + b * 2 ^ 20 * Config.convSample := by
  unfold State.beatTick
  rw [Nat.mul_assoc]
  rfl

/-- Settles O16: the grid a pulse leaves is `newGrid`, and moving the waiting Volleys to it leaves it as it is. -/
theorem alignmentPulseRestartsTheGrid : Obligations.AlignmentPulseRestartsTheGrid := by
  refine ⟨by decide, by decide, by decide, fun s => ?_⟩
  have hg : (alignNow s).gridSide = (newGrid s).gridSide := alignNow_gridSide s
  have hpin := (get_glb_congr hg GLB_XSTAT_PINNED 0 0 rfl).trans (pinAll_pinned _ _ _)
  obtain ⟨-, halign, hsamp, hunpinned, hslipped⟩ := pinAll_grid 40 s.now (alignWatch 0 s)
  rw [← newGrid] at halign hsamp hunpinned hslipped
  simp only [State.gridSide, Prod.mk.injEq] at hg
  obtain ⟨gnow, galign, gfab, gradio, gqlk, -, -⟩ := hg
  have hnow := galign.trans (halign.trans (gnow.trans (newGrid_now s)).symm)
  have htill := newGrid_alignTill s
  rw [← gfab] at hsamp
  rw [← gradio] at hunpinned hslipped
  rw [← gqlk] at htill
  refine ⟨rfl, rfl, beatTick_eq s, galign.trans halign, subNow_of_align hnow, beatNow_of_align hnow, hsamp, hunpinned, hpin,
    hslipped, fun hm => ?_, fun hm => ?_⟩
  · rw [htill, if_pos hm]
  · rw [htill, hm, if_neg Bool.false_ne_true]

end Sys2Proof.Machine
end

section
/-!
PROOFS. The power side stands apart from the radio, the links and the collector (R25, R27): measurement, PWM, rack power,
temperatures and device time, with the registers of MEA, PWM and RPS, seen as one part of the state. First the rules of an update,
a branch, a fold and a register write; then one lemma per operation, in the model's order. Each operation is put together from the
operations before it, whose lemmas are in the simp set; `+decide` finds the block of each register it writes outside the part.
-/
namespace Sys2Proof.Machine
open Sys2Proof

/-! ### The part, and the writes that stay outside it -/

/-- Measurement, PWM, rack power, temperatures and device time, with the registers of MEA, PWM and RPS. -/
structure PowerSide where
  mea : Mea
  pwm : Pwm
  rps : Rps
  therm : Therm
  tim : Tim
  meaRegs : Tab Word
  pwmRegs : Tab Word
  rpsRegs : Tab Word

/-- The power side of a state. -/
def State.powerSide (s : State) : PowerSide :=
  { mea := s.mea, pwm := s.pwm, rps := s.rps, therm := s.therm, tim := s.tim
    meaRegs := s.regs.mea, pwmRegs := s.regs.pwm, rpsRegs := s.regs.rps }

/-- A block whose registers are not of the power side. -/
def Blk.offPower (b : Blk) : Bool := b ≠ .mea && b ≠ .pwm && b ≠ .rps

/-- An update that takes the five records of the power side from `t`, with registers that agree with those of `t` on its
blocks. -/
@[simp] theorem powerSide_update (t : State) {part now vauxAt align pending free latch flt hif units cal fab past iso spw radio
    pst qlk cte doms boot} {regs : Regs} (hm : regs.mea = t.regs.mea) (hp : regs.pwm = t.regs.pwm)
    (hr : regs.rps = t.regs.rps) :
    (State.mk part now vauxAt align pending free latch regs flt hif units cal fab past iso spw radio pst qlk t.tim t.mea cte
      t.pwm t.rps t.therm doms boot).powerSide = t.powerSide := by
  unfold State.powerSide
  rw [hm, hp, hr]

@[simp] theorem powerSide_ite (c : Prop) [Decidable c] (a b : State) :
    (if c then a else b).powerSide = if c then a.powerSide else b.powerSide := apply_ite _ _ _ _

theorem powerSide_ite_of {c : Prop} [Decidable c] {a b : State} {p : PowerSide} (ha : a.powerSide = p) (hb : b.powerSide = p) :
    (if c then a else b).powerSide = p := by
  split <;> assumption

@[simp] theorem putWord_powerSide (s : State) (f : RegFam) (w : Word) (i j : Nat) (h : f.blk.offPower = true) :
    (s.putWord f w i j).powerSide = s.powerSide := by
  have hr {b : Blk} (hb : b.offPower = false) : regsOf (s.putWord f w i j).regs b = regsOf s.regs b :=
    regsOf_regsPut_ne _ _ fun e => by rw [e, h] at hb; cases hb
  exact powerSide_update s (hr (b := .mea) rfl) (hr (b := .pwm) rfl) (hr (b := .rps) rfl)

@[simp] theorem put_powerSide (s : State) (f : Fld) (v i j : Nat) (h : f.fam.blk.offPower = true) :
    (s.put f v i j).powerSide = s.powerSide := putWord_powerSide _ _ _ _ _ h
@[simp] theorem put_regs_mea (s : State) (f : Fld) (v i j : Nat) (h : f.fam.blk.offPower = true) :
    (s.put f v i j).regs.mea = s.regs.mea := congrArg PowerSide.meaRegs (put_powerSide s f v i j h)
@[simp] theorem put_regs_pwm (s : State) (f : Fld) (v i j : Nat) (h : f.fam.blk.offPower = true) :
    (s.put f v i j).regs.pwm = s.regs.pwm := congrArg PowerSide.pwmRegs (put_powerSide s f v i j h)
@[simp] theorem put_regs_rps (s : State) (f : Fld) (v i j : Nat) (h : f.fam.blk.offPower = true) :
    (s.put f v i j).regs.rps = s.regs.rps := congrArg PowerSide.rpsRegs (put_powerSide s f v i j h)
@[simp] theorem count_powerSide (s : State) (f : Fld) (i j n : Nat) (h : f.fam.blk.offPower = true) :
    (s.count f i j n).powerSide = s.powerSide := put_powerSide _ _ _ _ _ h
@[simp] theorem count_regs_mea (s : State) (f : Fld) (i j n : Nat) (h : f.fam.blk.offPower = true) :
    (s.count f i j n).regs.mea = s.regs.mea := put_regs_mea _ _ _ _ _ h
@[simp] theorem count_regs_pwm (s : State) (f : Fld) (i j n : Nat) (h : f.fam.blk.offPower = true) :
    (s.count f i j n).regs.pwm = s.regs.pwm := put_regs_pwm _ _ _ _ _ h
@[simp] theorem count_regs_rps (s : State) (f : Fld) (i j n : Nat) (h : f.fam.blk.offPower = true) :
    (s.count f i j n).regs.rps = s.regs.rps := put_regs_rps _ _ _ _ _ h
@[simp] theorem pput_powerSide (s : State) (f : Fld) (n v : Nat) (h : f.fam.blk.offPower = true) :
    (s.pput f n v).powerSide = s.powerSide := put_powerSide _ _ _ _ _ h
@[simp] theorem putBit_powerSide (s : State) (f : Fld) (i : Nat) (b : Bool) (h : f.fam.blk.offPower = true) :
    (s.putBit f i b).powerSide = s.powerSide := putWord_powerSide _ _ _ _ _ h

/-- A fold over units leaves the power side as it was when each of its steps does. -/
@[simp] theorem forAll_powerSide {α : Type} (l : List α) (f : α → State → State) (s : State)
    (h : ∀ a t, (f a t).powerSide = t.powerSide) : (forAll l f s).powerSide = s.powerSide :=
  forAll_keeps State.powerSide l f s h

theorem foldl_powerSide {α β : Type} (l : List α) (f : β × State → α → β × State) (b : β × State)
    (h : ∀ b a, (f b a).2.powerSide = b.2.powerSide) : (l.foldl f b).2.powerSide = b.2.powerSide := by
  induction l generalizing b with
  | nil => rfl
  | cons a l ih => exact (ih _).trans (h _ _)

/-! ### What is shared: reports, reactions, pins and the fields of a ring -/

@[simp] theorem reportOnly_powerSide (s t : State) : (reportOnly s t).powerSide = s.powerSide := (rfl)
@[simp] theorem hifOnly_powerSide (s t : State) : (hifOnly s t).powerSide = s.powerSide := (rfl)
@[simp] theorem emit_powerSide (k : EvKind) (src : Nat) (s : State) (a : Area) (p0 p1 p2 p3 : Nat) :
    (emit k src s a p0 p1 p2 p3).powerSide = s.powerSide := reportOnly_powerSide _ _

@[simp] theorem react_powerSide (k : EvKind) (src : Nat) (a : Area) (f : State → State) (s : State) (p0 p1 p2 p3 : Nat)
    (h : ∀ t, (f t).powerSide = t.powerSide) : (react k src a f s p0 p1 p2 p3).powerSide = s.powerSide :=
  powerSide_ite_of (emit_powerSide _ _ _ _ _ _ _ _) ((h _).trans (emit_powerSide _ _ _ _ _ _ _ _))

@[simp] theorem pinIn_powerSide (k : Nat) (f : State → State) (s : State) (h : ∀ t, (f t).powerSide = t.powerSide) :
    (pinIn k f s).powerSide = s.powerSide := powerSide_ite_of (h s) rfl

@[simp] theorem fINDEX_offPower (k : RKind) : (fINDEX k).fam.blk.offPower = true := by cases k <;> rfl
@[simp] theorem fEN_offPower (k : RKind) : (fEN k).fam.blk.offPower = true := by cases k <;> rfl
@[simp] theorem fERR_offPower (k : RKind) : (fERR k).fam.blk.offPower = true := by cases k <;> rfl
@[simp] theorem fSTOPPED_offPower (k : RKind) : (fSTOPPED k).fam.blk.offPower = true := by cases k <;> rfl

/-! ### Time and free words -/

@[simp] theorem moveTo_powerSide (s : State) (t : Nat) : (s.moveTo t).powerSide = s.powerSide := (rfl)
@[simp] theorem fresh_powerSide (s : State) : s.fresh.2.powerSide = s.powerSide := (rfl)

/-! ### The collector: rings, event delivery and the Scorebook buffer (R215-R235, R367-R386) -/

@[simp] theorem modRing_powerSide (s : State) (k : RKind) (i : Nat) (f : Ring → Ring) :
    (s.modRing k i f).powerSide = s.powerSide := (rfl)
@[simp] theorem issueVector_powerSide (v : Nat) (s : State) :
    (issueVector v s).powerSide = s.powerSide := by simp +decide [issueVector]
@[simp] theorem signalRing_powerSide (k : RKind) (i : Nat) (s : State) :
    (signalRing k i s).powerSide = s.powerSide := by simp [signalRing]
@[simp] theorem noteEntry_powerSide (k : RKind) (i : Nat) (s : State) :
    (noteEntry k i s).powerSide = s.powerSide := by simp [noteEntry]
@[simp] theorem advance_powerSide (k : RKind) (i : Nat) (s : State) :
    (advance k i s).powerSide = s.powerSide := by simp [advance]
@[simp] theorem releaseSlot_powerSide (c : Nat) (s : State) : (releaseSlot c s).powerSide = s.powerSide := by simp [releaseSlot]
@[simp] theorem writeCpl_powerSide (c : Nat) (e : CplEntry) (s : State) :
    (writeCpl c e s).powerSide = s.powerSide := by simp [writeCpl]
@[simp] theorem writeEvt_powerSide (e : Nat) (ent : EvtEntry) (s : State) :
    (writeEvt e ent s).powerSide = s.powerSide := by simp [writeEvt]
@[simp] theorem summaryOf_powerSide (e src : Nat) (s : State) :
    (summaryOf e src s).powerSide = s.powerSide := by simp +decide [summaryOf]
@[simp] theorem summaries_powerSide (e : Nat) (s : State) : (summaries e s).powerSide = s.powerSide := by simp [summaries]
@[simp] theorem deliver_powerSide (r : Report) (conseq : Bool) (s : State) :
    (deliver r conseq s).powerSide = s.powerSide := by simp +decide [deliver]
@[simp] theorem openShadow_powerSide (a : Area) (s : State) : (openShadow a s).powerSide = s.powerSide := by simp [openShadow]
@[simp] theorem startFlush_powerSide (s : State) : (startFlush s).powerSide = s.powerSide := by simp [startFlush]
@[simp] theorem bufferRecord_powerSide (r : Report) (conseq : Bool) (p3 : Nat) (s : State) :
    (bufferRecord r conseq p3 s).powerSide = s.powerSide := by simp +decide [bufferRecord]
@[simp] theorem recordReport_powerSide (r : Report) (conseq : Bool) (s : State) :
    (recordReport r conseq s).powerSide = s.powerSide := by simp [recordReport]
@[simp] theorem withhold_powerSide (a : Area) (r : Report) (s : State) :
    (withhold a r s).powerSide = s.powerSide := by simp [withhold]
@[simp] theorem accept_powerSide (a : Area) (r : Report) (s : State) :
    (accept a r s).powerSide = s.powerSide := by simp [accept]

/-! ### Command rings and their descriptors (R216-R221, R242-R247) -/

@[simp] theorem discard_powerSide (off : Nat) (bar2 : Bool) (s : State) :
    (discard off bar2 s).powerSide = s.powerSide := by simp +decide [discard]
@[simp] theorem ringError_powerSide (k : RKind) (i err : Nat) (s : State) :
    (ringError k i err s).powerSide = s.powerSide := by simp [ringError]

@[simp] theorem doorbell_powerSide (k : RKind) (i v off : Nat) (f : State → State) (s : State)
    (h : ∀ t, (f t).powerSide = t.powerSide) :
    (doorbell k i v off f s).powerSide = s.powerSide := by
  simp +decide [doorbell, h]

@[simp] theorem setSlot_powerSide (s : State) (v : Nat) (x : Slot) : (s.setSlot v x).powerSide = s.powerSide := (rfl)
@[simp] theorem fetch_powerSide (r : Nat) (s : State) : (fetch r s).powerSide = s.powerSide := by simp +decide [fetch]
@[simp] theorem completeCmd_powerSide (r tag status : Nat) (s : State) (result : Nat) (head : Option Nat) :
    (completeCmd r tag status s result head).powerSide = s.powerSide := by simp [completeCmd]
@[simp] theorem completeDefer_powerSide (d : Defer) (status : Nat) (s : State) (result : Nat) :
    (completeDefer d status s result).powerSide = s.powerSide := by simp [completeDefer]
@[simp] theorem lockIdle_powerSide (s : State) : (lockIdle s).powerSide = s.powerSide := by simp +decide [lockIdle]
@[simp] theorem completeVolley_powerSide (v tag status : Nat) (s : State) (result : Nat) (head : Option Nat) :
    (completeVolley v tag status s result head).powerSide = s.powerSide := by simp [completeVolley]
@[simp] theorem endOpen_powerSide (v status : Nat) (s : State) :
    (endOpen v status s).powerSide = s.powerSide := by simp [endOpen]

@[simp] theorem descriptor_powerSide (r : Nat) (k : State → State) (s : State) (h : ∀ t, (k t).powerSide = t.powerSide) :
    (descriptor r k s).powerSide = s.powerSide := by
  simp +decide [descriptor, h]

@[simp] theorem command_powerSide (r tag : Nat) (bad : Bool) (k : State → State) (s : State)
    (h : ∀ t, (k t).powerSide = t.powerSide) :
    (command r tag bad k s).powerSide = s.powerSide := by
  refine descriptor_powerSide _ _ _ fun t => ?_
  split
  · simp
  · simp [h]

@[simp] theorem endRingVolley_powerSide (r : Nat) (s : State) : (endRingVolley r s).powerSide = s.powerSide := by
  unfold endRingVolley
  dsimp only
  (repeat' split) <;> simp +decide

/-! ### Radio states and synthesizers (R168-R176, R379) -/

@[simp] theorem setStep_powerSide (s : State) (u : Nat) (x : Step) :
    (s.setStep u x).powerSide = s.powerSide := by simp [State.setStep]
@[simp] theorem modPa_powerSide (s : State) (n : Nat) (f : Pa → Pa) : (s.modPa n f).powerSide = s.powerSide := (rfl)
@[simp] theorem modSynth_powerSide (s : State) (q : Nat) (f : Synth → Synth) : (s.modSynth q f).powerSide = s.powerSide := (rfl)
@[simp] theorem synthHold_powerSide (q : Nat) (s : State) :
    (synthHold q s).powerSide = s.powerSide := by simp +decide [synthHold]
@[simp] theorem synthStart_powerSide (q : Nat) (s : State) :
    (synthStart q s).powerSide = s.powerSide := by simp +decide [synthStart]
@[simp] theorem synthCald_powerSide (q : Nat) (s : State) :
    (synthCald q s).powerSide = s.powerSide := by simp +decide [synthCald]
@[simp] theorem dropEn_powerSide (n : Nat) (s : State) : (dropEn n s).powerSide = s.powerSide := by simp +decide [dropEn]
@[simp] theorem seqDown_powerSide (n : Nat) (s : State) : (seqDown n s).powerSide = s.powerSide := by simp +decide [seqDown]
@[simp] theorem seqUp_powerSide (n : Nat) (s : State) : (seqUp n s).powerSide = s.powerSide := by simp +decide [seqUp]
@[simp] theorem setRstate_powerSide (u new : Nat) (s : State) :
    (setRstate u new s).powerSide = s.powerSide := by simp +decide [setRstate]
@[simp] theorem kickDev_powerSide (s : State) : (kickDev s).powerSide = s.powerSide := by simp +decide [kickDev]
@[simp] theorem kickTile_powerSide (t : Nat) (s : State) : (kickTile t s).powerSide = s.powerSide := by simp [kickTile]
@[simp] theorem kickRadio_powerSide (s : State) : (kickRadio s).powerSide = s.powerSide := by simp [kickRadio]
@[simp] theorem abandonTile_powerSide (t : Nat) (s : State) : (abandonTile t s).powerSide = s.powerSide := by simp [abandonTile]
@[simp] theorem forceRadio_powerSide (s : State) : (forceRadio s).powerSide = s.powerSide := by simp +decide [forceRadio]
@[simp] theorem relayCheck_powerSide (t : Nat) (s : State) : (relayCheck t s).powerSide = s.powerSide := by simp [relayCheck]
@[simp] theorem enterDugout_powerSide (src code : Nat) (s : State) :
    (enterDugout src code s).powerSide = s.powerSide := by simp [enterDugout]
@[simp] theorem raise_powerSide (k : EvKind) (src : Nat) (s : State) (a : Area) (p0 p1 p2 p3 : Nat) :
    (raise k src s a p0 p1 p2 p3).powerSide = s.powerSide := by simp [raise]

/-! ### Sampling ports (R31-R55, R428) -/

@[simp] theorem modUnit_powerSide (s : State) (u : Nat) (f : Unit → Unit) : (s.modUnit u f).powerSide = s.powerSide := (rfl)
@[simp] theorem setCalfac_powerSide (s : State) (t w : Nat) (v : Word) : (s.setCalfac t w v).powerSide = s.powerSide := (rfl)
@[simp] theorem rxGapEnd_powerSide (u : Nat) (s : State) : (rxGapEnd u s).powerSide = s.powerSide := by simp [rxGapEnd]
@[simp] theorem setRamp_powerSide (n pos dir at_ : Nat) (s : State) :
    (setRamp n pos dir at_ s).powerSide = s.powerSide := by simp +decide [setRamp]
@[simp] theorem dacRampDone_powerSide (n : Nat) (s : State) : (dacRampDone n s).powerSide = s.powerSide := by simp [dacRampDone]
@[simp] theorem rangeChange_powerSide (n code d : Nat) (s : State) :
    (rangeChange n code d s).powerSide = s.powerSide := by simp +decide [rangeChange]

@[simp] theorem compSwitch_powerSide (n : Nat) (s : State) : (compSwitch n s).powerSide = s.powerSide := by
  unfold compSwitch
  split <;> simp +decide

@[simp] theorem arcInterval_powerSide (n : Nat) (s : State) : (arcInterval n s).powerSide = s.powerSide := by
  unfold arcInterval
  dsimp only
  (repeat' split) <;> simp +decide

@[simp] theorem ovrDetect_powerSide (u g : Nat) (s : State) : (ovrDetect u g s).powerSide = s.powerSide := by
  unfold ovrDetect
  dsimp only
  split <;> simp +decide

@[simp] theorem setOutOfService_powerSide (u : Nat) (s : State) :
    (setOutOfService u s).powerSide = s.powerSide := by simp +decide [setOutOfService]
@[simp] theorem outOfServiceEvent_powerSide (u : Nat) (s : State) :
    (outOfServiceEvent u s).powerSide = s.powerSide := by simp [outOfServiceEvent]
@[simp] theorem stormReact_powerSide (u oldest : Nat) (s : State) :
    (stormReact u oldest s).powerSide = s.powerSide := by simp +decide [stormReact]
@[simp] theorem storm_powerSide (u oldest : Nat) (s : State) :
    (storm u oldest s).powerSide = s.powerSide := by simp +decide [storm]
@[simp] theorem noteBubble_powerSide (u : Nat) (s : State) :
    (noteBubble u s).powerSide = s.powerSide := by simp +decide [noteBubble]
@[simp] theorem noteStale_powerSide (u : Nat) (s : State) :
    (noteStale u s).powerSide = s.powerSide := by simp +decide [noteStale]
@[simp] theorem mergerSlot_powerSide (u : Nat) (a b : List (Nat × List Int)) (s : State) :
    (mergerSlot u a b s).powerSide = s.powerSide := by simp [mergerSlot]
@[simp] theorem calReject_powerSide (u : Nat) (s : State) :
    (calReject u s).powerSide = s.powerSide := by simp +decide [calReject]
@[simp] theorem latencyDue_powerSide (u : Nat) (rx : Bool) (s : State) :
    (latencyDue u rx s).powerSide = s.powerSide := by simp [latencyDue]

@[simp] theorem stormRecalDone_powerSide (u : Nat) (meas : Option (List Word)) (s : State) :
    (stormRecalDone u meas s).powerSide = s.powerSide := by
  unfold stormRecalDone
  dsimp only
  (repeat' split) <;> simp +decide

@[simp] theorem orxSwitch_powerSide (t i : Nat) (s : State) :
    (orxSwitch t i s).powerSide = s.powerSide := by simp +decide [orxSwitch]

@[simp] theorem orxSettleEnd_powerSide (t : Nat) (s : State) : (orxSettleEnd t s).powerSide = s.powerSide := by
  unfold orxSettleEnd
  split
  · rfl
  · simp +decide

@[simp] theorem showConv_powerSide (u : Nat) (s : State) : (showConv u s).powerSide = s.powerSide := by simp +decide [showConv]
@[simp] theorem bgcConverged_powerSide (u : Nat) (s : State) :
    (bgcConverged u s).powerSide = s.powerSide := by simp [bgcConverged]
@[simp] theorem bandSwitch_powerSide (band u : Nat) (s : State) :
    (bandSwitch band u s).powerSide = s.powerSide := by simp +decide [bandSwitch]
@[simp] theorem tbandSet_powerSide (t : Nat) (s : State) : (tbandSet t s).powerSide = s.powerSide := by simp +decide [tbandSet]
@[simp] theorem clearBgc_powerSide (u : Nat) (s : State) : (clearBgc u s).powerSide = s.powerSide := by simp [clearBgc]
@[simp] theorem calNextGroup_powerSide (s : State) : (calNextGroup s).powerSide = s.powerSide := by simp +decide [calNextGroup]
@[simp] theorem calStart_powerSide (mask : Nat) (save startup : Bool) (cmd : Option Defer) (s : State) :
    (calStart mask save startup cmd s).powerSide = s.powerSide := by simp +decide [calStart]
@[simp] theorem calUnit_powerSide (u : Nat) (m : List Word) (s : State) :
    (calUnit u m s).powerSide = s.powerSide := by simp +decide [calUnit]

@[simp] theorem calFinish_powerSide (s : State) : (calFinish s).powerSide = s.powerSide := by
  unfold calFinish
  dsimp only
  (repeat' split) <;> simp +decide

@[simp] theorem calDone_powerSide (t : Nat) (meas : List (List Word)) (s : State) :
    (calDone t meas s).powerSide = s.powerSide := by simp +decide [calDone]
@[simp] theorem convCal_powerSide (r tag mask : Nat) (save : Bool) (s : State) :
    (convCal r tag mask save s).powerSide = s.powerSide := by simp [convCal]

/-! ### The band fabric (R69-R104) -/

@[simp] theorem modPath_powerSide (s : State) (b : Nat) (f : Path → Path) : (s.modPath b f).powerSide = s.powerSide := (rfl)
@[simp] theorem modGov_powerSide (s : State) (b : Nat) (f : Gov → Gov) : (s.modGov b f).powerSide = s.powerSide := (rfl)
@[simp] theorem pathLatency_powerSide (quiet : Bool) (b : Nat) (s : State) :
    (pathLatency quiet b s).powerSide = s.powerSide := by simp [pathLatency]
@[simp] theorem pathLatencies_powerSide (s : State) : (pathLatencies s).powerSide = s.powerSide := by simp [pathLatencies]
@[simp] theorem noteBank_powerSide (s0 : State) (p : Nat) (s : State) :
    (noteBank s0 p s).powerSide = s.powerSide := by simp [noteBank]
@[simp] theorem setLat_powerSide (p rx tx : Nat) (s : State) :
    (setLat p rx tx s).powerSide = s.powerSide := by simp +decide [setLat]
@[simp] theorem relat_powerSide (p : Nat) (s : State) : (relat p s).powerSide = s.powerSide := by simp [relat]

@[simp] theorem protoSwitchEnd_powerSide (p : Nat) (s : State) : (protoSwitchEnd p s).powerSide = s.powerSide := by
  unfold protoSwitchEnd
  split <;> simp

@[simp] theorem setPath_powerSide (b st : Nat) (s : State) : (setPath b st s).powerSide = s.powerSide := by simp [setPath]
@[simp] theorem leaveTail_powerSide (b : Nat) (old : Route) (s : State) :
    (leaveTail b old s).powerSide = s.powerSide := by simp [leaveTail]
@[simp] theorem notePast_powerSide (n : Nat) (s : State) : (notePast n s).powerSide = s.powerSide := by simp [notePast]
@[simp] theorem refreshPast_powerSide (m : Nat) (s : State) : (refreshPast m s).powerSide = s.powerSide := by simp [refreshPast]

/-! ### Loop isolation (R105-R135) -/

@[simp] theorem modLink_powerSide (s : State) (l : Nat) (f : Link → Link) : (s.modLink l f).powerSide = s.powerSide := (rfl)

@[simp] theorem updateIso_powerSide (b : Nat) (s : State) : (updateIso b s).powerSide = s.powerSide := by
  unfold updateIso
  split <;> simp

@[simp] theorem linkBlock_powerSide (j l : Nat) (s : State) : (linkBlock j l s).powerSide = s.powerSide := by simp [linkBlock]
@[simp] theorem tracking_powerSide (r : Route) (probingOnly : Bool) (s : State) :
    (tracking r probingOnly s).powerSide = s.powerSide := by simp [tracking]
@[simp] theorem loadSeed_powerSide (l : Nat) (r : Seed) (s : State) :
    (loadSeed l r s).powerSide = s.powerSide := by simp [loadSeed]
@[simp] theorem probeStart_powerSide (b : Nat) (s : State) : (probeStart b s).powerSide = s.powerSide := by simp [probeStart]
@[simp] theorem unsquelch_powerSide (b : Nat) (s : State) : (unsquelch b s).powerSide = s.powerSide := by simp [unsquelch]

@[simp] theorem coldStart_powerSide (restart : Bool) (b : Nat) (s : State) :
    (coldStart restart b s).powerSide = s.powerSide := by
  unfold coldStart
  dsimp only
  rw [modGov_powerSide, modPath_powerSide]
  generalize hs : forAll _ _ (unsquelch b s) = s1
  have h1 : s1.powerSide = s.powerSide := by
    rw [← hs]
    refine (forAll_powerSide _ _ _ fun x t => ?_).trans (unsquelch_powerSide b s)
    split
    · rfl
    · split <;> simp
  split
  · rw [modGov_powerSide, updateIso_powerSide]
    refine (forAll_powerSide _ _ _ fun x t => ?_).trans ((modGov_powerSide _ _ _).trans h1)
    split <;> simp
  · simp [h1]

@[simp] theorem enterTraining_powerSide (restart : Bool) (b : Nat) (s : State) :
    (enterTraining restart b s).powerSide = s.powerSide := by simp [enterTraining]
@[simp] theorem trained_powerSide (b : Nat) (k : EvKind) (s : State) :
    (trained b k s).powerSide = s.powerSide := by simp [trained]

@[simp] theorem coldStartStep_powerSide (b : Nat) (s : State) : (coldStartStep b s).powerSide = s.powerSide := by
  unfold coldStartStep
  dsimp only
  split <;> simp +decide

@[simp] theorem trainLimited_powerSide (b : Nat) (s : State) : (trainLimited b s).powerSide = s.powerSide := by
  unfold trainLimited
  dsimp only
  split <;> simp +decide

@[simp] theorem oscDetect_powerSide (b cond : Nat) (s : State) :
    (oscDetect b cond s).powerSide = s.powerSide := by simp [oscDetect]
@[simp] theorem backoffStep_powerSide (b : Nat) (s : State) : (backoffStep b s).powerSide = s.powerSide := by simp [backoffStep]

@[simp] theorem backoffRecovered_powerSide (b : Nat) (s : State) : (backoffRecovered b s).powerSide = s.powerSide := by
  unfold backoffRecovered
  dsimp only
  split <;> simp +decide

@[simp] theorem backoffRelease_powerSide (b : Nat) (s : State) : (backoffRelease b s).powerSide = s.powerSide := by
  unfold backoffRelease
  dsimp only
  split <;> simp +decide

@[simp] theorem setHist_powerSide (s : State) (b : Nat) (h : Hist) : (s.setHist b h).powerSide = s.powerSide := (rfl)

@[simp] theorem shutPath_powerSide (b : Nat) (s : State) : (shutPath b s).powerSide = s.powerSide := by
  unfold shutPath
  dsimp only
  split <;> simp +decide

@[simp] theorem pathShutdown_powerSide (b : Nat) (s : State) :
    (pathShutdown b s).powerSide = s.powerSide := by simp [pathShutdown]

@[simp] theorem pathRestart_powerSide (b : Nat) (s : State) : (pathRestart b s).powerSide = s.powerSide := by
  unfold pathRestart
  split <;> simp

@[simp] theorem clearLockout_powerSide (b : Nat) (s : State) :
    (clearLockout b s).powerSide = s.powerSide := by simp [clearLockout]
@[simp] theorem clearOffside_powerSide (b : Nat) (s : State) :
    (clearOffside b s).powerSide = s.powerSide := by simp [clearOffside]
@[simp] theorem latchLost_powerSide (l : Nat) (s : State) : (latchLost l s).powerSide = s.powerSide := by simp [latchLost]
@[simp] theorem loseSlice_powerSide (c : Nat) (s : State) :
    (loseSlice c s).powerSide = s.powerSide := by simp +decide [loseSlice]
@[simp] theorem sliceLost_powerSide (c : Nat) (s : State) : (sliceLost c s).powerSide = s.powerSide := by simp [sliceLost]
@[simp] theorem sliceReload_powerSide (c : Nat) (s : State) : (sliceReload c s).powerSide = s.powerSide := by simp [sliceReload]
@[simp] theorem offsideMute_powerSide (port k b : Nat) (s : State) :
    (offsideMute port k b s).powerSide = s.powerSide := by simp [offsideMute]
@[simp] theorem offsideMutes_powerSide (port k : Nat) (s : State) :
    (offsideMutes port k s).powerSide = s.powerSide := by simp [offsideMutes]
@[simp] theorem squelchOn_powerSide (b : Nat) (s : State) : (squelchOn b s).powerSide = s.powerSide := by simp [squelchOn]
@[simp] theorem squelchOff_powerSide (b : Nat) (s : State) : (squelchOff b s).powerSide = s.powerSide := by simp [squelchOff]
@[simp] theorem pathBlock_powerSide (b : Nat) (s : State) : (pathBlock b s).powerSide = s.powerSide := by simp [pathBlock]
@[simp] theorem isoBlockEnd_powerSide (s : State) : (isoBlockEnd s).powerSide = s.powerSide := by simp [isoBlockEnd]
@[simp] theorem startSeed_powerSide (l : Nat) (s : State) :
    (startSeed l s).powerSide = s.powerSide := by simp +decide [startSeed]
@[simp] theorem seedWrite_powerSide (l : Nat) (s : State) : (seedWrite l s).powerSide = s.powerSide := by simp [seedWrite]

@[simp] theorem seedWriteDone_powerSide (slot : Nat) (ok : Bool) (s : State) :
    (seedWriteDone slot ok s).powerSide = s.powerSide := by
  unfold seedWriteDone
  split <;> simp +decide

/-! ### One sub-band sample (R56-R121, R193) -/

@[simp] theorem noteLevel_powerSide (key : Nat) (x : Smp) (s : State) :
    (noteLevel key x s).powerSide = s.powerSide := by simp [noteLevel]

@[simp] theorem cancelOne_powerSide (n port k : Nat) (s : State) : (cancelOne n port k s).powerSide = s.powerSide := by
  unfold cancelOne
  split <;> simp

@[simp] theorem cancelAll_powerSide (n : Nat) (s : State) : (cancelAll n s).powerSide = s.powerSide := by simp [cancelAll]
@[simp] theorem fadeInputs_powerSide (miss : List (Nat × Nat)) (f : Feed) (s : State) :
    (fadeInputs miss f s).powerSide = s.powerSide := by simp [fadeInputs]
@[simp] theorem stepProbe_powerSide (f : Feed) (s : State) : (stepProbe f s).powerSide = s.powerSide := by simp [stepProbe]
@[simp] theorem noteClip_powerSide (fs : List Feed) (o k : Nat) (s : State) :
    (noteClip fs o k s).powerSide = s.powerSide := by simp +decide [noteClip]

@[simp] theorem outputOne_powerSide (n : Nat) (fs : List Feed) (o k : Nat) (miss : List (Nat × Nat))
    (missOut : List (Nat × Nat)) (s : State) :
    (outputOne n fs o k miss missOut s).powerSide = s.powerSide := by simp [outputOne]

@[simp] theorem synthOne_powerSide (n o : Nat) (s : State) : (synthOne n o s).powerSide = s.powerSide := by
  unfold synthOne
  dsimp only
  refine powerSide_ite_of ?_ (powerSide_ite_of ?_ ?_)
  · exact powerSide_update s rfl rfl rfl
  · rw [emit_powerSide, modUnit_powerSide, count_powerSide _ _ _ _ _ rfl]
    exact powerSide_update s rfl rfl rfl
  · rw [modUnit_powerSide, count_powerSide _ _ _ _ _ rfl]
    exact powerSide_update s rfl rfl rfl

@[simp] theorem noteSat_powerSide (n p : Nat) (s : State) : (noteSat n p s).powerSide = s.powerSide := by
  unfold noteSat
  split <;> simp +decide

@[simp] theorem noteRemote_powerSide (fs : List Feed) (s : State) :
    (noteRemote fs s).powerSide = s.powerSide := by simp [noteRemote]
@[simp] theorem takeRemote_powerSide (l : List RemoteSmp) (s : State) :
    (takeRemote l s).powerSide = s.powerSide := by simp [takeRemote]
@[simp] theorem dropTails_powerSide (s : State) : (dropTails s).powerSide = s.powerSide := by simp [dropTails]

@[simp] theorem noteLacks_powerSide (n : Nat) (missCxl missWatch : List Nat) (s : State) :
    (noteLacks n missCxl missWatch s).powerSide = s.powerSide := by
  refine (forAll_powerSide _ _ _ fun p t => ?_).trans (forAll_powerSide _ _ _ fun p t => ?_)
  · split <;> simp
  · split <;> simp

@[simp] theorem sampleStep_powerSide (missIn missOut : List (Nat × Nat)) (missCxl missWatch : List Nat)
    (remote : List RemoteSmp) (s : State) :
    (sampleStep missIn missOut missCxl missWatch remote s).powerSide = s.powerSide := by simp +decide [sampleStep]

@[simp] theorem gateOne_powerSide (key : Nat) (s : State) : (gateOne key s).powerSide = s.powerSide := by simp +decide [gateOne]
@[simp] theorem gateBlockEnd_powerSide (s : State) : (gateBlockEnd s).powerSide = s.powerSide := by simp [gateBlockEnd]

/-! ### Stream rings and the ports to the network (R223, R236-R240) -/

@[simp] theorem fillRing_powerSide (r kind : Nat) (bytes : List Nat) (n off : Nat) (s : State) :
    (fillRing r kind bytes n off s).2.powerSide = s.powerSide := by
  induction n generalizing off s with
  | zero => rfl
  | succ n ih =>
    unfold fillRing
    split
    · rfl
    · simp [ih]

@[simp] theorem dropOnRing_powerSide (r : Nat) (s : State) :
    (dropOnRing r s).powerSide = s.powerSide := by simp +decide [dropOnRing]
@[simp] theorem modExport_powerSide (s : State) (e : Nat) (f : Export → Export) :
    (s.modExport e f).powerSide = s.powerSide := (rfl)
@[simp] theorem pushFrame_powerSide (e kind : Nat) (waits : Bool) (bytes : List Nat) (off : Nat) (s : State) :
    (pushFrame e kind waits bytes off s).powerSide = s.powerSide := by simp [pushFrame]

@[simp] theorem fillExport_powerSide (e kind : Nat) (waits : Bool) (bytes : List Nat) (n off : Nat) (s : State) :
    (fillExport e kind waits bytes n off s).2.powerSide = s.powerSide := by
  induction n generalizing off s with
  | zero => rfl
  | succ n ih =>
    unfold fillExport
    dsimp only
    split
    · rfl
    · simp [ih]

@[simp] theorem dropOnExport_powerSide (e : Nat) (s : State) :
    (dropOnExport e s).powerSide = s.powerSide := by simp +decide [dropOnExport]

@[simp] theorem sendWhole_powerSide (ring : Bool) (d kind : Nat) (bytes : List Nat) (s : State) :
    (sendWhole ring d kind bytes s).2.powerSide = s.powerSide := by
  unfold sendWhole
  dsimp only
  split <;> split <;> simp

@[simp] theorem dropWaiting_powerSide (w : Waiting) (s : State) :
    (dropWaiting w s).powerSide = s.powerSide := by simp [dropWaiting]

@[simp] theorem pushWaiting_powerSide (w : Waiting) (s : State) : (pushWaiting w s).2.powerSide = s.powerSide := by
  unfold pushWaiting
  dsimp only
  split <;> split <;> simp

@[simp] theorem pump_powerSide (s : State) : (pump s).powerSide = s.powerSide := by
  refine foldl_powerSide _ _ _ fun a w => ?_
  dsimp only
  split
  · split <;> simp
  · simp

@[simp] theorem sendRecord_powerSide (w : Waiting) (s : State) : (sendRecord w s).2.powerSide = s.powerSide := by
  unfold sendRecord
  split <;> simp

@[simp] theorem abandon_powerSide (ring : Bool) (d : Nat) (s : State) :
    (abandon ring d s).2.powerSide = s.powerSide := by simp [abandon]

/-! ### The spectrum watch and snapshots (R136-R167) -/

@[simp] theorem modWatch_powerSide (s : State) (n : Nat) (f : Watch → Watch) : (s.modWatch n f).powerSide = s.powerSide := (rfl)
@[simp] theorem combFeed_powerSide (b : Nat) (bins : List Nat) (s : State) :
    (combFeed b bins s).powerSide = s.powerSide := by simp [combFeed]

@[simp] theorem fineTransform_powerSide (n : Nat) (s : State) : (fineTransform n s).powerSide = s.powerSide := by
  unfold fineTransform
  dsimp only
  split
  · rfl
  · refine (forAll_powerSide _ _ _ fun b t => ?_).trans (by simp)
    split
    · simp
    · rfl

@[simp] theorem modSnap_powerSide (s : State) (x : Nat) (f : Snap → Snap) : (s.modSnap x f).powerSide = s.powerSide := (rfl)
@[simp] theorem snapTrig_powerSide (x src idx : Nat) (s : State) :
    (snapTrig x src idx s).powerSide = s.powerSide := by simp +decide [snapTrig]
@[simp] theorem snapTrigPort_powerSide (src m : Nat) (ports : List Nat) (s : State) :
    (snapTrigPort src m ports s).powerSide = s.powerSide := by simp [snapTrigPort]
@[simp] theorem captureRaw_powerSide (u : Nat) (s : State) : (captureRaw u s).powerSide = s.powerSide := by simp [captureRaw]
@[simp] theorem noteSnapAtt_powerSide (range : Bool) (u c code : Nat) (s : State) :
    (noteSnapAtt range u c code s).powerSide = s.powerSide := by simp [noteSnapAtt]
@[simp] theorem orxSwitchTo_powerSide (t i : Nat) (s : State) :
    (orxSwitchTo t i s).powerSide = s.powerSide := by simp [orxSwitchTo]
@[simp] theorem markRaw_powerSide (u bits g : Nat) (s : State) :
    (markRaw u bits g s).powerSide = s.powerSide := by simp [markRaw]

@[simp] theorem captureSub_powerSide (n : Nat) (s : State) : (captureSub n s).powerSide = s.powerSide := by
  refine forAll_powerSide _ _ _ fun x t => ?_
  dsimp only
  split
  · rfl
  · simp

@[simp] theorem startMove_powerSide (x : Nat) (s : State) :
    (startMove x s).powerSide = s.powerSide := by simp +decide [startMove]
@[simp] theorem snapDone_powerSide (x : Nat) (s : State) : (snapDone x s).powerSide = s.powerSide := by simp +decide [snapDone]
@[simp] theorem snapArm_powerSide (x : Nat) (s : State) : (snapArm x s).powerSide = s.powerSide := by simp +decide [snapArm]
@[simp] theorem unwait_powerSide (x : Nat) (s : State) : (unwait x s).powerSide = s.powerSide := by simp [unwait]

@[simp] theorem snapMoved_powerSide (x : Nat) (s : State) : (snapMoved x s).powerSide = s.powerSide := by
  unfold snapMoved
  dsimp only
  (repeat' split) <;> simp +decide

@[simp] theorem snapIdle_powerSide (x : Nat) (s : State) : (snapIdle x s).powerSide = s.powerSide := by
  unfold snapIdle
  split <;> simp +decide

@[simp] theorem snapAbort_powerSide (x : Nat) (s : State) : (snapAbort x s).powerSide = s.powerSide := by simp [snapAbort]
@[simp] theorem closeIntegration_powerSide (n : Nat) (short : Bool) (s : State) :
    (closeIntegration n short s).powerSide = s.powerSide := by simp +decide [closeIntegration]
@[simp] theorem integrationEnd_powerSide (n : Nat) (s : State) :
    (integrationEnd n s).powerSide = s.powerSide := by simp [integrationEnd]

@[simp] theorem productHandover_powerSide (n : Nat) (s : State) : (productHandover n s).powerSide = s.powerSide := by
  refine (forAll_powerSide _ _ _ fun r t => ?_).trans (modWatch_powerSide _ _ _)
  dsimp only
  split <;> split <;> simp +decide

@[simp] theorem watchClear_powerSide (w : Nat) (s : State) : (watchClear w s).powerSide = s.powerSide := by simp [watchClear]
@[simp] theorem watchLost_powerSide (w : Nat) (s : State) : (watchLost w s).powerSide = s.powerSide := by simp [watchLost]
@[simp] theorem watchRestart_powerSide (w : Nat) (s : State) :
    (watchRestart w s).powerSide = s.powerSide := by simp [watchRestart]
@[simp] theorem dwellSample_powerSide (t m : Nat) (s : State) :
    (dwellSample t m s).powerSide = s.powerSide := by simp [dwellSample]
@[simp] theorem dwellTo_powerSide (t m : Nat) (s : State) : (dwellTo t m s).powerSide = s.powerSide := by simp [dwellTo]
@[simp] theorem dwellsTo_powerSide (n : Nat) (s : State) : (dwellsTo n s).powerSide = s.powerSide := by simp [dwellsTo]
@[simp] theorem declareViolation_powerSide (o k first : Nat) (s : State) :
    (declareViolation o k first s).powerSide = s.powerSide := by simp +decide [declareViolation]

@[simp] theorem offsideDwellEnd_powerSide (t late : Nat) (level : List (Nat × Nat)) (s : State) :
    (offsideDwellEnd t late level s).powerSide = s.powerSide := by
  unfold offsideDwellEnd
  refine powerSide_ite_of rfl ?_
  extract_lets b i o s1 manual d first able done blind ks s2 s3 found since keep iso s4 s5 s6 i' s7 spw s8
  have h3 : s3.powerSide = s.powerSide := by
    refine powerSide_ite_of ?_ ?_
    · simp +decide [s1, s2]
    · simp +decide [s1, s2]
  have h4 : s4.powerSide = s3.powerSide := powerSide_update s3 rfl rfl rfl
  have h5 : s5.powerSide = s4.powerSide := powerSide_ite_of (put_powerSide _ _ _ _ _ rfl) rfl
  have h6 : s6.powerSide = s5.powerSide := by
    clear_value since
    cases since with
    | none => rfl
    | some f => exact powerSide_ite_of (raise_powerSide ..) rfl
  have h8 : s8.powerSide = s6.powerSide :=
    (powerSide_update s7 rfl rfl rfl).trans (put_powerSide _ _ _ _ _ rfl)
  have h : s8.powerSide = s.powerSide := by rw [h8, h6, h5, h4, h3]
  exact powerSide_ite_of h ((orxSwitchTo_powerSide _ _ _).trans h)

/-! ### Crossfades, remote inputs and quiet entries (R97-R104, R181-R183) -/

@[simp] theorem disablePath_powerSide (fade : Bool) (old : Route) (b : Nat) (s : State) :
    (disablePath fade old b s).powerSide = s.powerSide := by simp [disablePath]
@[simp] theorem xfEnd_powerSide (x : Nat) (s : State) : (xfEnd x s).powerSide = s.powerSide := by simp +decide [xfEnd]
@[simp] theorem xfEvent_powerSide (k : EvKind) (x : Nat) (s : State) :
    (xfEvent k x s).powerSide = s.powerSide := by simp [xfEvent]
@[simp] theorem xfDrop_powerSide (b : Nat) (s : State) : (xfDrop b s).powerSide = s.powerSide := by simp +decide [xfDrop]
@[simp] theorem xfadeStart_powerSide (x : Nat) (s : State) :
    (xfadeStart x s).powerSide = s.powerSide := by simp +decide [xfadeStart]
@[simp] theorem xfadeDone_powerSide (x : Nat) (s : State) : (xfadeDone x s).powerSide = s.powerSide := by simp [xfadeDone]
@[simp] theorem xfadeAbort_powerSide (x : Nat) (s : State) : (xfadeAbort x s).powerSide = s.powerSide := by simp [xfadeAbort]
@[simp] theorem remoteLost_powerSide (l : Nat) (s : State) : (remoteLost l s).powerSide = s.powerSide := by simp [remoteLost]
@[simp] theorem lossAgain_powerSide (l : Nat) (s : State) : (lossAgain l s).powerSide = s.powerSide := by simp [lossAgain]
@[simp] theorem remoteResume_powerSide (l : Nat) (s : State) :
    (remoteResume l s).powerSide = s.powerSide := by simp [remoteResume]
@[simp] theorem routeFatal_powerSide (q : Nat) (s : State) : (routeFatal q s).powerSide = s.powerSide := by simp [routeFatal]
@[simp] theorem routeReload_powerSide (q : Nat) (s : State) : (routeReload q s).powerSide = s.powerSide := by simp [routeReload]
@[simp] theorem modQuiet_powerSide (s : State) (e : Nat) (f : Quiet → Quiet) : (s.modQuiet e f).powerSide = s.powerSide := (rfl)
@[simp] theorem qreqRise_powerSide (q : Nat) (s : State) : (qreqRise q s).powerSide = s.powerSide := by simp +decide [qreqRise]

@[simp] theorem qgrant_powerSide (q : Nat) (s : State) : (qgrant q s).powerSide = s.powerSide := by
  unfold qgrant
  split <;> simp +decide

@[simp] theorem qreqFall_powerSide (q : Nat) (s : State) : (qreqFall q s).powerSide = s.powerSide := by simp +decide [qreqFall]
@[simp] theorem qgntRise_powerSide (i : Nat) (s : State) : (qgntRise i s).powerSide = s.powerSide := by simp +decide [qgntRise]
@[simp] theorem qgntFall_powerSide (i : Nat) (s : State) : (qgntFall i s).powerSide = s.powerSide := by simp +decide [qgntFall]

@[simp] theorem qgntTimeout_powerSide (i : Nat) (s : State) : (qgntTimeout i s).powerSide = s.powerSide := by
  unfold qgntTimeout
  split
  · rfl
  · simp +decide

/-! ### The alignment pulse and the ends of radio steps (R16-R19, R168-R179) -/

@[simp] theorem alignVolleys_powerSide (oldAlign b : Nat) (s : State) :
    (alignVolleys oldAlign b s).powerSide = s.powerSide := by simp [alignVolleys]
@[simp] theorem setTAlign_powerSide (t : Nat) (s : State) :
    (setTAlign t s).powerSide = s.powerSide := by simp +decide [setTAlign]
@[simp] theorem alignWatch_powerSide (b : Nat) (s : State) : (alignWatch b s).powerSide = s.powerSide := by simp [alignWatch]
@[simp] theorem alignUnits_powerSide (b : Nat) (s : State) : (alignUnits b s).powerSide = s.powerSide := by simp [alignUnits]
@[simp] theorem pinAll_powerSide (t : Nat) (s : State) : (pinAll t s).powerSide = s.powerSide := by simp +decide [pinAll]
@[simp] theorem driveAlign_powerSide (ns : Nat) (s : State) : (driveAlign ns s).powerSide = s.powerSide := by simp [driveAlign]
@[simp] theorem alignNow_powerSide (s : State) (b : Nat) : (alignNow s b).powerSide = s.powerSide := by simp [alignNow]

@[simp] theorem slipRepin_powerSide (island : Nat) (s : State) : (slipRepin island s).powerSide = s.powerSide := by
  unfold slipRepin
  split <;> simp

@[simp] theorem pinned_powerSide (island : Nat) (s : State) :
    (pinned island s).powerSide = s.powerSide := by simp +decide [pinned]
@[simp] theorem repin_powerSide (island : Nat) (s : State) : (repin island s).powerSide = s.powerSide := by simp [repin]
@[simp] theorem unpin_powerSide (island : Nat) (s : State) : (unpin island s).powerSide = s.powerSide := by simp +decide [unpin]
@[simp] theorem endStep_powerSide (u : Nat) (s : State) : (endStep u s).powerSide = s.powerSide := by simp +decide [endStep]
@[simp] theorem startupHold_powerSide (s : State) : (startupHold s).powerSide = s.powerSide := by simp +decide [startupHold]
@[simp] theorem startupCal_powerSide (s : State) : (startupCal s).powerSide = s.powerSide := by simp +decide [startupCal]
@[simp] theorem standbyToSynth_powerSide (u : Nat) (s : State) :
    (standbyToSynth u s).powerSide = s.powerSide := by simp +decide [standbyToSynth]
@[simp] theorem synthToReceive_powerSide (u : Nat) (s : State) :
    (synthToReceive u s).powerSide = s.powerSide := by simp [synthToReceive]
@[simp] theorem relayToReceive_powerSide (u : Nat) (s : State) :
    (relayToReceive u s).powerSide = s.powerSide := by simp [relayToReceive]
@[simp] theorem receiveToSynth_powerSide (u : Nat) (s : State) :
    (receiveToSynth u s).powerSide = s.powerSide := by simp [receiveToSynth]
@[simp] theorem synthToStandby_powerSide (u : Nat) (s : State) :
    (synthToStandby u s).powerSide = s.powerSide := by simp +decide [synthToStandby]
@[simp] theorem paBiasHigh_powerSide (t : Nat) (s : State) : (paBiasHigh t s).powerSide = s.powerSide := by simp [paBiasHigh]

@[simp] theorem paEnHigh_powerSide (p : Nat) (s : State) : (paEnHigh p s).powerSide = s.powerSide := by
  unfold paEnHigh
  split <;> simp +decide

@[simp] theorem paBiasLow_powerSide (p : Nat) (s : State) : (paBiasLow p s).powerSide = s.powerSide := by
  unfold paBiasLow
  split <;> simp +decide

@[simp] theorem paLatch_powerSide (p : Nat) (s : State) : (paLatch p s).powerSide = s.powerSide := by simp +decide [paLatch]
@[simp] theorem paFault_powerSide (p : Nat) (s : State) : (paFault p s).powerSide = s.powerSide := by simp +decide [paFault]
@[simp] theorem paFltHigh_powerSide (p : Nat) (s : State) :
    (paFltHigh p s).powerSide = s.powerSide := by simp +decide [paFltHigh]
@[simp] theorem synthCal_powerSide (r tag mask : Nat) (s : State) :
    (synthCal r tag mask s).powerSide = s.powerSide := by simp [synthCal]

@[simp] theorem synthCalDone_powerSide (q : Nat) (s : State) : (synthCalDone q s).powerSide = s.powerSide := by
  unfold synthCalDone
  dsimp only
  (repeat' split) <;> simp +decide

@[simp] theorem synthUnlock_powerSide (q : Nat) (s : State) : (synthUnlock q s).powerSide = s.powerSide := by
  unfold synthUnlock
  dsimp only
  rw [forceRadio_powerSide, put_powerSide _ _ _ _ _ rfl, modSynth_powerSide]
  refine (react_powerSide _ _ _ _ _ _ _ _ _ fun t => ?_).trans ?_
  · simp +decide
  · simp +decide

/-! ### Messages, the Scorebook and power failure (R368-R391) -/

@[simp] theorem faultMessage_powerSide (block seq : Nat) (r : Report) (s : State) :
    (faultMessage block seq r s).powerSide = s.powerSide := by simp +decide [faultMessage]
@[simp] theorem cascade_powerSide (i : Nat) (low : Bool) (s : State) :
    (cascade i low s).powerSide = s.powerSide := by simp +decide [cascade]
@[simp] theorem setCell_powerSide (s : State) (i : Nat) (r : SbRec) : (s.setCell i r).powerSide = s.powerSide := (rfl)
@[simp] theorem wroteIndex_powerSide (i : Nat) (s : State) :
    (wroteIndex i s).powerSide = s.powerSide := by simp +decide [wroteIndex]
@[simp] theorem writeRecord_powerSide (failed : List Nat) (r : SbRec) (s : State) :
    (writeRecord failed r s).powerSide = s.powerSide := by simp +decide [writeRecord]
@[simp] theorem finishFlushCmds_powerSide (s : State) : (finishFlushCmds s).powerSide = s.powerSide := by simp [finishFlushCmds]
@[simp] theorem flushDone_powerSide (failed : List Nat) (s : State) :
    (flushDone failed s).powerSide = s.powerSide := by simp [flushDone]

@[simp] theorem flushTimer_powerSide (s : State) : (flushTimer s).powerSide = s.powerSide := by
  unfold flushTimer
  split <;> simp

@[simp] theorem clearDone_powerSide (s : State) : (clearDone s).powerSide = s.powerSide := by simp +decide [clearDone]
@[simp] theorem sbAutoinc_powerSide (s : State) : (sbAutoinc s).powerSide = s.powerSide := by simp +decide [sbAutoinc]
@[simp] theorem openStatus_powerSide (d : Defer) (s : State) : (openStatus d s).powerSide = s.powerSide := by simp [openStatus]
@[simp] theorem sbCopy_powerSide (r tag first count ring dest : Nat) (s : State) :
    (sbCopy r tag first count ring dest s).powerSide = s.powerSide := by simp [sbCopy]
@[simp] theorem sbFlushCmd_powerSide (r tag : Nat) (s : State) :
    (sbFlushCmd r tag s).powerSide = s.powerSide := by simp [sbFlushCmd]
@[simp] theorem inject_powerSide (r tag src kind cls : Nat) (s : State) :
    (inject r tag src kind cls s).powerSide = s.powerSide := by simp [inject]
@[simp] theorem dugoutCmd_powerSide (r tag : Nat) (s : State) :
    (dugoutCmd r tag s).powerSide = s.powerSide := by simp [dugoutCmd]
@[simp] theorem powerEvent_powerSide (k : EvKind) (p0 : Nat) (s : State) :
    (powerEvent k p0 s).powerSide = s.powerSide := by simp +decide [powerEvent]
@[simp] theorem powerFail_powerSide (s : State) : (powerFail s).powerSide = s.powerSide := by simp [powerFail]

@[simp] theorem powerWindowEnd_powerSide (s : State) : (powerWindowEnd s).powerSide = s.powerSide := by
  unfold powerWindowEnd
  split <;> simp

@[simp] theorem powerRise_powerSide (s : State) : (powerRise s).powerSide = s.powerSide := by simp [powerRise]

/-! ### Nonces and the persistent store (R195-R209) -/

@[simp] theorem endNonce_powerSide (s : State) : (endNonce s).powerSide = s.powerSide := by simp +decide [endNonce]
@[simp] theorem nonceGet_powerSide (r tag addr : Nat) (s : State) :
    (nonceGet r tag addr s).powerSide = s.powerSide := by simp +decide [nonceGet]

@[simp] theorem lockCommit_powerSide (v : Nat) (s : State) : (lockCommit v s).powerSide = s.powerSide := by
  unfold lockCommit
  split <;> simp

@[simp] theorem calSaveDone_powerSide (ok : Bool) (s : State) : (calSaveDone ok s).powerSide = s.powerSide := by
  unfold calSaveDone
  dsimp only
  (repeat' split) <;> simp +decide

/-! ### Links, stacks and pairs (R249-R276) -/

@[simp] theorem modQl_powerSide (s : State) (l : Nat) (f : QLink → QLink) : (s.modQl l f).powerSide = s.powerSide := (rfl)
@[simp] theorem drainPool_powerSide (l pool : Nat) (s : State) :
    (drainPool l pool s).powerSide = s.powerSide := by simp [drainPool]
@[simp] theorem sendMsg_powerSide (l : Nat) (kind : QKind) (data : List Nat) (s : State) :
    (sendMsg l kind data s).powerSide = s.powerSide := by simp [sendMsg]
@[simp] theorem noteAck_powerSide (l seq ack : Nat) (again : Bool) (s : State) :
    (noteAck l seq ack again s).powerSide = s.powerSide := by simp [noteAck]

@[simp] theorem creditsReturned_powerSide (l pool n : Nat) (flit : Option CtlFlit) (s : State) :
    (creditsReturned l pool n flit s).powerSide = s.powerSide := by
  unfold creditsReturned
  dsimp only
  (repeat' split) <;> simp +decide

@[simp] theorem sendStream_powerSide (n num : Nat) (x : Nat × Nat × Nat) (s : State) :
    (sendStream n num x s).powerSide = s.powerSide := by
  unfold sendStream
  split <;> simp

@[simp] theorem sendStreams_powerSide (n : Nat) (s : State) : (sendStreams n s).powerSide = s.powerSide := by simp [sendStreams]
@[simp] theorem setRole_powerSide (new : Nat) (s : State) : (setRole new s).powerSide = s.powerSide := by simp +decide [setRole]

@[simp] theorem compareLocks_powerSide (s : State) : (compareLocks s).powerSide = s.powerSide := by
  unfold compareLocks
  split
  · rfl
  · simp +decide

@[simp] theorem masterLost_powerSide (s : State) : (masterLost s).powerSide = s.powerSide := by simp +decide [masterLost]
@[simp] theorem tokenTimeout_powerSide (s : State) : (tokenTimeout s).powerSide = s.powerSide := by simp [tokenTimeout]
@[simp] theorem dugoutMsg_powerSide (s : State) : (dugoutMsg s).powerSide = s.powerSide := by simp [dugoutMsg]
@[simp] theorem memberLost_powerSide (sid : Nat) (s : State) :
    (memberLost sid s).powerSide = s.powerSide := by simp +decide [memberLost]
@[simp] theorem linkTrain_powerSide (l : Nat) (s : State) :
    (linkTrain l s).powerSide = s.powerSide := by simp +decide [linkTrain]
@[simp] theorem sayIdentity_powerSide (l : Nat) (s : State) : (sayIdentity l s).powerSide = s.powerSide := by simp [sayIdentity]
@[simp] theorem linkAligning_powerSide (l sid : Nat) (side : Bool) (link delay : Nat) (s : State) :
    (linkAligning l sid side link delay s).powerSide = s.powerSide := by simp +decide [linkAligning]

@[simp] theorem linkTimeout_powerSide (l : Nat) (s : State) : (linkTimeout l s).powerSide = s.powerSide := by
  unfold linkTimeout
  split <;> simp +decide

@[simp] theorem linkRetry_powerSide (l : Nat) (s : State) : (linkRetry l s).powerSide = s.powerSide := by
  unfold linkRetry
  split
  · rfl
  · simp +decide

@[simp] theorem firstRole_powerSide (peer : Nat) (s : State) : (firstRole peer s).powerSide = s.powerSide := by simp [firstRole]
@[simp] theorem linkUp_powerSide (l peerRole : Nat) (locks : List Word) (s : State) :
    (linkUp l peerRole locks s).powerSide = s.powerSide := by simp +decide [linkUp]
@[simp] theorem linkDown_powerSide (l : Nat) (s : State) : (linkDown l s).powerSide = s.powerSide := by simp +decide [linkDown]
@[simp] theorem dropFlit_powerSide (x : Nat × Nat × Nat × Nat) (s : State) :
    (dropFlit x s).powerSide = s.powerSide := by simp [dropFlit]

@[simp] theorem linkCrc_powerSide (l : Nat) (stream : Option (Nat × Nat × Nat × Nat)) (s0 : State) :
    (linkCrc l stream s0).powerSide = s0.powerSide := by
  unfold linkCrc
  dsimp only
  (repeat' split) <;> simp +decide

@[simp] theorem creditStall_powerSide (l : Nat) (s : State) : (creditStall l s).powerSide = s.powerSide := by simp [creditStall]
@[simp] theorem linkRetrain_powerSide (r tag mask : Nat) (s : State) :
    (linkRetrain r tag mask s).powerSide = s.powerSide := by simp [linkRetrain]
@[simp] theorem stackRealign_powerSide (r tag : Nat) (s : State) :
    (stackRealign r tag s).powerSide = s.powerSide := by simp [stackRealign]
@[simp] theorem joined_powerSide (s : State) : (joined s).powerSide = s.powerSide := by simp [joined]

@[simp] theorem alignmentPulse_powerSide (s : State) : (alignmentPulse s).powerSide = s.powerSide := by
  unfold alignmentPulse
  dsimp only
  (repeat' split) <;> simp +decide

@[simp] theorem timFracRead_powerSide (s : State) : (timFracRead s).powerSide = s.powerSide := by simp +decide [timFracRead]
@[simp] theorem mirrorUnsync_powerSide (seq : Nat) (s : State) :
    (mirrorUnsync seq s).powerSide = s.powerSide := by simp +decide [mirrorUnsync]
@[simp] theorem mirrorReceive_powerSide (seq : Nat) (whole : Bool) (regs : List (Nat × Word)) (s : State) :
    (mirrorReceive seq whole regs s).powerSide = s.powerSide := by simp [mirrorReceive]
@[simp] theorem takeEpoch_powerSide (s : State) : (takeEpoch s).powerSide = s.powerSide := by simp +decide [takeEpoch]
@[simp] theorem yieldRole_powerSide (s : State) : (yieldRole s).powerSide = s.powerSide := by simp [yieldRole]

@[simp] theorem epochTake_powerSide (s : State) : (epochTake s).powerSide = s.powerSide := by
  unfold epochTake
  dsimp only
  (repeat' split) <;> simp +decide

@[simp] theorem epochReceive_powerSide (number : Nat) (e : Option Epoch) (s : State) :
    (epochReceive number e s).powerSide = s.powerSide := by
  unfold epochReceive
  dsimp only
  (repeat' split) <;> simp +decide

@[simp] theorem promote_powerSide (s : State) : (promote s).powerSide = s.powerSide := by simp [promote]

@[simp] theorem relinquish_powerSide (s : State) : (relinquish s).powerSide = s.powerSide := by
  unfold relinquish
  dsimp only
  (repeat' split) <;> simp +decide

@[simp] theorem link3Timer_powerSide (s : State) : (link3Timer s).powerSide = s.powerSide := by
  unfold link3Timer
  split <;> simp

@[simp] theorem takeHistories_powerSide (e : Epoch) (s : State) :
    (takeHistories e s).powerSide = s.powerSide := by simp [takeHistories]

@[simp] theorem promotionBeat_powerSide (s : State) : (promotionBeat s).powerSide = s.powerSide := by
  unfold promotionBeat
  dsimp only
  (repeat' split) <;> simp +decide

@[simp] theorem promotionLift_powerSide (s : State) : (promotionLift s).powerSide = s.powerSide := by
  unfold promotionLift
  split <;> simp

@[simp] theorem pairSwap_powerSide (r tag : Nat) (s : State) : (pairSwap r tag s).powerSide = s.powerSide := by simp [pairSwap]

@[simp] theorem swapRequest_powerSide (s : State) : (swapRequest s).powerSide = s.powerSide := by
  unfold swapRequest
  dsimp only
  (repeat' split) <;> simp +decide

@[simp] theorem pairPromote_powerSide (r tag : Nat) (s : State) :
    (pairPromote r tag s).powerSide = s.powerSide := by simp [pairPromote]
@[simp] theorem sendConfig_powerSide (s : State) : (sendConfig s).powerSide = s.powerSide := by simp +decide [sendConfig]
@[simp] theorem pairResync_powerSide (r tag : Nat) (s : State) :
    (pairResync r tag s).powerSide = s.powerSide := by simp [pairResync]

/-! ### Application -/

@[simp] theorem closeDest_powerSide (ring : Bool) (d : Nat) (s : State) : (closeDest ring d s).powerSide = s.powerSide := by
  refine (forAll_powerSide _ _ _ fun w u => ?_).trans (abandon_powerSide ring d s)
  dsimp only
  split <;> split <;> simp +decide

/-! ### Volleys (R224-R231) -/

@[simp] theorem beginVolley_powerSide (r tag flags : Nat) (bad : Bool) (s : State) :
    (beginVolley r tag flags bad s).powerSide = s.powerSide := by
  refine descriptor_powerSide _ _ _ fun t => ?_
  dsimp only
  split <;> split <;> simp

@[simp] theorem commitVolley_powerSide (r tag : Nat) (bad : Bool) (op : CommitOp) (s : State) :
    (commitVolley r tag bad op s).powerSide = s.powerSide := by
  unfold commitVolley
  dsimp only
  (repeat' split) <;> simp +decide

@[simp] theorem refuseVolley_powerSide (v st : Nat) (s : State) (index : Nat) (sid : Nat) :
    (refuseVolley v st s index sid).powerSide = s.powerSide := by simp [refuseVolley]
@[simp] theorem stackReady_powerSide (v sid status index : Nat) (s : State) :
    (stackReady v sid status index s).powerSide = s.powerSide := by simp [stackReady]

@[simp] theorem stackGoDecision_powerSide (v : Nat) (s : State) : (stackGoDecision v s).powerSide = s.powerSide := by
  unfold stackGoDecision
  dsimp only
  (repeat' split) <;> simp +decide

@[simp] theorem stackPrepare_powerSide (slot beat mode given : Nat) (offs : List (Nat × Word)) (sends : List (Nat × Nat × Nat))
    (s : State) :
    (stackPrepare slot beat mode given offs sends s).powerSide = s.powerSide := by
  unfold stackPrepare
  dsimp only
  (repeat' split) <;> simp +decide

@[simp] theorem stackGo_powerSide (slot : Nat) (s : State) : (stackGo slot s).powerSide = s.powerSide := by simp [stackGo]
@[simp] theorem stackAbort_powerSide (slot : Nat) (s : State) :
    (stackAbort slot s).powerSide = s.powerSide := by simp [stackAbort]
@[simp] theorem stackDiscard_powerSide (slot : Nat) (s : State) :
    (stackDiscard slot s).powerSide = s.powerSide := by simp [stackDiscard]
@[simp] theorem stackAck_powerSide (v sid : Nat) (s : State) : (stackAck v sid s).powerSide = s.powerSide := by simp [stackAck]
@[simp] theorem stackCompletion_powerSide (v : Nat) (s : State) :
    (stackCompletion v s).powerSide = s.powerSide := by simp [stackCompletion]

@[simp] theorem abortVolley_powerSide (r tag : Nat) (bad opened : Bool) (slot : Nat) (s : State) :
    (abortVolley r tag bad opened slot s).powerSide = s.powerSide := by
  refine descriptor_powerSide _ _ _ fun t => ?_
  split <;> simp

/-! ### Doorbells, host loss and the PCI Express link (R211-R240) -/

@[simp] theorem postBuffers_powerSide (r : Nat) (bufs : List (Nat × Nat)) (i : Nat) (s : State) :
    (postBuffers r bufs i s).powerSide = s.powerSide := by
  simp +decide [postBuffers]

@[simp] theorem afterTail_powerSide (r : Nat) (s t : State) : (afterTail r s t).powerSide = t.powerSide := by simp [afterTail]

@[simp] theorem streamTail_powerSide (r v : Nat) (bufs : Option (List (Nat × Nat))) (s : State) :
    (streamTail r v bufs s).powerSide = s.powerSide := by
  unfold streamTail
  split <;> simp

@[simp] theorem putCfg_powerSide (k : RKind) (i : Nat) (v : Word) (s : State) : (putCfg k i v s).powerSide = s.powerSide := by
  cases k <;> simp +decide [putCfg, cfgFam]

@[simp] theorem ringDisable_powerSide (k : RKind) (i : Nat) (v : Word) (s : State) :
    (ringDisable k i v s).powerSide = s.powerSide := by
  unfold ringDisable
  split <;> simp

@[simp] theorem flushPending_powerSide (s : State) : (flushPending s).powerSide = s.powerSide := by
  unfold flushPending
  split
  · rfl
  · refine forAll_powerSide _ _ _ fun v t => ?_
    simp +decide

@[simp] theorem interruptTimer_powerSide (k : RKind) (i : Nat) (s : State) :
    (interruptTimer k i s).powerSide = s.powerSide := by
  unfold interruptTimer
  split
  · rfl
  · simp +decide

@[simp] theorem heartbeat_powerSide (s : State) : (heartbeat s).powerSide = s.powerSide := by simp [heartbeat]
@[simp] theorem hostLoss_powerSide (s : State) : (hostLoss s).powerSide = s.powerSide := by simp [hostLoss]
@[simp] theorem heartbeatMissed_powerSide (s : State) : (heartbeatMissed s).powerSide = s.powerSide := by simp [heartbeatMissed]

@[simp] theorem recordTimeout_powerSide (i : Nat) (s : State) : (recordTimeout i s).powerSide = s.powerSide := by
  unfold recordTimeout
  dsimp only
  (repeat' split) <;> simp +decide

@[simp] theorem exportLink_powerSide (e : Nat) (up : Bool) (s : State) :
    (exportLink e up s).powerSide = s.powerSide := by simp [exportLink]

@[simp] theorem exportTransmit_powerSide (e : Nat) (s : State) : (exportTransmit e s).powerSide = s.powerSide := by
  unfold exportTransmit
  dsimp only
  split <;> simp +decide

@[simp] theorem pfcPause_powerSide (e : Nat) (pause : Bool) (s : State) :
    (pfcPause e pause s).powerSide = s.powerSide := by simp [pfcPause]

@[simp] theorem exportReceive_powerSide (e : Nat) (f : RxFrame) (s : State) :
    (exportReceive e f s).powerSide = s.powerSide := by
  cases f <;> simp [exportReceive]

@[simp] theorem ring_powerSide (b : Bell) (v : Word) (bufs : Option (List (Nat × Nat))) (s : State) :
    (ring b v bufs s).powerSide = s.powerSide := by
  cases b <;> simp [ring]

@[simp] theorem bar2Write_powerSide (off bytes : Nat) (v : Word) (bufs : Option (List (Nat × Nat))) (s : State) :
    (bar2Write off bytes v bufs s).powerSide = s.powerSide := by
  unfold bar2Write
  split
  · simp +decide
  · rfl

@[simp] theorem pcieUp_powerSide (gen width : Nat) (s : State) :
    (pcieUp gen width s).powerSide = s.powerSide := by simp [pcieUp]
@[simp] theorem pcieDown_powerSide (s : State) : (pcieDown s).powerSide = s.powerSide := by simp [pcieDown]
@[simp] theorem masterEnable_powerSide (on : Bool) (s : State) :
    (masterEnable on s).powerSide = s.powerSide := by simp [masterEnable]

/-! ### Resets -/

@[simp] theorem sbCleared_powerSide (s : State) : (sbCleared s).powerSide = s.powerSide := by simp [sbCleared]
@[simp] theorem linkTrainingReady_powerSide (s : State) :
    (linkTrainingReady s).powerSide = s.powerSide := by simp [linkTrainingReady]
@[simp] theorem ringsOff_powerSide (s : State) : (ringsOff s).powerSide = s.powerSide := by simp [ringsOff]
@[simp] theorem linkReset_powerSide (hot : Bool) (s : State) :
    (linkReset hot s).powerSide = s.powerSide := by simp +decide [linkReset]

/-! ### Commands of snapshot slots (R156, R157) -/

@[simp] theorem compSwitchRow_powerSide (p : Nat) (s : State) : (compSwitchRow p s).powerSide = s.powerSide := by
  unfold compSwitchRow
  split <;> simp

@[simp] theorem ovrDetectRow_powerSide (u g : Nat) (s : State) :
    (ovrDetectRow u g s).powerSide = s.powerSide := by simp [ovrDetectRow]
@[simp] theorem snapTriggerCmd_powerSide (r tag slot : Nat) (atIndex : Bool) (idx : Nat) (s : State) :
    (snapTriggerCmd r tag slot atIndex idx s).powerSide = s.powerSide := by simp [snapTriggerCmd]
@[simp] theorem snapMoveCmd_powerSide (r tag slot : Nat) (s : State) :
    (snapMoveCmd r tag slot s).powerSide = s.powerSide := by simp [snapMoveCmd]

end Sys2Proof.Machine
end

section
/-!
PROOFS. The commands that leave the power side as it was (R25, R27): what each shape of a command's meaning needs for it, and the
three groups of commands, one instruction at a time.
-/
namespace Sys2Proof.Machine
open Sys2Proof

@[simp] theorem addMember_powerSide (r tag size : Nat) (data : Option Member) (s : State) :
    (addMember r tag size data s).powerSide = s.powerSide := by
  refine descriptor_powerSide _ _ _ fun t => ?_
  split
  · simp
  · dsimp only
    refine powerSide_ite_of (by simp) (powerSide_ite_of (by simp) ?_)
    split <;> simp

@[simp] theorem fetchFails_powerSide (r : Nat) (s : State) : (fetchFails r s).powerSide = s.powerSide :=
  powerSide_ite_of rfl (ringError_powerSide _ _ _ _)

@[simp] theorem settled_powerSide (s : State) : (settled s).powerSide = s.powerSide := (rfl)

/-- A meaning answers a fault, or a next state with the power side as it was. -/
def LeavesPower (o : Out) (s : State) : Prop := ∀ t, o = .next t → powerSideKept s t

/-- The frame tidies the registers of the power side and leaves the rest of it alone. -/
theorem framed_powerSideKept (g : Grant) {s u : State} (h : u.powerSide = s.powerSide) : powerSideKept s (framed g s u) := by
  simp only [State.powerSide, PowerSide.mk.injEq] at h
  obtain ⟨hmea, hpwm, hrps, htherm, htim, hmeaRegs, hpwmRegs, hrpsRegs⟩ := h
  refine ⟨hmea, hpwm, hrps, htherm, htim, fun b hb => ?_⟩
  rw [framed_regs, regsOf_tidyRegs]
  obtain rfl | rfl | rfl := hb
  · exact congrArg _ hmeaRegs
  · exact congrArg _ hpwmRegs
  · exact congrArg _ hrpsRegs

theorem act_leavesPower {g : Grant} {f : State → State} {s : State} (h : (f s).powerSide = s.powerSide) :
    LeavesPower (act g f s) s := by
  intro t ht
  cases ht
  exact framed_powerSideKept g (powerSide_ite_of rfl h)

theorem row_leavesPower {f : State → State} {s : State} (h : ∀ t, (f t).powerSide = t.powerSide) :
    LeavesPower (row f s) s := act_leavesPower ((settled_powerSide _).trans (h s))

theorem hostAct_leavesPower {f : State → State} {s : State} (h : ∀ t, (f t).powerSide = t.powerSide) :
    LeavesPower (hostAct f s) s := act_leavesPower (powerSide_ite_of rfl (h s))

theorem hostBell_leavesPower {f : State → State} {s : State} (h : ∀ t, (f t).powerSide = t.powerSide) :
    LeavesPower (hostBell f s) s :=
  hostAct_leavesPower fun t => (settled_powerSide _).trans (powerSide_ite_of (h t) rfl)

theorem hostCmd_leavesPower {d : Desc} {f : State → State} {s : State} (h : ∀ t, (f t).powerSide = t.powerSide) :
    LeavesPower (hostCmd d f s) s :=
  hostAct_leavesPower fun t => (settled_powerSide _).trans (powerSide_ite_of (fetchFails_powerSide _ _) (h t))

theorem ringCmd_leavesPower {d : Desc} {k : Nat → Nat → State → State} {s : State}
    (h : ∀ r tag t, (k r tag t).powerSide = t.powerSide) : LeavesPower (ringCmd d k s) s :=
  hostCmd_leavesPower fun t => command_powerSide _ _ _ _ t (h _ _)

theorem memberCmd_leavesPower {d : Desc} {n : Nat} {m : Option Member} {s : State} : LeavesPower (memberCmd d n m s) s :=
  hostCmd_leavesPower (addMember_powerSide _ _ _ _)

/-! ### The groups -/

theorem radioEvent_leavesPower {i : Instr} (hi : radioEvent i = true) (s : State) : LeavesPower (exec i s) s := by
  cases i with
  | alignmentPulse =>
    unfold exec execAlignmentPulse
    exact row_leavesPower fun t => powerSide_ite_of (alignmentPulse_powerSide t) (pinIn_powerSide _ _ t alignmentPulse_powerSide)
  | slipRepin _ => unfold exec execSlipRepin; exact row_leavesPower (slipRepin_powerSide _)
  | unitRepin _ => unfold exec execUnitRepin; exact row_leavesPower (repin_powerSide _)
  | mergerSlot _ _ _ => unfold exec execMergerSlot; exact row_leavesPower fun t => by simp [apply_ite]
  | stormRecalDone _ _ => unfold exec execStormRecalDone; exact row_leavesPower (stormRecalDone_powerSide _ _)
  | rxGapEnd _ => unfold exec execRxGapEnd; exact row_leavesPower (rxGapEnd_powerSide _)
  | arcInterval _ => unfold exec execArcInterval; exact row_leavesPower (arcInterval_powerSide _)
  | compSwitch _ => unfold exec execCompSwitch; exact row_leavesPower (compSwitchRow_powerSide _)
  | ovrDetect _ _ => unfold exec execOvrDetect; exact row_leavesPower (ovrDetectRow_powerSide _ _)
  | bgcConverged _ => unfold exec execBgcConverged; exact row_leavesPower (bgcConverged_powerSide _)
  | tbandSet _ => unfold exec execTbandSet; exact row_leavesPower (tbandSet_powerSide _)
  | dacRampDone _ => unfold exec execDacRampDone; exact row_leavesPower (dacRampDone_powerSide _)
  | orxSettleEnd _ => unfold exec execOrxSettleEnd; exact row_leavesPower (orxSettleEnd_powerSide _)
  | calDone _ _ => unfold exec execCalDone; exact row_leavesPower (calDone_powerSide _ _)
  | calSaveDone _ => unfold exec execCalSaveDone; exact row_leavesPower (calSaveDone_powerSide _)
  | subbandSample _ _ _ => unfold exec execSubbandSample; exact row_leavesPower fun t => by simp
  | protoSwitchEnd _ => unfold exec execProtoSwitchEnd; exact row_leavesPower (protoSwitchEnd_powerSide _)
  | xfadeStart _ => unfold exec execXfadeStart; exact row_leavesPower (xfadeStart_powerSide _)
  | xfadeDone _ => unfold exec execXfadeDone; exact row_leavesPower (xfadeDone_powerSide _)
  | xfadeAbort _ => unfold exec execXfadeAbort; exact row_leavesPower (xfadeAbort_powerSide _)
  | remoteInputResume _ => unfold exec execRemoteInputResume; exact row_leavesPower (remoteResume_powerSide _)
  | routeEcc _ => unfold exec execRouteEcc; exact row_leavesPower fun t => by simp
  | routeEccFatal _ => unfold exec execRouteEccFatal; exact row_leavesPower (routeFatal_powerSide _)
  | routeReload _ => unfold exec execRouteReload; exact row_leavesPower (routeReload_powerSide _)
  | isoBlockEnd => unfold exec execIsoBlockEnd; exact row_leavesPower isoBlockEnd_powerSide
  | backoffStep _ => unfold exec execBackoffStep; exact row_leavesPower (backoffStep_powerSide _)
  | backoffRecovered _ => unfold exec execBackoffRecovered; exact row_leavesPower (backoffRecovered_powerSide _)
  | backoffReleaseStep _ => unfold exec execBackoffReleaseStep; exact row_leavesPower (backoffRelease_powerSide _)
  | pathShutdown _ => unfold exec execPathShutdown; exact row_leavesPower (pathShutdown_powerSide _)
  | pathRestart _ => unfold exec execPathRestart; exact row_leavesPower (pathRestart_powerSide _)
  | isoClearLockout _ => unfold exec execIsoClearLockout; exact row_leavesPower (clearLockout_powerSide _)
  | isoClearOffside _ => unfold exec execIsoClearOffside; exact row_leavesPower (clearOffside_powerSide _)
  | squelch _ => unfold exec execSquelch; exact row_leavesPower (squelchOn_powerSide _)
  | squelchEnd _ => unfold exec execSquelchEnd; exact row_leavesPower (squelchOff_powerSide _)
  | coldStartStep _ => unfold exec execColdStartStep; exact row_leavesPower (coldStartStep_powerSide _)
  | trainLimited _ => unfold exec execTrainLimited; exact row_leavesPower (trainLimited_powerSide _)
  | seedWrite _ => unfold exec execSeedWrite; exact row_leavesPower (seedWrite_powerSide _)
  | cxlEcc _ => unfold exec execCxlEcc; exact row_leavesPower fun t => by simp +decide
  | cxlSliceLost _ => unfold exec execCxlSliceLost; exact row_leavesPower (sliceLost_powerSide _)
  | sliceReload _ => unfold exec execSliceReload; exact row_leavesPower (sliceReload_powerSide _)
  | fineTransform _ => unfold exec execFineTransform; exact row_leavesPower (fineTransform_powerSide _)
  | integrationEnd _ => unfold exec execIntegrationEnd; exact row_leavesPower (integrationEnd_powerSide _)
  | productHandover _ => unfold exec execProductHandover; exact row_leavesPower (productHandover_powerSide _)
  | watchEcc _ => unfold exec execWatchEcc; exact row_leavesPower fun t => by simp
  | watchSliceLost _ => unfold exec execWatchSliceLost; exact row_leavesPower (watchLost_powerSide _)
  | watchSliceRestart _ => unfold exec execWatchSliceRestart; exact row_leavesPower (watchRestart_powerSide _)
  | snapDone _ => unfold exec execSnapDone; exact row_leavesPower (snapDone_powerSide _)
  | snapMoved _ => unfold exec execSnapMoved; exact row_leavesPower (snapMoved_powerSide _)
  | snapAbort _ => unfold exec execSnapAbort; exact row_leavesPower (snapAbort_powerSide _)
  | captureEcc _ => unfold exec execCaptureEcc; exact row_leavesPower fun t => by simp
  | offsideDwellEnd _ _ _ => unfold exec execOffsideDwellEnd; exact row_leavesPower (offsideDwellEnd_powerSide _ _ _)
  | standbyToSynth _ => unfold exec execStandbyToSynth; exact row_leavesPower (standbyToSynth_powerSide _)
  | synthToReceive _ => unfold exec execSynthToReceive; exact row_leavesPower (synthToReceive_powerSide _)
  | paBiasEnHigh _ => unfold exec execPaBiasEnHigh; exact row_leavesPower (paBiasHigh_powerSide _)
  | paEnHigh _ => unfold exec execPaEnHigh; exact row_leavesPower (paEnHigh_powerSide _)
  | paBiasEnLow _ => unfold exec execPaBiasEnLow; exact row_leavesPower (paBiasLow_powerSide _)
  | relayToReceive _ => unfold exec execRelayToReceive; exact row_leavesPower (relayToReceive_powerSide _)
  | receiveToSynth _ => unfold exec execReceiveToSynth; exact row_leavesPower (receiveToSynth_powerSide _)
  | synthToStandby _ => unfold exec execSynthToStandby; exact row_leavesPower (synthToStandby_powerSide _)
  | synthCalDone _ => unfold exec execSynthCalDone; exact row_leavesPower (synthCalDone_powerSide _)
  | synthUnlock _ => unfold exec execSynthUnlock; exact row_leavesPower (synthUnlock_powerSide _)
  | paFault _ => unfold exec execPaFault; exact row_leavesPower fun t => pinIn_powerSide _ _ t (paFault_powerSide _)
  | paFltHigh _ => unfold exec execPaFltHigh; exact row_leavesPower fun t => pinIn_powerSide _ _ t (paFltHigh_powerSide _)
  | qreqInRise _ => unfold exec execQreqInRise; exact row_leavesPower fun t => pinIn_powerSide _ _ t (qreqRise_powerSide _)
  | qgrant _ => unfold exec execQgrant; exact row_leavesPower (qgrant_powerSide _)
  | qreqInFall _ => unfold exec execQreqInFall; exact row_leavesPower fun t => pinIn_powerSide _ _ t (qreqFall_powerSide _)
  | qgntInRise _ => unfold exec execQgntInRise; exact row_leavesPower fun t => pinIn_powerSide _ _ t (qgntRise_powerSide _)
  | qgntInFall _ => unfold exec execQgntInFall; exact row_leavesPower fun t => pinIn_powerSide _ _ t (qgntFall_powerSide _)
  | qgntTimeout _ => unfold exec execQgntTimeout; exact row_leavesPower (qgntTimeout_powerSide _)
  | gateBlockEnd => unfold exec execGateBlockEnd; exact row_leavesPower gateBlockEnd_powerSide
  | _ => cases hi

theorem ringCommand_leavesPower {i : Instr} (hi : ringCommand i = true) (s : State) : LeavesPower (exec i s) s := by
  cases i with
  | convCal _ _ _ => unfold exec execConvCal; exact ringCmd_leavesPower fun _ _ t => convCal_powerSide _ _ _ _ t
  | snapTrigger _ _ _ _ =>
    unfold exec execSnapTrigger
    exact ringCmd_leavesPower fun _ _ t => snapTriggerCmd_powerSide _ _ _ _ _ t
  | snapMove _ _ => unfold exec execSnapMove; exact ringCmd_leavesPower fun _ _ t => snapMoveCmd_powerSide _ _ _ t
  | synthCal _ _ => unfold exec execSynthCal; exact ringCmd_leavesPower fun _ _ t => synthCal_powerSide _ _ _ t
  | nonceGet _ _ => unfold exec execNonceGet; exact ringCmd_leavesPower fun _ _ t => nonceGet_powerSide _ _ _ t
  | lockChange _ _ _ => unfold exec execLockChange; exact memberCmd_leavesPower
  | cmdTailDoorbell _ _ => unfold exec execCmdTailDoorbell; exact hostBell_leavesPower (bar2Write_powerSide _ _ _ _)
  | cplHeadDoorbell _ _ => unfold exec execCplHeadDoorbell; exact hostBell_leavesPower (bar2Write_powerSide _ _ _ _)
  | evtHeadDoorbell _ _ => unfold exec execEvtHeadDoorbell; exact hostBell_leavesPower (bar2Write_powerSide _ _ _ _)
  | streamTailDoorbell _ _ _ => unfold exec execStreamTailDoorbell; exact hostBell_leavesPower (bar2Write_powerSide _ _ _ _)
  | heartbeat _ => unfold exec execHeartbeat; exact hostBell_leavesPower (bar2Write_powerSide _ _ _ _)
  | begin_ _ => unfold exec execBegin; exact hostCmd_leavesPower (beginVolley_powerSide _ _ _ _)
  | write32 _ _ _ => unfold exec execWrite32; exact memberCmd_leavesPower
  | writeBlock _ _ _ _ => unfold exec execWriteBlock; exact memberCmd_leavesPower
  | commit _ _ => unfold exec execCommit; exact hostCmd_leavesPower (commitVolley_powerSide _ _ _ _)
  | abort _ _ _ => unfold exec execAbort; exact hostCmd_leavesPower (abortVolley_powerSide _ _ _ _ _)
  | nop _ => unfold exec execNop; exact ringCmd_leavesPower fun _ _ t => completeCmd_powerSide _ _ _ t _ _
  | invalidOpcode _ _ =>
    unfold exec execInvalidOpcode
    exact hostCmd_leavesPower fun t => command_powerSide _ _ _ _ t (completeCmd_powerSide _ _ _ · _ _)
  | linkRetrain _ _ => unfold exec execLinkRetrain; exact ringCmd_leavesPower fun _ _ t => linkRetrain_powerSide _ _ _ t
  | stackRealign _ => unfold exec execStackRealign; exact ringCmd_leavesPower fun _ _ t => stackRealign_powerSide _ _ t
  | timFracRead => unfold exec execTimFracRead; exact hostBell_leavesPower timFracRead_powerSide
  | pairSwap _ => unfold exec execPairSwap; exact ringCmd_leavesPower fun _ _ t => pairSwap_powerSide _ _ t
  | pairPromote _ => unfold exec execPairPromote; exact ringCmd_leavesPower fun _ _ t => pairPromote_powerSide _ _ t
  | pairResync _ => unfold exec execPairResync; exact ringCmd_leavesPower fun _ _ t => pairResync_powerSide _ _ t
  | dugoutEnter _ => unfold exec execDugoutEnter; exact ringCmd_leavesPower fun _ _ t => dugoutCmd_powerSide _ _ t
  | sbFlush _ => unfold exec execSbFlush; exact ringCmd_leavesPower fun _ _ t => sbFlushCmd_powerSide _ _ t
  | sbwinAutoincRead => unfold exec execSbwinAutoincRead; exact hostBell_leavesPower sbAutoinc_powerSide
  | sbCopy _ _ _ _ _ => unfold exec execSbCopy; exact ringCmd_leavesPower fun _ _ t => sbCopy_powerSide _ _ _ _ _ _ t
  | fltInject _ _ _ _ => unfold exec execFltInject; exact ringCmd_leavesPower fun _ _ t => inject_powerSide _ _ _ _ _ t
  | busMasterEnable _ => unfold exec execBusMasterEnable; exact hostBell_leavesPower (masterEnable_powerSide _)
  | _ => cases hi

theorem linkEvent_leavesPower {i : Instr} (hi : linkEvent i = true) (s : State) : LeavesPower (exec i s) s := by
  cases i with
  | stackPrepare _ _ _ _ _ _ => unfold exec execStackPrepare; exact row_leavesPower (stackPrepare_powerSide _ _ _ _ _ _)
  | stackReady _ _ _ _ => unfold exec execStackReady; exact row_leavesPower (stackReady_powerSide _ _ _ _)
  | stackGoDecision _ => unfold exec execStackGoDecision; exact row_leavesPower (stackGoDecision_powerSide _)
  | stackGo _ => unfold exec execStackGo; exact row_leavesPower (stackGo_powerSide _)
  | stackAbort _ => unfold exec execStackAbort; exact row_leavesPower (stackAbort_powerSide _)
  | stackVolleyDiscard _ => unfold exec execStackVolleyDiscard; exact row_leavesPower (stackDiscard_powerSide _)
  | stackAck _ _ => unfold exec execStackAck; exact row_leavesPower (stackAck_powerSide _ _)
  | stackCompletion _ => unfold exec execStackCompletion; exact row_leavesPower (stackCompletion_powerSide _)
  | hostLost => unfold exec execHostLost; exact row_leavesPower heartbeatMissed_powerSide
  | recordWaitTimeout _ => unfold exec execRecordWaitTimeout; exact row_leavesPower (recordTimeout_powerSide _)
  | exportLink _ _ => unfold exec execExportLink; exact row_leavesPower (exportLink_powerSide _ _)
  | exportTransmit _ => unfold exec execExportTransmit; exact row_leavesPower (exportTransmit_powerSide _)
  | pfcPause _ _ => unfold exec execPfcPause; exact row_leavesPower (exportReceive_powerSide _ _)
  | interruptTimer _ _ => unfold exec execInterruptTimer; exact row_leavesPower (interruptTimer_powerSide _ _)
  | pcieLinkUp _ _ => unfold exec execPcieLinkUp; exact row_leavesPower (pcieUp_powerSide _ _)
  | pcieLinkDown => unfold exec execPcieLinkDown; exact row_leavesPower pcieDown_powerSide
  | linkTrain _ => unfold exec execLinkTrain; exact row_leavesPower (linkTrain_powerSide _)
  | linkAligning _ _ _ _ _ => unfold exec execLinkAligning; exact row_leavesPower (linkAligning_powerSide _ _ _ _ _)
  | linkTrainTimeout _ => unfold exec execLinkTrainTimeout; exact row_leavesPower (linkTimeout_powerSide _)
  | linkRetry _ => unfold exec execLinkRetry; exact row_leavesPower (linkRetry_powerSide _)
  | linkUp _ _ _ => unfold exec execLinkUp; exact row_leavesPower (linkUp_powerSide _ _ _)
  | linkDown _ => unfold exec execLinkDown; exact row_leavesPower (linkDown_powerSide _)
  | linkCrc _ _ => unfold exec execLinkCrc; exact row_leavesPower (linkCrc_powerSide _ _)
  | linkCreditStall _ => unfold exec execLinkCreditStall; exact row_leavesPower (creditStall_powerSide _)
  | stackMasterLost => unfold exec execStackMasterLost; exact row_leavesPower tokenTimeout_powerSide
  | dugoutMsg => unfold exec execDugoutMsg; exact row_leavesPower dugoutMsg_powerSide
  | stackMemberLost _ => unfold exec execStackMemberLost; exact row_leavesPower (memberLost_powerSide _)
  | mirrorReceive _ _ _ => unfold exec execMirrorReceive; exact row_leavesPower (mirrorReceive_powerSide _ _ _)
  | epochTake => unfold exec execEpochTake; exact row_leavesPower epochTake_powerSide
  | epochReceive _ _ => unfold exec execEpochReceive; exact row_leavesPower (epochReceive_powerSide _ _)
  | relinquish => unfold exec execRelinquish; exact row_leavesPower relinquish_powerSide
  | link3LossTimer => unfold exec execLink3LossTimer; exact row_leavesPower link3Timer_powerSide
  | promotionBeat => unfold exec execPromotionBeat; exact row_leavesPower promotionBeat_powerSide
  | promotionCapLift => unfold exec execPromotionCapLift; exact row_leavesPower promotionLift_powerSide
  | swapRequest => unfold exec execSwapRequest; exact row_leavesPower swapRequest_powerSide
  | faultReport _ => unfold exec execFaultReport; exact row_leavesPower (faultMessage_powerSide _ _ _)
  | cascadeFault _ _ =>
    unfold exec execCascadeFault
    exact row_leavesPower fun t => pinIn_powerSide _ _ t (cascade_powerSide _ _)
  | sbFlushTimer => unfold exec execSbFlushTimer; exact row_leavesPower flushTimer_powerSide
  | sbFlushDone _ => unfold exec execSbFlushDone; exact row_leavesPower (flushDone_powerSide _)
  | sbCleared => unfold exec execSbCleared; exact row_leavesPower sbCleared_powerSide
  | powerFail => unfold exec execPowerFail; exact row_leavesPower fun t => pinIn_powerSide _ _ t powerFail_powerSide
  | linkReset _ =>
    unfold exec execLinkReset
    exact row_leavesPower fun t => powerSide_ite_of (linkReset_powerSide _ t) (pinIn_powerSide _ _ t (linkReset_powerSide _))
  | seedWriteDone _ _ => unfold exec execSeedWriteDone; exact row_leavesPower (seedWriteDone_powerSide _ _)
  | pwrfailNRise => unfold exec execPwrfailNRise; exact row_leavesPower fun t => pinIn_powerSide _ _ t powerRise_powerSide
  | powerFailWindowEnd => unfold exec execPowerFailWindowEnd; exact row_leavesPower powerWindowEnd_powerSide
  | readyForLinkTraining => unfold exec execReadyForLinkTraining; exact row_leavesPower linkTrainingReady_powerSide
  | creditsReturned _ _ _ => unfold exec execCreditsReturned; exact row_leavesPower (creditsReturned_powerSide _ _ _ _)
  | _ => cases hi

/-- Settles O59: the effect of each command of the three groups leaves the power side as it was, and so do settling and the frame
that follow it. -/
theorem radioAndLinkCommandsLeaveThePowerSide : Obligations.RadioAndLinkCommandsLeaveThePowerSide := by
  refine ⟨fun i s t hi => radioEvent_leavesPower hi s t, fun i s t hi => ?_⟩
  obtain hi | hi := hi
  · exact ringCommand_leavesPower hi s t
  · exact linkEvent_leavesPower hi s t

end Sys2Proof.Machine
end

section
/-!
PROOFS. A shadow that closes acts on the measurement chain (R301, R376, R377).
-/
namespace Sys2Proof.Machine
open Sys2Proof

/-- Comparator 0 has failed its check inside a shadow of the domain it stands in: the report is CONSEQUENT, and the comparator is
still in service (R301, R376). -/
def withheldCheck : State :=
  { ({} : State).put MEA_CMPSTAT_CHK_FAIL 1 with
    flt := { shadows := [{ area := .domain 72, till := 1 }], withheld := [{ rep := repOf ev_CMP_CHECK_FAIL 256 }] } }

/-- R377: when the shadow closes, the failed check is acted on and the comparator is out of service. -/
theorem standing_withheldCheck : (standing (shadowClose withheldCheck)).mea.out = [0] := by decide +kernel

theorem shadowClose_does {s : State} (hs : s.awake) : DoesP .shadowClose s (standing (shadowClose s)) :=
  rowP_next (fun t => standing (shadowClose t)) hs

/-- Refutes O60: SHADOW_CLOSE is one of the listed events, and what it reports afresh takes a comparator whose check failed
inside the shadow out of service (R301, R377). -/
theorem not_powerEventsLeaveTheStore : ¬ Obligations.PowerEventsLeaveTheStore := by
  intro h
  have hawake : withheldCheck.awake := by unfold State.awake; decide +kernel
  obtain ⟨-, -, hmea, -⟩ := h .shadowClose withheldCheck _ rfl (shadowClose_does hawake)
  rw [framed_mea, powered_mea] at hmea
  have hout := standing_withheldCheck
  rw [hmea] at hout
  exact absurd hout (by decide)

end Sys2Proof.Machine
end

section
/-!
PROOFS. Sampling ports and observation receivers: what a unit and a port register read after the operations that act on them,
which operations change nothing but the watch, and the timed events of a receive unit (R36-R48).
-/
namespace Sys2Proof.Machine
open Sys2Proof

/-! ### Units and port registers -/

@[simp] theorem unit_modUnit_same (s : State) (u : Nat) (f : Unit → Unit) : (s.modUnit u f).unit u = f (s.unit u) :=
  tabGet_tabMod_same _ _ _
@[simp] theorem put_unit (s : State) (f : Fld) (v i j u : Nat) : (s.put f v i j).unit u = s.unit u := (rfl)
@[simp] theorem pput_unit (s : State) (f : Fld) (n v u : Nat) : (s.pput f n v).unit u = s.unit u := (rfl)
@[simp] theorem count_unit (s : State) (f : Fld) (i j n u : Nat) : (s.count f i j n).unit u = s.unit u := (rfl)
@[simp] theorem moveTo_unit (s : State) (t u : Nat) : (s.moveTo t).unit u = s.unit u := (rfl)
@[simp] theorem emit_unit (k : EvKind) (src : Nat) (s : State) (a : Area) (p0 p1 p2 p3 u : Nat) :
    (emit k src s a p0 p1 p2 p3).unit u = s.unit u := by simp [State.unit]

@[simp] theorem unit_ite (c : Prop) [Decidable c] (s t : State) (u : Nat) :
    (if c then s else t).unit u = if c then s.unit u else t.unit u := apply_ite (State.unit · u) _ _ _

@[simp] theorem modUnit_now (s : State) (u : Nat) (f : Unit → Unit) : (s.modUnit u f).now = s.now := (rfl)
@[simp] theorem modUnit_get (s : State) (u : Nat) (g : Unit → Unit) (f : Fld) (i j : Nat) :
    (s.modUnit u g).get f i j = s.get f i j := (rfl)
@[simp] theorem modUnit_pget (s : State) (u : Nat) (g : Unit → Unit) (f : Fld) (n : Nat) :
    (s.modUnit u g).pget f n = s.pget f n := (rfl)

/-- A report leaves every register alone outside FLT and HIF. -/
theorem emit_get {k : EvKind} {src : Nat} {s : State} {a : Area} {p0 p1 p2 p3 : Nat} {f : Fld} {i j : Nat}
    (h : f.fam.blk ≠ .flt ∧ f.fam.blk ≠ .hif) : (emit k src s a p0 p1 p2 p3).get f i j = s.get f i j := by
  refine get_congr_blk f i j ?_ (emit_part ..)
  obtain ⟨hflt, hhif⟩ := h
  cases hb : f.fam.blk with
  | flt => exact absurd hb hflt
  | hif => exact absurd hb hhif
  | _ => rfl

theorem emit_pget {k : EvKind} {src : Nat} {s : State} {a : Area} {p0 p1 p2 p3 : Nat} {f : Fld} {n : Nat}
    (h : f.fam.blk ≠ .flt ∧ f.fam.blk ≠ .hif) : (emit k src s a p0 p1 p2 p3).pget f n = s.pget f n := emit_get h

theorem pget_pput_same (s : State) (f : Fld) (n v : Nat) (h : f.lo + f.width ≤ 32) :
    (s.pput f n v).pget f n = v % 2 ^ f.width := get_put_same _ _ _ _ _ h

/-- A port field put leaves a field of the same register apart from it as it was. -/
theorem pget_pput_apart (s : State) (f g : Fld) (n v : Nat) (hf : g.fam = f.fam) (h : f.lo + f.width ≤ 32)
    (ha : g.lo + g.width ≤ f.lo ∨ f.lo + f.width ≤ g.lo) : (s.pput f n v).pget g n = s.pget g n :=
  get_put_apart _ _ _ _ _ _ hf h ha

/-! ### Operations that change the watch alone (R158) -/

/-- `t` is `s` but for the watch and its snapshots. -/
def WatchOnly (s t : State) : Prop := ∃ w, t = { s with spw := w }

theorem WatchOnly.refl (s : State) : WatchOnly s s := ⟨s.spw, rfl⟩

theorem WatchOnly.trans {s t u : State} (h : WatchOnly s t) (h' : WatchOnly t u) : WatchOnly s u := by
  obtain ⟨w, rfl⟩ := h
  obtain ⟨w', rfl⟩ := h'
  exact ⟨w', rfl⟩

theorem WatchOnly.ite {c : Prop} [Decidable c] {s t u : State} (ht : WatchOnly s t) (hu : WatchOnly s u) :
    WatchOnly s (if c then t else u) := by split <;> assumption

theorem WatchOnly.forAll {α : Type} (l : List α) (f : α → State → State) (s : State) (h : ∀ a t, WatchOnly t (f a t)) :
    WatchOnly s (forAll l f s) :=
  forAll_inv (WatchOnly s) l f s (.refl s) fun a _ t ht => ht.trans (h a t)

theorem WatchOnly.now {s t : State} (h : WatchOnly s t) : t.now = s.now := by obtain ⟨w, rfl⟩ := h; rfl
theorem WatchOnly.unit {s t : State} (h : WatchOnly s t) (u : Nat) : t.unit u = s.unit u := by obtain ⟨w, rfl⟩ := h; rfl
theorem WatchOnly.pget {s t : State} (h : WatchOnly s t) (f : Fld) (n : Nat) : t.pget f n = s.pget f n := by
  obtain ⟨w, rfl⟩ := h; rfl

theorem modSnap_watchOnly (x : Nat) (f : Snap → Snap) (s : State) : WatchOnly s (s.modSnap x f) := ⟨_, rfl⟩

theorem markRaw_watchOnly (u bits g : Nat) (s : State) : WatchOnly s (markRaw u bits g s) :=
  .forAll _ _ s fun _ t => .ite (modSnap_watchOnly _ _ t) (.refl t)

theorem noteSnapAtt_watchOnly (range : Bool) (u c code : Nat) (s : State) : WatchOnly s (noteSnapAtt range u c code s) :=
  .forAll _ _ s fun _ t => .ite (modSnap_watchOnly _ _ t) (.refl t)

/-! ### GAP, compensation, ramps and the ORx switch (R38, R45, R48, R428) -/

theorem rxGapEnd_gap {u : Nat} {s : State} (hg : (s.unit u).gap = true) (hc : s.gapCause u = false) :
    rxGapEnd u s = (s.moveTo s.beatCeil).modUnit u (fun x => { x with gap := false }) := by
  unfold rxGapEnd
  rw [hg, hc]
  rfl

theorem compSwitch_due {p c code : Nat} {rest : List (Nat × Nat)} {s : State} (h : (s.unit p).comp = (c, code) :: rest) :
    compSwitch p s = ((s.moveTo (s.align + c * Config.convSample)).modUnit p (fun x =>
      { noteAtt c code x with comp := rest, seams := (c, code) :: x.seams.take 255 })).pput TILE_RANGEIDX_C p (c % 2 ^ 32) := by
  unfold compSwitch
  rw [h]
  rfl

/-- What the raw slots take of a compensation switch is the watch's alone (R158). -/
theorem compSwitchRow_watchOnly (p : Nat) (s : State) : WatchOnly (compSwitch p s) (compSwitchRow p s) := by
  unfold compSwitchRow
  split
  next h => unfold compSwitch; rw [h]; exact .refl s
  next c code rest _ =>
    exact (WatchOnly.forAll _ _ _ fun _ t => markRaw_watchOnly _ _ _ t).trans
      ((markRaw_watchOnly _ _ _ _).trans (noteSnapAtt_watchOnly _ _ _ _ _))

theorem setRamp_unit (n pos dir at_ : Nat) (s : State) :
    (setRamp n pos dir at_ s).unit n = { s.unit n with rampS := pos, rampDir := dir, rampAt := at_ } := by
  unfold setRamp
  rw [pput_unit, unit_modUnit_same]

theorem setRamp_ramp (n pos at_ : Nat) {dir : Nat} (s : State) (h : dir < 4) :
    (setRamp n pos dir at_ s).pget TILE_PORTSTAT_RAMP n = dir :=
  (pget_pput_same _ _ _ _ (by decide)).trans (Nat.mod_eq_of_lt h)

theorem setRamp_inRelay (n pos dir at_ t : Nat) (s : State) : (setRamp n pos dir at_ s).inRelay t = s.inRelay t := by
  have hg : (setRamp n pos dir at_ s).get CLK_TSTAT_STATE t = s.get CLK_TSTAT_STATE t :=
    get_put_ne _ _ _ _ _ _ _ _ (.inl (by decide))
  have hr : (setRamp n pos dir at_ s).get CLK_RSTAT_STATE = s.get CLK_RSTAT_STATE :=
    get_put_ne _ _ _ _ _ _ _ _ (.inl (by decide))
  unfold State.inRelay State.rstate State.stepOf
  rw [hg, hr]
  rfl

/-- A ramp up ends at full level (R45). -/
theorem dacRampDone_up {n : Nat} {s : State} (h : (s.unit n).rampDir = 1) :
    dacRampDone n s = setRamp n 25600 2 s.now (s.moveTo ((s.unit n).rampAt + (25600 - (s.unit n).rampS) * 400)) := if_pos h

/-- A ramp down of a tile that stays in RELAY ends muted, with its pins as they were (R45, R178). -/
theorem dacRampDone_down_inRelay {n : Nat} {s : State} (h : (s.unit n).rampDir = 3) (hr : s.inRelay (n / 6) = true) :
    dacRampDone n s = (let s1 := s.moveTo ((s.unit n).rampAt + (s.unit n).rampS * 400)
      setRamp n 0 0 s1.now s1) := by
  have hin (a b c d : Nat) : (setRamp n a b c (s.moveTo d)).inRelay (n / 6) = true := (setRamp_inRelay _ _ _ _ _ _).trans hr
  unfold dacRampDone
  simp [h, hin]

theorem orxSettleEnd_due {t e : Nat} {s : State} (h : (s.unit (96 + t)).settleAt = some e) :
    orxSettleEnd t s =
      ((s.moveTo e).put TILE_ORXSTAT_SETTLING 0 t).modUnit (96 + t) (fun y => { y with settleAt := none }) := by
  unfold orxSettleEnd
  rw [h]

/-! ### Over-range (R44) -/

/-- The unit after an over-range at group `g`: the group, the two before and the four after are marked. -/
def Unit.ovrMarked (g : Nat) (x : Unit) : Unit :=
  { x with
    ovr := x.ovr.filter (fun i => g ≤ i + keepOvr) ++
      ((List.range 7).filterMap (fun i => if g + i < 2 then none else some (g + i - 2))).filter (fun i => !x.ovr.contains i)
    ovrBeat := some (max ((g + 4) * 16 / 1048576) (x.ovrBeat.getD 0)) }

theorem ovrDetect_unit (u g : Nat) (s : State) : (ovrDetect u g s).unit u = (s.unit u).ovrMarked g := by
  unfold ovrDetect Unit.ovrMarked
  dsimp only
  split <;> simp

theorem ovrDetectRow_watchOnly (u g : Nat) (s : State) : WatchOnly (ovrDetect u g s) (ovrDetectRow u g s) :=
  .forAll _ _ _ fun _ t => .ite (markRaw_watchOnly _ _ _ t) (.refl t)

/-- Every group from two before to four after is marked. -/
theorem mem_ovrMarked {g k : Nat} (x : Unit) (h1 : g ≤ k + 2) (h2 : k ≤ g + 4) : k ∈ (x.ovrMarked g).ovr := by
  have hnear : k ∈ (List.range 7).filterMap (fun i => if g + i < 2 then none else some (g + i - 2)) :=
    List.mem_filterMap.2 ⟨k + 2 - g, List.mem_range.2 (by omega), by rw [if_neg (by omega)]; congr 1; omega⟩
  by_cases hk : k ∈ x.ovr
  · exact List.mem_append_left _ (List.mem_filter.2 ⟨hk, decide_eq_true (by unfold keepOvr; omega)⟩)
  · exact List.mem_append_right _ (List.mem_filter.2 ⟨hnear, by simpa using hk⟩)

/-! ### ARC intervals (R36) -/

/-- The state at the end of the running ARC interval of port `n`, before ARC decides. -/
def arcIntervalEnd (n : Nat) (s : State) : State :=
  let k := max (s.unit n).arcK (((s.now - s.align) / Config.convSample + 40959) / 40960 - 1)
  (s.moveTo (s.align + 40960 * (k + 1) * Config.convSample)).modUnit n (fun y =>
    { y with arcK := k + 1, arcMax := none, arcSkip := false })

theorem arcInterval_inactive {n : Nat} {s : State} (h : s.arcActive n = false) : arcInterval n s = arcIntervalEnd n s := by
  unfold arcInterval
  simp only [h]
  rfl

/-- A limited number lies between its limits. -/
theorem clampI_toNat_mem (lo hi : Nat) (x : Int) (h : lo ≤ hi) :
    lo ≤ (clampI lo hi x).toNat ∧ (clampI lo hi x).toNat ≤ hi := by
  unfold clampI
  omega

theorem rangeChange_arcMax (n code d : Nat) (s : State) : ((rangeChange n code d s).unit n).arcMax = (s.unit n).arcMax := by
  unfold rangeChange
  rw [unit_modUnit_same]
  rfl

theorem rangeChange_attNow {n code : Nat} (d : Nat) (s : State) (h : code < 64) :
    (rangeChange n code d s).pget TILE_PORTSTAT_ATT_NOW n = code := by
  unfold rangeChange
  rw [modUnit_pget, pget_pput_same _ _ _ _ (by decide)]
  exact Nat.mod_eq_of_lt h

/-- What ARC makes of the attenuation code when it acts: it stays, or becomes a code limited to ATT_MIN to ATT_MAX (R36). -/
theorem arcInterval_active {n m : Nat} {s : State} (ha : s.arcActive n = true) (hs : (s.unit n).arcSkip = false)
    (hm : (s.unit n).arcMax = some m) (hle : s.pget TILE_PORTCFG_ATT_MIN n ≤ s.pget TILE_PORTCFG_ATT_MAX n) :
    ((arcInterval n s).unit n).arcMax = none ∧
      ((arcInterval n s).pget TILE_PORTSTAT_ATT_NOW n = s.pget TILE_PORTSTAT_ATT_NOW n ∨
        s.pget TILE_PORTCFG_ATT_MIN n ≤ (arcInterval n s).pget TILE_PORTSTAT_ATT_NOW n ∧
          (arcInterval n s).pget TILE_PORTSTAT_ATT_NOW n ≤ s.pget TILE_PORTCFG_ATT_MAX n) := by
  have hmax : s.pget TILE_PORTCFG_ATT_MAX n < 64 := get_lt _ _ _ _
  unfold arcInterval
  simp only [ha, hs, hm, Bool.not_true, Bool.false_eq_true, if_false]
  generalize (arcStep s n _ m (s.unit n).quiet) = r
  obtain ⟨step, q⟩ := r
  dsimp only
  split
  next =>
    obtain ⟨hlo, hhi⟩ := clampI_toNat_mem _ _ ((s.pget TILE_PORTSTAT_ATT_NOW n : Int) + step) hle
    rw [rangeChange_attNow _ _ (hhi.trans_lt hmax)]
    exact ⟨by rw [rangeChange_arcMax]; simp, .inr ⟨hlo, hhi⟩⟩
  next =>
    split
    next => exact ⟨by simp, .inl (emit_pget (by decide))⟩
    next => exact ⟨by simp, .inl rfl⟩

/-- Settles O17: each event written out is what the statement names; what the raw slots take of it changes the watch alone. That
the quiet count stays while ARC does not act is the model's design choice (log 134). -/
theorem receiveUnitEvents : Obligations.ReceiveUnitEvents := by
  refine ⟨fun s hs => ⟨fun u hg hc => ?_, fun p c code rest h => ?_, fun p h => ?_, fun p h hr => ?_, fun t e h => ?_,
    fun u g => ?_, fun p ha => ?_⟩, fun s p m hs ha hk hm hle => ?_⟩
  · exact rxGapEnd_gap hg hc ▸ row_next _ hs
  · have hw := compSwitchRow_watchOnly p s
    rw [compSwitch_due h] at hw
    refine ⟨_, row_next _ hs, ?_⟩
    rw [hw.now, hw.unit, hw.pget, pput_unit, unit_modUnit_same, pget_pput_same _ _ _ _ (by decide)]
    exact ⟨rfl, rfl, rfl, Nat.mod_mod _ _⟩
  · refine ⟨_, row_next _ hs, ?_⟩
    rw [dacRampDone_up h]
    exact ⟨rfl, setRamp_ramp _ _ _ _ (by decide), by rw [setRamp_unit]⟩
  · refine ⟨_, row_next _ hs, ?_⟩
    rw [dacRampDone_down_inRelay h hr]
    exact ⟨rfl, setRamp_ramp _ _ _ _ (by decide), by rw [setRamp_unit]⟩
  · refine ⟨_, row_next _ hs, ?_⟩
    rw [orxSettleEnd_due h]
    exact ⟨rfl, by rw [modUnit_get, get_put_same _ _ _ _ _ (by decide)]; rfl, by rw [unit_modUnit_same]⟩
  · refine ⟨_, row_next _ hs, ?_⟩
    rw [(ovrDetectRow_watchOnly u g s).unit, ovrDetect_unit]
    exact ⟨fun k h1 h2 => mem_ovrMarked _ h1 h2, rfl⟩
  · have hd := row_next (arcInterval p) hs
    rw [arcInterval_inactive ha] at hd
    exact hd
  · obtain ⟨hnone, hatt⟩ := arcInterval_active ha hk hm hle
    refine ⟨_, row_next _ hs, hnone, fun hhi hlo => ?_⟩
    obtain hsame | hin := hatt
    · exact hsame ▸ ⟨hlo, hhi⟩
    · exact hin

end Sys2Proof.Machine
end

section
/-!
PROOFS. A slot of the interleave merger with both of its bursts (R33, R41, R158).
-/
namespace Sys2Proof.Machine
open Sys2Proof

/-! ### Interleaved and indexed lists -/

/-- The pairs of two functions along a list, one after the other, stand at its even and odd places. -/
theorem getD_interleave {α β : Type} (l : List α) (f g : α → β) (d : β) {k : Nat} (hk : k < l.length) :
    (l.map (fun a => [f a, g a])).flatten.getD (2 * k) d = f l[k] ∧
      (l.map (fun a => [f a, g a])).flatten.getD (2 * k + 1) d = g l[k] := by
  induction l generalizing k with
  | nil => exact absurd hk (Nat.not_lt_zero _)
  | cons a l ih =>
    cases k with
    | zero => exact ⟨rfl, rfl⟩
    | succ k => exact ih (Nat.lt_of_succ_lt_succ hk)

theorem length_interleave {α β : Type} (l : List α) (f g : α → β) :
    (l.map (fun a => [f a, g a])).flatten.length = 2 * l.length := by
  simp [List.length_flatten, Function.comp_def, Nat.mul_comm]

/-- A list put newest first in front of another reads back from its end. -/
theorem getD_newestFirst {α : Type} (l r : List α) (d : α) {n m j : Nat} (hl : l.length = n) (hj : j < n) (hm : n ≤ m) :
    ((l.reverse ++ r).take m).getD (n - 1 - j) d = l.getD j d := by
  subst hl
  rw [List.getD_eq_getElem?_getD, List.getD_eq_getElem?_getD, List.getElem?_take_of_lt (by omega),
    List.getElem?_append_left (by simp; omega), List.getElem?_reverse (by omega)]
  congr 2
  omega

theorem getD_map_zipIdx {α β : Type} (l : List α) (f : α × Nat → β) (d : β) (d' : α) {j : Nat} (hj : j < l.length) :
    (l.zipIdx.map f).getD j d = f (l.getD j d', j) := by
  simp [List.getD_eq_getElem?_getD, hj]

/-! ### The merger -/

/-- A burst with the tag of the slot is taken, and nothing is stale (R41). -/
theorem takeBurst_tagged {n tag : Nat} (codes : List Int) (h : tag = n % 65536) :
    takeBurst n [(tag, codes)] = (0, some codes, []) := by
  have hz : signedOf 16 ((n % 65536 + 65536 - n % 65536) % 65536) = 0 := by
    rw [Nat.add_sub_cancel_left]
    rfl
  subst h
  simp only [takeBurst, hz]
  rfl

/-- The slot the merger of a unit works at (R41). -/
def State.slotNow (s : State) (u : Nat) : Nat := max (s.unit u).slotN ((s.now - s.align + 3199) / 3200)

/-- The codes of a slot with both bursts: corrected and interleaved (R33, R41). -/
def State.mergedCodes (s : State) (u : Nat) (ca cb : List Int) : List Int :=
  ((List.range 64).map (fun j => [s.corrected u 0 ca j, s.corrected u 1 cb j])).flatten

/-- A slot with both bursts completes at its time with their codes, their words in front, no stale burst, no bubble and no GAP
(R33, R41). -/
theorem mergerSlot_both {s : State} {u ta tb : Nat} (ca cb : List Int) (hc : s.converting u = true)
    (hg : (s.unit u).gap = false) (hA : (s.unit u).fifoA = []) (hB : (s.unit u).fifoB = [])
    (ha : ta = s.slotNow u % 65536) (hb : tb = s.slotNow u % 65536)
    (hslip : s.slipIn (unitTile u) (s.slotNow u / 8192) = false) :
    (mergerSlot u [(ta, ca)] [(tb, cb)] s).now = max s.now (s.align + s.slotNow u * 3200) ∧
    ∃ old peak, (mergerSlot u [(ta, ca)] [(tb, cb)] s).unit u = { s.unit u with
      slotN := s.slotNow u + 1, codes := s.mergedCodes u ca cb, arcMax := peak
      words := (((s.mergedCodes u ca cb).zipIdx.map
        (fun e => s.landWord u (128 * s.slotNow u + e.2) e.1)).reverse ++ old).take keepWords } := by
  have hn : max (s.unit u).slotN ((s.now - s.align + 3199) / 3200) = s.slotNow u := rfl
  have hslip' (t : Nat) : (s.moveTo t).slipIn (unitTile u) (s.slotNow u / 8192) = false := hslip
  unfold mergerSlot
  simp only [hn, hc, hA, hB, hg, List.nil_append, takeBurst_tagged ca ha, takeBurst_tagged cb hb, hslip',
    Bool.not_true, Bool.false_eq_true, if_false, Option.isNone_some, Bool.or_false, bit, Nat.add_zero, List.replicate_zero,
    forAll_nil, unit_modUnit_same, moveTo_unit]
  exact ⟨rfl, _, _, rfl⟩

/-- MERGER_SLOT of a converting unit, whose slot the raw captures take (R41, R158). -/
theorem mergerSlot_does {s : State} {u : Fin 112} (a b : List Burst) (hs : s.awake) (hc : s.converting u = true) :
    Does (.mergerSlot u a b) s (captureRaw u (mergerSlot u (a.map (fun x => (x.tag.toNat, x.codes)))
      (b.map (fun x => (x.tag.toNat, x.codes))) s)) := by
  show execMergerSlot u a b s = _
  unfold execMergerSlot
  rw [row_next _ hs]
  simp only [hc, if_true]

theorem getD_mergedCodes (s : State) (u : Nat) (ca cb : List Int) {j : Nat} (h : j < 64) :
    (s.mergedCodes u ca cb).getD (2 * j) 0 = s.corrected u 0 ca j ∧
      (s.mergedCodes u ca cb).getD (2 * j + 1) 0 = s.corrected u 1 cb j := by
  have hp := getD_interleave (List.range 64) (s.corrected u 0 ca) (s.corrected u 1 cb) 0 (k := j) (by rwa [List.length_range])
  rwa [List.getElem_range] at hp

theorem length_mergedCodes (s : State) (u : Nat) (ca cb : List Int) : (s.mergedCodes u ca cb).length = 128 := by
  rw [State.mergedCodes, length_interleave, List.length_range]

/-- Settles O18: the merged unit is `mergerSlot_both`; its codes are the interleaved pairs, and its newest 128 words are theirs,
the last sample first. -/
theorem mergerSlotMergesBursts : Obligations.MergerSlotMergesBursts := by
  intro s u a b hs hc hg hA hB n ha hb hslip
  obtain ⟨hnow, old, peak, hu⟩ := mergerSlot_both a.codes b.codes hc hg hA hB ha hb hslip
  have hlen := length_mergedCodes s u a.codes b.codes
  refine ⟨_, mergerSlot_does [a] [b] hs hc, hnow, ?_⟩
  rw [List.map_singleton, List.map_singleton, hu]
  refine ⟨rfl, rfl, fun j hj => getD_mergedCodes s u _ _ hj, fun j hj => ?_⟩
  dsimp only
  rw [getD_newestFirst (n := 128) (j := j) _ _ _ (by rw [List.length_map, List.length_zipIdx, hlen]) hj (by decide),
    getD_map_zipIdx _ _ _ 0 (by omega)]
  rfl

end Sys2Proof.Machine
end

section
/-!
PROOFS. Recalibration, background correction, temperature bands and self-calibration (R42, R43, R49, R52, R355).
-/
namespace Sys2Proof.Machine
open Sys2Proof

/-! ### A fold that writes a unit's part once -/

/-- A fold leaves what one of its steps makes true and every step keeps. -/
theorem forAll_reach {σ α : Type} (P : σ → Prop) {l : List α} (f : α → σ → σ) (s : σ) {a : α} (ha : a ∈ l)
    (hset : ∀ t, P (f a t)) (hkeep : ∀ b ∈ l, ∀ t, P t → P (f b t)) : P (forAll l f s) := by
  obtain ⟨l₁, l₂, rfl⟩ := List.append_of_mem ha
  have hsplit : forAll (l₁ ++ a :: l₂) f s = forAll l₂ f (f a (forAll l₁ f s)) := List.foldl_append
  rw [hsplit]
  exact forAll_inv P l₂ f _ (hset _) fun b hb => hkeep b (List.mem_append_right _ (List.mem_cons_of_mem _ hb))

/-! ### Calibration factors (R50) -/

theorem calfac_setCalfac_same (s : State) (t w : Nat) (v : Word) : (s.setCalfac t w v).calfac t w = v :=
  tabGetD_tabInsert_same _ _ _ _

theorem calfac_setCalfac_ne (s : State) (t : Nat) {w w' : Nat} (v : Word) (h : w' ≠ w) :
    (s.setCalfac t w v).calfac t w' = s.calfac t w' :=
  tabGetD_tabInsert_ne _ _ _ (by simp only [regOff, TILE_CALFAC]; omega)

/-- The factor words of a unit read as they were loaded. -/
theorem ufac_loaded {u n w : Nat} (g : Nat → Word) (s : State) (hw : w < n) :
    (forAll (List.range n) (fun w t => t.setCalfac (unitTile u) (facBase u + w) (g w)) s).ufac u w = g w := by
  refine forAll_reach (fun t => t.ufac u w = g w) _ s (List.mem_range.2 hw) (fun t => ?_) fun b _ t ht => ?_
  · exact calfac_setCalfac_same t _ _ _
  by_cases hb : b = w
  · subst hb
    exact calfac_setCalfac_same _ _ _ _
  · exact (calfac_setCalfac_ne _ _ _ (by omega)).trans ht

theorem loadFactors_now (l : List Nat) (t b : Nat) (g : Nat → Word) (s : State) :
    (forAll l (fun w y => y.setCalfac t (b + w) (g w)) s).now = s.now := forAll_keeps State.now _ _ _ fun _ _ => rfl
theorem loadFactors_cal (l : List Nat) (t b : Nat) (g : Nat → Word) (s : State) :
    (forAll l (fun w y => y.setCalfac t (b + w) (g w)) s).cal = s.cal := forAll_keeps State.cal _ _ _ fun _ _ => rfl
theorem loadFactors_unit (l : List Nat) (t b : Nat) (g : Nat → Word) (s : State) (u : Nat) :
    (forAll l (fun w y => y.setCalfac t (b + w) (g w)) s).unit u = s.unit u :=
  forAll_keeps (State.unit · u) _ _ _ fun _ _ => rfl

theorem latencyDue_now (u : Nat) (rx : Bool) (s : State) : (latencyDue u rx s).now = s.now := by
  unfold latencyDue; split <;> rfl
theorem latencyDue_cal (u : Nat) (rx : Bool) (s : State) : (latencyDue u rx s).cal = s.cal := by
  unfold latencyDue; split <;> rfl
theorem latencyDue_unit (u : Nat) (rx : Bool) (s : State) (v : Nat) : (latencyDue u rx s).unit v = s.unit v := by
  unfold latencyDue; split <;> rfl
theorem latencyDue_ufac (u : Nat) (rx : Bool) (s : State) (v w : Nat) : (latencyDue u rx s).ufac v w = s.ufac v w := by
  unfold latencyDue; split <;> rfl

/-! ### Storm recalibration (R42) -/

theorem ite_isOrx {α : Type} (u : Nat) (a b : α) : (if isOrx u then a else b) = if u < 96 then b else a := by
  rw [← ite_not]
  simp [isOrx]

theorem stormRecalDone_calibrated {u : Nat} (m : Option (List Word)) {s : State} (h : s.calOn (unitTile u) = true) :
    stormRecalDone u m s = s := by
  unfold stormRecalDone
  split
  next => rfl
  next => rw [if_pos h]

section
variable {u e : Nat} {s : State} (he : (s.unit u).recalAt = some e) (hc : s.calOn (unitTile u) = false)
include he hc

/-- Without measured factors the recalibration has failed, and the unit goes out of service (R42). -/
theorem stormRecalDone_unmeasured :
    stormRecalDone u none s =
      (let t := (s.moveTo e).modUnit u (fun y => { y with recalAt := none })
       outOfServiceEvent u (if u < 96 then t.pput TILE_PORTSTAT_CAL_FAIL u 1 else t.put TILE_ORXSTAT_CAL_FAIL 1 (u - 96))) := by
  unfold stormRecalDone
  rw [he]
  simp only [hc, Bool.false_eq_true, if_false, ite_isOrx]

/-- Factors beyond their limits are rejected (R51). -/
theorem stormRecalDone_rejected {m : List Word} (hm : recalOk u m = false) :
    stormRecalDone u (some m) s = calReject u ((s.moveTo e).modUnit u (fun y => { y with recalAt := none })) := by
  unfold stormRecalDone
  rw [he]
  simp only [hc, hm, Bool.false_eq_true, if_false]

/-- Good factors are loaded, and the bubble history starts again (R42). -/
theorem stormRecalDone_accepted {m : List Word} (hm : recalOk u m = true) :
    (stormRecalDone u (some m) s).now = max s.now e ∧ ((stormRecalDone u (some m) s).unit u).recalAt = none ∧
      ((stormRecalDone u (some m) s).unit u).history = [] ∧
      ∀ w < 9, (stormRecalDone u (some m) s).ufac u w = m.getD w 0 := by
  have hufac (t : State) (f : Unit → Unit) (w : Nat) : (t.modUnit u f).ufac u w = t.ufac u w := rfl
  unfold stormRecalDone
  rw [he]
  simp only [hc, hm, Bool.false_eq_true, if_false, if_true, unit_modUnit_same, modUnit_now, hufac, latencyDue_now,
    latencyDue_unit, latencyDue_ufac, loadFactors_now, loadFactors_unit]
  exact ⟨rfl, trivial, trivial, fun w hw => ufac_loaded _ _ hw⟩

end

/-! ### Background correction and temperature bands (R43, R355) -/

theorem showConv_unit (u : Nat) (s : State) (v : Nat) : (showConv u s).unit v = s.unit v := by
  unfold showConv
  split
  next => rfl
  next => exact pput_unit _ _ _ _ _

/-- BGC_CONV of a port shows the set of its band (R43, R54). -/
theorem showConv_shows {u : Nat} (s : State) (h : u < 96) :
    (showConv u s).pget TILE_PORTSTAT_BGC_CONV u = bit (tabGet (s.unit u).bgc (s.unitBand u) : BgcSet).conv := by
  unfold showConv
  rw [if_neg (by simpa [isOrx] using h), pget_pput_same _ _ _ _ (by decide)]
  exact Nat.mod_eq_of_lt (bit_lt_two _)

theorem modUnit_unitBand (s : State) (u : Nat) (f : Unit → Unit) (v : Nat) :
    (s.modUnit u f).unitBand v = s.unitBand v := (rfl)

/-- After 64 beats of small updates the set of the band has converged, and a port shows it (R43). -/
theorem bgcConverged_due {u : Nat} {s : State} (hc : (tabGet (s.unit u).bgc (s.unitBand u)).conv = false)
    (hb : 64 ≤ (tabGet (s.unit u).bgc (s.unitBand u)).beats) :
    (u < 96 → (bgcConverged u s).pget TILE_PORTSTAT_BGC_CONV u = 1) ∧
      (tabGet ((bgcConverged u s).unit u).bgc (s.unitBand u)).conv = true := by
  unfold bgcConverged
  simp only [hc, Bool.false_or, decide_eq_true_eq]
  rw [if_neg (by omega)]
  refine ⟨fun hu => ?_, ?_⟩
  · rw [showConv_shows _ hu, modUnit_unitBand, unit_modUnit_same, tabGet_tabSet_same]
    rfl
  · rw [showConv_unit, unit_modUnit_same, tabGet_tabSet_same]

theorem pget_port (s : State) (f : Fld) {t p : Nat} (hp : p < 6) : s.pget f (6 * t + p) = s.get f t p := by
  unfold State.pget
  rw [show (6 * t + p) / 6 = t by omega, show (6 * t + p) % 6 = p by omega]

/-- A put in PORTSTAT of a port leaves PORTSTAT of another as it was. -/
theorem pget_portstat_ne (s : State) (f g : Fld) {n m : Nat} (v : Nat) (hf : f.fam = TILE_PORTSTAT) (hg : g.fam = TILE_PORTSTAT)
    (h : m ≠ n) : (s.pput f n v).pget g m = s.pget g m := by
  refine get_put_ne _ _ _ _ _ _ _ _ (.inr ?_)
  rw [hf, hg]
  simp only [regOff, TILE_PORTSTAT]
  omega

/-- A port shows the band it switches to (R43). -/
theorem bandSwitch_shows {u band : Nat} (s : State) (hu : u < 96) (hb : band < 8) :
    (bandSwitch band u s).pget TILE_PORTSTAT_TBAND u = band := by
  unfold bandSwitch
  rw [if_neg (by simpa [isOrx] using hu),
    pget_pput_apart _ TILE_PORTSTAT_BGC_CONV TILE_PORTSTAT_TBAND _ _ rfl (by decide) (by decide),
    pget_pput_same _ _ _ _ (by decide)]
  exact Nat.mod_eq_of_lt hb

theorem bandSwitch_pget_ne {u n band : Nat} (s : State) (h : n ≠ u) :
    (bandSwitch band u s).pget TILE_PORTSTAT_TBAND n = s.pget TILE_PORTSTAT_TBAND n := by
  unfold bandSwitch
  dsimp only
  split
  next => rfl
  next => rw [pget_portstat_ne _ _ _ _ rfl rfl h, pget_portstat_ne _ _ _ _ rfl rfl h, modUnit_pget]

theorem bandSwitch_now (band u : Nat) (s : State) : (bandSwitch band u s).now = s.now := by
  unfold bandSwitch
  dsimp only
  split
  next => rfl
  next => simp

theorem bandSwitch_pwr (band u : Nat) (s : State) (t : Nat) :
    (bandSwitch band u s).get PWR_TILE_TBAND t = s.get PWR_TILE_TBAND t := by
  unfold bandSwitch
  dsimp only
  split
  next => rfl
  next => exact (get_put_ne _ _ _ _ _ _ _ _ (.inl (by decide))).trans (get_put_ne _ _ _ _ _ _ _ _ (.inl (by decide)))

/-- The units whose band a tile's change switches are the tile's ports and its ORx, each once. -/
theorem tbandSet_due {t band : Nat} {s : State} (hb : tabGet s.therm.bands t = band) (hne : s.get PWR_TILE_TBAND t ≠ band) :
    tbandSet t s = emit ev_TBAND_SET (96 + t)
      (forAll (portsOf t ++ [96 + t]) (bandSwitch band) ((s.moveTo s.beatCeil).put PWR_TILE_TBAND band t)) := by
  subst hb
  unfold tbandSet
  rw [if_neg hne]

/-- A tile's band change shows in PWR_TILE and at each of its ports (R43, R355). -/
theorem tbandSet_shows {t band : Nat} {s : State} (ht : t < 16) (hb : tabGet s.therm.bands t = band)
    (hne : s.get PWR_TILE_TBAND t ≠ band) (hlt : band < 8) :
    (tbandSet t s).now = max s.now s.beatCeil ∧ (tbandSet t s).get PWR_TILE_TBAND t = band ∧
      ∀ p < 6, (tbandSet t s).get TILE_PORTSTAT_TBAND t p = band := by
  rw [tbandSet_due hb hne]
  refine ⟨?_, ?_, fun p hp => ?_⟩
  · rw [emit_now, forAll_keeps State.now _ _ _ fun u y => bandSwitch_now band u y]
    rfl
  · rw [emit_get (by decide),
      forAll_keeps (State.get · PWR_TILE_TBAND t) _ _ _ fun u y => bandSwitch_pwr band u y t,
      get_put_same _ _ _ _ _ (by decide)]
    exact Nat.mod_eq_of_lt hlt
  · rw [← pget_port _ _ hp, emit_pget (by decide)]
    refine forAll_reach (fun y => y.pget TILE_PORTSTAT_TBAND (6 * t + p) = band) _ _ (a := 6 * t + p) ?_
      (fun y => bandSwitch_shows y (by omega) hlt) fun u _ y hy => ?_
    · exact List.mem_append_left _ (List.mem_map.2 ⟨p, List.mem_range.2 hp, rfl⟩)
    · by_cases hu : 6 * t + p = u
      · exact hu ▸ bandSwitch_shows y (by omega) hlt
      · exact (bandSwitch_pget_ne y hu).trans hy

/-! ### Self-calibration (R49-R53) -/

/-- The moment, and the tiles that are or wait to be calibrated. -/
def State.calGroups (s : State) : Nat × List Nat × List Nat := (s.now, s.cal.group, s.cal.rest)

theorem calGroups_of_cal {s t : State} (hn : t.now = s.now) (hc : t.cal = s.cal) : t.calGroups = s.calGroups := by
  unfold State.calGroups
  rw [hn, hc]

@[simp] theorem put_calGroups (s : State) (f : Fld) (v i j : Nat) : (s.put f v i j).calGroups = s.calGroups := (rfl)
@[simp] theorem pput_calGroups (s : State) (f : Fld) (n v : Nat) : (s.pput f n v).calGroups = s.calGroups := (rfl)
@[simp] theorem modUnit_calGroups (s : State) (u : Nat) (f : Unit → Unit) : (s.modUnit u f).calGroups = s.calGroups := (rfl)
@[simp] theorem emit_calGroups (k : EvKind) (src : Nat) (s : State) (a : Area) (p0 p1 p2 p3 : Nat) :
    (emit k src s a p0 p1 p2 p3).calGroups = s.calGroups := calGroups_of_cal (emit_now ..) (emit_cal ..)
@[simp] theorem latencyDue_calGroups (u : Nat) (rx : Bool) (s : State) : (latencyDue u rx s).calGroups = s.calGroups :=
  calGroups_of_cal (latencyDue_now _ _ _) (latencyDue_cal _ _ _)
@[simp] theorem loadFactors_calGroups (l : List Nat) (t b : Nat) (g : Nat → Word) (s : State) :
    (forAll l (fun w y => y.setCalfac t (b + w) (g w)) s).calGroups = s.calGroups :=
  calGroups_of_cal (loadFactors_now _ _ _ _ _) (loadFactors_cal _ _ _ _ _)
@[simp] theorem ite_calGroups (c : Prop) [Decidable c] (s t : State) :
    (if c then s else t).calGroups = if c then s.calGroups else t.calGroups := apply_ite _ _ _ _

@[simp] theorem setOutOfService_calGroups (u : Nat) (s : State) : (setOutOfService u s).calGroups = s.calGroups := by
  simp [setOutOfService]
@[simp] theorem calReject_calGroups (u : Nat) (s : State) : (calReject u s).calGroups = s.calGroups := by
  simp [calReject, react]
@[simp] theorem clearBgc_calGroups (u : Nat) (s : State) : (clearBgc u s).calGroups = s.calGroups := by
  simp [clearBgc, showConv]

/-- A unit's factors, accepted or rejected, leave the tiles that wait as they are (R49). -/
theorem calUnit_calGroups (u : Nat) (m : List Word) (s : State) : (calUnit u m s).calGroups = s.calGroups := by
  unfold calUnit
  dsimp only
  split
  next => simp
  next => exact (calReject_calGroups _ _).trans rfl

/-- Another tile of the group is still in calibration. -/
theorem exists_mem_ne {l : List Nat} (hl : 2 ≤ l.length) (hn : l.Nodup) (t : Nat) : ∃ x ∈ l, x ≠ t := by
  match l, hl with
  | a :: b :: _, _ =>
    have hab : a ≠ b := fun h => (List.nodup_cons.1 hn).1 (h ▸ List.mem_cons_self)
    by_cases ha : a = t
    · exact ⟨b, by simp, ha ▸ hab.symm⟩
    · exact ⟨a, by simp, ha⟩

/-- The state after the limit checks of the seven units of a tile (R49, R51). -/
def calChecked (t : Nat) (meas : List (List Word)) (s : State) : State :=
  forAll (List.range 7) (fun i y => calUnit ((calUnits t).getD i 0) (meas.getD i []) y)
    ((s.moveTo s.cal.endAt).put TILE_CALSTAT_FAIL_MASK 0 t)

/-- The state `v` with the end of a tile's calibration shown and reported (R53). -/
def calShown (t degree band : Nat) (v : State) : State :=
  emit ev_CAL_DONE (96 + t)
    ((((v.put TILE_CALSTAT_FAIL (bit (v.get TILE_CALSTAT_FAIL_MASK t ≠ 0)) t).put TILE_CALSTAT_STATE 3 t).put
      TILE_CALSTAT_TEMP degree t).put TILE_CALSTAT_TBAND band t)

/-- Tile t leaves the running group. -/
def leaveGroup (t : Nat) (s : State) : State :=
  { s with cal := { s.cal with group := s.cal.group.filter (fun x => x ≠ t) } }

theorem leaveGroup_now (t : Nat) (s : State) : (leaveGroup t s).now = s.now := (rfl)
theorem leaveGroup_rest (t : Nat) (s : State) : (leaveGroup t s).cal.rest = s.cal.rest := (rfl)
theorem leaveGroup_get (t : Nat) (s : State) (f : Fld) (i j : Nat) : (leaveGroup t s).get f i j = s.get f i j := (rfl)
theorem mem_leaveGroup (t x : Nat) (s : State) : x ∈ (leaveGroup t s).cal.group ↔ x ∈ s.cal.group ∧ x ≠ t := by
  simp [leaveGroup]

theorem calChecked_calGroups (t : Nat) (meas : List (List Word)) (s : State) :
    (calChecked t meas s).calGroups = (s.moveTo s.cal.endAt).calGroups :=
  (forAll_keeps State.calGroups _ _ _ fun _ y => calUnit_calGroups _ _ y).trans (put_calGroups _ _ _ _ _)

theorem calShown_calGroups (t degree band : Nat) (v : State) : (calShown t degree band v).calGroups = v.calGroups := by
  simp [calShown]

theorem calShown_state (t degree band : Nat) (v : State) : (calShown t degree band v).get TILE_CALSTAT_STATE t = 3 := by
  unfold calShown
  rw [emit_get (by decide), get_put_apart _ TILE_CALSTAT_TBAND TILE_CALSTAT_STATE _ _ _ rfl (by decide) (by decide),
    get_put_apart _ TILE_CALSTAT_TEMP TILE_CALSTAT_STATE _ _ _ rfl (by decide) (by decide), get_put_same _ _ _ _ _ (by decide)]
  rfl

theorem calShown_band {band : Nat} (t degree : Nat) (v : State) (h : band < 8) :
    (calShown t degree band v).get TILE_CALSTAT_TBAND t = band := by
  unfold calShown
  rw [emit_get (by decide), get_put_same _ _ _ _ _ (by decide)]
  exact Nat.mod_eq_of_lt h

/-- While another tile of its group is still calibrated, a tile that ends only leaves the group (R49). -/
theorem calDone_inGroup {t : Nat} {s : State} (meas : List (List Word)) (h : s.calOn t = true)
    (hx : ∃ x ∈ s.cal.group, x ≠ t) :
    calDone t meas s = leaveGroup t (calShown t (s.tileDegree t) (s.get PWR_TILE_TBAND t) (calChecked t meas s)) := by
  have hgroups := (calShown_calGroups t (s.tileDegree t) (s.get PWR_TILE_TBAND t) _).trans (calChecked_calGroups t meas s)
  simp only [State.calGroups, Prod.mk.injEq] at hgroups
  obtain ⟨-, hgroup, -⟩ := hgroups
  obtain ⟨x, hmem, hne⟩ := hx
  have hleft := List.ne_nil_of_mem ((mem_leaveGroup t x _).2 ⟨hgroup ▸ hmem, hne⟩)
  unfold calDone
  rw [h]
  exact (if_neg (by decide)).trans (if_neg hleft)

theorem completeDefer_get_pst (d : Defer) (st : Nat) (s : State) (x : Nat) (f : Fld) (i j : Nat) (h : f.fam.blk = .pst) :
    (completeDefer d st s x).get f i j = s.get f i j :=
  get_congr_blk f i j (by rw [h]; exact completeDefer_regs_pst _ _ _ _) (completeDefer_part _ _ _ _)

/-- The end of a save clears CAL_SAVING and the calibration with it (R52, R209). -/
theorem calSaveDone_saving (ok : Bool) {s : State} (h : s.cal.saving = true) :
    (calSaveDone ok s).get PST_STAT_CAL_SAVING = 0 ∧ (calSaveDone ok s).cal = {} := by
  have hend (t : State) (dst : Nat) (ht : t.cal = {}) :
      (if ok then t.put PST_STAT_CAL_SAVING 0 else emit ev_CAL_BANK_FAIL 242 (t.put PST_STAT_CAL_SAVING 0) .none 0 dst).get
        PST_STAT_CAL_SAVING = 0 ∧
      (if ok then t.put PST_STAT_CAL_SAVING 0 else emit ev_CAL_BANK_FAIL 242 (t.put PST_STAT_CAL_SAVING 0) .none 0 dst).cal =
        {} := by
    split
    next => exact ⟨get_put_same _ _ _ _ _ (by decide), ht⟩
    next =>
      rw [emit_get (by decide), emit_cal]
      exact ⟨get_put_same _ _ _ _ _ (by decide), ht⟩
  unfold calSaveDone
  simp only [h, Bool.not_true, Bool.false_eq_true, if_false]
  split
  next d _ =>
    rw [completeDefer_cal, completeDefer_get_pst _ _ _ _ _ _ _ rfl]
    exact hend _ _ rfl
  next => exact hend _ _ rfl

/-- Settles O19: each event written out; a group of two or more tiles keeps the others, and the end of a save leaves nothing of
the calibration. -/
theorem calibrationEvents : Obligations.CalibrationEvents := by
  intro s hs
  refine ⟨fun u m hc => ?_, fun u e he hc => ⟨?_, fun m hm => ?_, fun m hm => ?_⟩, fun u hc hb => ?_, fun t hne hlt => ?_,
    fun t meas hc hl hn => ?_, fun ok hsave => ?_⟩
  · have hd := row_next (stormRecalDone u m) hs
    rw [stormRecalDone_calibrated m hc] at hd
    exact hd
  · have hd := row_next (stormRecalDone u none) hs
    rw [stormRecalDone_unmeasured he hc] at hd
    exact hd
  · exact ⟨_, row_next _ hs, stormRecalDone_accepted he hc hm⟩
  · have hd := row_next (stormRecalDone u (some m)) hs
    rw [stormRecalDone_rejected he hc hm] at hd
    exact hd
  · exact ⟨_, row_next _ hs, bgcConverged_due hc hb⟩
  · exact ⟨_, row_next _ hs, tbandSet_shows t.isLt rfl hne hlt⟩
  · refine ⟨_, row_next _ hs, ?_⟩
    rw [calDone_inGroup meas hc (exists_mem_ne hl hn t)]
    have hgroups := (calShown_calGroups t (s.tileDegree t) (s.get PWR_TILE_TBAND t) _).trans (calChecked_calGroups t meas s)
    simp only [State.calGroups, Prod.mk.injEq] at hgroups
    obtain ⟨hnow, hgroup, hrest⟩ := hgroups
    rw [leaveGroup_now, leaveGroup_rest, leaveGroup_get, leaveGroup_get]
    exact ⟨hnow, calShown_state _ _ _ _, calShown_band _ _ _ (get_lt _ _ _ _),
      fun x => hgroup ▸ mem_leaveGroup t x _, hrest⟩
  · exact ⟨_, row_next _ hs, calSaveDone_saving ok hsave⟩

end Sys2Proof.Machine
end

section
/-!
PROOFS. The ring commands that calibrate, fetch a nonce, and run stacks and pairs (R49, R174, R196, R257-R276).
-/
namespace Sys2Proof.Machine
open Sys2Proof

/-! ### Bits of a mask -/

theorem bitOf_eq_testBit (v i : Nat) : bitOf v i = v.testBit i := (Nat.testBit_eq_decide_div_mod_eq).symm

/-- A mask that is not 0 selects something. -/
theorem selected_ne_nil {n v : Nat} (h0 : v ≠ 0) (hlt : v < 2 ^ n) : (List.range n).filter (fun i => bitOf v i) ≠ [] := by
  obtain ⟨i, hi⟩ := Nat.exists_testBit_of_ne_zero h0
  have hin : i < n := by
    by_contra hge
    have hle := Nat.ge_two_pow_of_testBit hi
    exact absurd (hlt.trans_le ((Nat.pow_le_pow_right (by decide) (not_lt.1 hge)).trans hle)) (lt_irrefl _)
  exact List.ne_nil_of_mem (List.mem_filter.2 ⟨List.mem_range.2 hin, (bitOf_eq_testBit v i).trans hi⟩)

theorem selected_zero (n : Nat) : (List.range n).filter (fun i => bitOf 0 i) = [] := by
  simp [bitOf]

theorem mem_selected {n v i : Nat} : i ∈ (List.range n).filter (fun i => bitOf v i) ↔ i < n ∧ bitOf v i = true := by
  rw [List.mem_filter, List.mem_range]

/-! ### CONV_CAL and SYNTH_CAL (R49, R174) -/

section
variable {r tag mask : Nat} {save : Bool} {s : State}

/-- A selected tile in SLEEP, STANDBY or RELAY forbids the calibration (R49). -/
theorem convCal_forbidden (h : ∃ i < 16, bitOf mask i = true ∧ (s.rstate i ≤ 1 ∨ s.rstate i = 4)) :
    convCal r tag mask save s = completeCmd r tag stWRONG_STATE s := by
  obtain ⟨i, hi, hbit, hst⟩ := h
  exact if_pos (List.any_eq_true.2 ⟨i, mem_selected.2 ⟨hi, hbit⟩, by simpa using hst⟩)

/-- No selected tile forbids the calibration. -/
theorem convCal_allowed (h : ∀ i < 16, bitOf mask i = true → 2 ≤ s.rstate i ∧ s.rstate i ≠ 4) :
    ¬((List.range 16).filter (fun t => bitOf mask t)).any (fun t => s.rstate t ≤ 1 || s.rstate t = 4) = true := by
  intro hany
  obtain ⟨i, hi, hst⟩ := List.any_eq_true.1 hany
  obtain ⟨hlt, hbit⟩ := mem_selected.1 hi
  obtain ⟨hge, hne⟩ := h i hlt hbit
  have hor : s.rstate i ≤ 1 ∨ s.rstate i = 4 := by simpa using hst
  omega

theorem convCal_busy (h : ∀ i < 16, bitOf mask i = true → 2 ≤ s.rstate i ∧ s.rstate i ≠ 4)
    (hb : (s.cal.running || s.cal.saving) = true) : convCal r tag mask save s = completeCmd r tag stBUSY s :=
  (if_neg (convCal_allowed h)).trans (if_pos hb)

theorem convCal_starts (h : ∀ i < 16, bitOf mask i = true → 2 ≤ s.rstate i ∧ s.rstate i ≠ 4)
    (hb : (s.cal.running || s.cal.saving) = false) (h0 : mask ≠ 0) (hlt : mask < 2 ^ 16) :
    convCal r tag mask save s = calStart mask save false (some (s.defer r tag)) s :=
  (if_neg (convCal_allowed h)).trans ((if_neg (by rw [hb]; exact Bool.false_ne_true)).trans (if_neg (selected_ne_nil h0 hlt)))

end

theorem calNextGroup_cal (s : State) : (calNextGroup s).cal =
    { s.cal with group := s.cal.rest.take 4, rest := s.cal.rest.drop 4, endAt := s.now + 450 * Config.ms } :=
  forAll_keeps State.cal _ _ _ fun _ _ => rfl

/-- A calibration starts with the first four selected tiles; the others wait (R49). -/
theorem calStart_cal (mask : Nat) (save startup : Bool) (cmd : Option Defer) (s : State) :
    (calStart mask save startup cmd s).cal =
      { running := true, startup := startup, save := save, cmd := cmd, endAt := s.now + 450 * Config.ms
        group := ((List.range 16).filter (fun t => bitOf mask t)).take 4
        rest := ((List.range 16).filter (fun t => bitOf mask t)).drop 4 } := by
  unfold calStart
  rw [calNextGroup_cal]
  dsimp only
  rw [forAll_keeps State.now _ _ _ fun _ _ => put_now ..]

theorem synthCal_badMask {r tag mask : Nat} {s : State} (h : mask = 0 ∨ 16 ≤ mask) :
    synthCal r tag mask s = completeCmd r tag stINVALID_FIELD s := by
  refine if_pos ?_
  rw [Bool.or_eq_true, decide_eq_true_eq, decide_eq_true_eq]
  refine h.imp_left fun h0 => ?_
  subst h0
  exact selected_zero 4

/-- With the device at SYNTH or above, no tile of a selected quadrant in RELAY and no calibration running, the selected
synthesizers are picked (R174). -/
theorem synthCal_starts {r tag mask : Nat} {s : State} (h0 : mask ≠ 0) (hlt : mask < 16) (hst : 2 ≤ s.rstate 16)
    (hrelay : ∀ q < 4, bitOf mask q = true → s.quadRelay q = false) (hrun : s.cal.running = false)
    (hidle : ∀ q < 4, (s.synth q).calEnd = none ∧ (s.synth q).want = false) :
    synthCal r tag mask s = kickRadio (forAll ((List.range 4).filter (fun q => bitOf mask q)) (fun q t =>
      t.modSynth q (fun y => { y with picked := true, cmd := some (s.defer r tag) })) s) := by
  have hsel := selected_ne_nil (n := 4) h0 hlt
  have hany : ((List.range 4).filter (fun q => bitOf mask q)).any s.quadRelay = false :=
    List.any_eq_false.2 fun q hq => by
      obtain ⟨hq4, hbit⟩ := mem_selected.1 hq
      simp [hrelay q hq4 hbit]
  have hbusy : (List.range 4).any (fun q => (s.synth q).calEnd.isSome || (s.synth q).want) = false :=
    List.any_eq_false.2 fun q hq => by
      obtain ⟨hend, hwant⟩ := hidle q (List.mem_range.1 hq)
      simp [hend, hwant]
  have hmask : ¬(decide ((List.range 4).filter (fun q => bitOf mask q) = []) || decide (16 ≤ mask)) = true := by
    rw [Bool.or_eq_true, decide_eq_true_eq, decide_eq_true_eq]
    exact not_or.2 ⟨hsel, not_le.2 hlt⟩
  unfold synthCal
  dsimp only
  rw [if_neg hmask, hany, hbusy, hrun, if_neg (by simp; omega)]
  rfl

/-! ### NONCE_GET (R196) -/

/-- The bytes of the nonce issued next: 24 random ones, the lock generation, and the count that includes it (log 58). -/
def State.nextNonce (s : State) : List Nat :=
  ((List.range 6).map (fun k => leBytes 4 (Config.freeValue (s.free + k)).toNat)).flatten ++
    leBytes 4 (s.get PST_LOCKGEN_GEN) ++ leBytes 4 (s.pst.nonces + 1)

theorem nextNonce_length (s : State) : s.nextNonce.length = 32 := by
  simp [State.nextNonce, List.length_flatten, Function.comp_def]

theorem nextNonce_tail (s : State) :
    s.nextNonce.drop 24 = leBytes 4 (s.get PST_LOCKGEN_GEN) ++ leBytes 4 (s.pst.nonces + 1) := by
  unfold State.nextNonce
  rw [List.append_assoc]
  exact List.drop_left' (by simp [List.length_flatten, Function.comp_def])

/-- The state after a nonce is issued to an address of host memory. -/
def issueNonce (addr : Nat) (s : State) : State :=
  { s with
    free := s.free + 6
    pst := { s.pst with nonce := some { bytes := s.nextNonce, issued := s.opTime }, nonces := s.pst.nonces + 1 }
    hif := { s.hif with nonceMem := (addr, s.nextNonce) :: s.hif.nonceMem.take 15 } }.put PST_STAT_NONCE_VALID 1

theorem nonceGet_issues (r tag addr : Nat) (s : State) :
    nonceGet r tag addr s = completeCmd r tag stSUCCESS (issueNonce addr s) := rfl

/-! ### Stacks and pairs (R257-R276) -/

section
variable {r tag : Nat} {s : State}

theorem stackRealign_notMaster (h : s.isMaster = false) : stackRealign r tag s = completeCmd r tag stNOT_MASTER s := by
  unfold stackRealign
  rw [h]
  rfl
theorem pairSwap_notMaster (h : s.isMaster = false) : pairSwap r tag s = completeCmd r tag stNOT_MASTER s := by
  unfold pairSwap
  rw [h]
  rfl
theorem pairPromote_notMaster (h : s.isMaster = false) : pairPromote r tag s = completeCmd r tag stNOT_MASTER s := by
  unfold pairPromote
  rw [h]
  rfl
theorem pairResync_notMaster (h : s.isMaster = false) : pairResync r tag s = completeCmd r tag stNOT_MASTER s := by
  unfold pairResync
  rw [h]
  rfl

variable (hm : s.isMaster = true)
include hm

/-- A pulse is scheduled for the first beat boundary at least 4 beats later (R259). -/
theorem stackRealign_master :
    stackRealign r tag s = completeCmd r tag stSUCCESS
      { s with qlk := { s.qlk with realignAt := some (s.beatTick (s.beatAt (s.now + 4 * Config.beat))) } } := by
  unfold stackRealign
  rw [hm]
  rfl

theorem pairSwap_unreachable (h : s.linkSt 3 ≠ 3) : pairSwap r tag s = completeCmd r tag stUNREACHABLE s := by
  unfold pairSwap
  rw [hm, if_neg (by decide), if_pos h]

/-- A swap in step with its counterpart is asked for over link 3 (R275). -/
theorem pairSwap_asks (hl : s.linkSt 3 = 3) (hr : s.role = 1 ∨ s.role = 2) (hsync : s.flag QLK_PAIRSTAT_MIRROR_SYNC = true)
    (hswap : s.qlk.swap = none) :
    pairSwap r tag s = sendMsg 3 .swap [] { s with qlk := { s.qlk with swap := some (s.defer r tag) } } := by
  unfold pairSwap
  rw [hm, if_neg (by decide), if_neg (by simp [hl]), if_neg (by obtain h | h := hr <;> simp [h, hsync]), hswap]
  rfl

theorem pairPromote_bullpen (hr : s.role = 2) (hl : s.linkSt 3 = 0) :
    pairPromote r tag s = completeCmd r tag stSUCCESS (promote s) := by
  unfold pairPromote
  rw [hm, if_neg (by decide), if_neg (by simp [hr, hl])]

theorem pairPromote_wrongRole (hr : s.role ≠ 2) : pairPromote r tag s = completeCmd r tag stWRONG_STATE s := by
  unfold pairPromote
  rw [hm, if_neg (by decide), if_pos (by simp [hr])]

theorem pairResync_wrongRole (hr : s.role ≠ 1) : pairResync r tag s = completeCmd r tag stWRONG_STATE s := by
  unfold pairResync
  rw [hm, if_neg (by decide), if_pos hr]

theorem pairResync_active (hr : s.role = 1) (hl : s.linkSt 3 = 3) :
    pairResync r tag s = completeCmd r tag stSUCCESS (sendConfig { s with qlk := { s.qlk with resyncDue := true } }) := by
  unfold pairResync
  rw [hm, if_neg (by decide), if_neg (by simp [hr]), if_neg (by simp [hl])]

end

/-- A ring command of a served ring, as its branch on the state after its fetch has it. -/
theorem ringCmd_does {i : Instr} {d : Desc} {k : Nat → Nat → State → State} {s u : State}
    (hi : exec i s = ringCmd d k s) (hsv : s.served d.ring) (hl : d.lost = false) (hd : descBad d = false)
    (hu : k d.ring d.tag.toNat (fetch d.ring s) = u) : Does i s u := by
  unfold Does
  rw [hi, ringCmd_next d k hsv hl hd, hu]

/-- Settles O58: a served ring runs the command on the state after its fetch, and each case above is one of its branches.
PAIR_PROMOTE and PAIR_RESYNC look at the master's own link 3 (log 95), and the count of a nonce includes it (log 58). -/
theorem calibrationStackAndPairCommands : Obligations.CalibrationStackAndPairCommands := by
  refine ⟨fun s d hsv hl hd => ?_, fun s d hsv hl hd => ?_⟩
  · refine ⟨fun mask save hf => ?_, fun mask save ha => ⟨fun hb => ?_, fun hb h0 => ?_⟩, fun mask hm => ?_,
      fun mask h0 hlt hst hr hrun hidle => ?_, fun addr => ?_⟩
    · exact ringCmd_does (k := fun r tag => convCal r tag mask.toNat save) rfl hsv hl hd (convCal_forbidden hf)
    · exact ringCmd_does (k := fun r tag => convCal r tag mask.toNat save) rfl hsv hl hd (convCal_busy ha hb)
    · refine ⟨_, ringCmd_does (k := fun r tag => convCal r tag mask.toNat save) rfl hsv hl hd
        (convCal_starts ha hb (fun h => h0 (BitVec.eq_of_toNat_eq h)) mask.isLt), ?_⟩
      rw [calStart_cal]
      exact ⟨rfl, rfl, rfl, rfl, fun i => by rw [List.take_append_drop]; exact mem_selected⟩
    · exact ringCmd_does (k := fun r tag => synthCal r tag mask.toNat) rfl hsv hl hd
        (synthCal_badMask (hm.imp_left (congrArg BitVec.toNat)))
    · exact ringCmd_does (k := fun r tag => synthCal r tag mask.toNat) rfl hsv hl hd
        (synthCal_starts (fun h => h0 (BitVec.eq_of_toNat_eq h)) hlt hst hr hrun hidle)
    · exact ⟨_, issueNonce addr.toNat (fetch d.ring s), rfl, rfl, rfl, get_put_same _ _ _ _ _ (by decide),
        nextNonce_length _, nextNonce_tail _,
        ringCmd_does (k := fun r tag => nonceGet r tag addr.toNat) rfl hsv hl hd (nonceGet_issues _ _ _ _)⟩
  · refine ⟨fun hm => ⟨?_, ?_, ?_, ?_⟩, fun hm => ⟨?_, fun hl3 => ?_, fun hl3 hr hsync hswap => ?_, fun hr hl3 => ?_,
      fun hr => ?_, fun hr => ?_, fun hr hl3 => ?_⟩⟩
    · exact ringCmd_does (k := stackRealign) rfl hsv hl hd (stackRealign_notMaster hm)
    · exact ringCmd_does (k := pairSwap) rfl hsv hl hd (pairSwap_notMaster hm)
    · exact ringCmd_does (k := pairPromote) rfl hsv hl hd (pairPromote_notMaster hm)
    · exact ringCmd_does (k := pairResync) rfl hsv hl hd (pairResync_notMaster hm)
    · exact ringCmd_does (k := stackRealign) rfl hsv hl hd (stackRealign_master hm)
    · exact ringCmd_does (k := pairSwap) rfl hsv hl hd (pairSwap_unreachable hm hl3)
    · exact ringCmd_does (k := pairSwap) rfl hsv hl hd (pairSwap_asks hm hl3 hr hsync hswap)
    · exact ringCmd_does (k := pairPromote) rfl hsv hl hd (pairPromote_bullpen hm hr hl3)
    · exact ringCmd_does (k := pairPromote) rfl hsv hl hd (pairPromote_wrongRole hm hr)
    · exact ringCmd_does (k := pairResync) rfl hsv hl hd (pairResync_wrongRole hm hr)
    · exact ringCmd_does (k := pairResync) rfl hsv hl hd (pairResync_active hm hr hl3)

end Sys2Proof.Machine
end

section
/-!
PROOFS. Register writes of ports, radio, store, host link and time that act (R42, R131, R176, R180, R209, R233, R260-R262).
-/
namespace Sys2Proof.Machine
open Sys2Proof

/-! ### A write that its block takes -/

theorem get_putWord_ne (s : State) (f : RegFam) (g : Fld) (w : Word) (i j i' j' : Nat)
    (h : g.fam.blk ≠ f.blk ∨ regOff g.fam i' j' ≠ regOff f i j) : (s.putWord f w i j).get g i' j' = s.get g i' j' := by
  unfold State.get
  rw [word_putWord_ne _ _ _ _ _ _ _ _ h]

/-- The registers of these writes. -/
def radioSideFams : List RegFam := [TILE_PORTSTAT, CLK_TSTAT, TILE_PASTAT, ISO_LSEL, PST_PGSEL, HIF_HBSTAT, TIM_SET2]

/-- None of them is staged, locked, persistent or a counter, and the offset of each of their registers leads to it. -/
theorem radioSideFams_decode : ∀ f ∈ radioSideFams, f.rws = 0 ∧ f.rwl = 0 ∧ f ∉ counterFams ∧
    ∀ i < f.n1, ∀ j < f.n2, persistIdx (regOff f i j) = none ∧ blkOf (regOff f i j) = some f.blk ∧
      findFam (famsOf f.blk) (regOff f i j) = some (f, i, j) := by
  decide +kernel

/-- While the firmware runs, such a write is its block's (R4). -/
theorem wordWrite_radioSide {f : RegFam} {i j : Nat} (v : Word) {s : State} (hf : f ∈ radioSideFams)
    (hi : i < f.n1) (hj : j < f.n2) (hr : s.running = true) : wordWrite (regOff f i j) v s = blockWrite f i j v s := by
  obtain ⟨hrws, hrwl, hcnt, hdec⟩ := radioSideFams_decode f hf
  obtain ⟨hpersist, hblk, hfind⟩ := hdec i hi j hj
  simp [wordWrite, famWrite, hr, hblk, hfind, hrws, hrwl, hcnt, hpersist]

/-- What the block makes of the write is the command's own effect. -/
theorem radioSide_does {c : Instr} {f : RegFam} {i j : Nat} {v : Word} {s u : State} (hc : exec c s = hostReg (regOff f i j) v s)
    (hl : s.linked) (hr : s.running = true) (hf : f ∈ radioSideFams) (hi : i < f.n1) (hj : j < f.n2)
    (hu : blockWrite f i j v s = u) : DoesP c s u := by
  unfold DoesP
  rw [hc, hostReg_next _ _ hl, wordWrite_radioSide v hf hi hj hr, hu]

/-! ### Ports and tiles (R42, R176, R180) -/

theorem portIndex (p : Fin 96) : p.val / 6 < 16 ∧ p.val % 6 < 6 ∧ 6 * (p.val / 6) + p.val % 6 = p.val := by omega

theorem blockWrite_portstat (i j : Nat) (v : Word) (s : State) : blockWrite TILE_PORTSTAT i j v s =
    (let t := plainWrite TILE_PORTSTAT i j (v &&& ~~~(0x200#32)) s
     if getBits v 9 1 = 1 then bubbleMuteRelease (6 * i + j) t else t) := by
  show portWrite TILE_PORTSTAT i j v s = _
  unfold portWrite
  rw [if_neg (by decide), if_pos rfl]

theorem bubbleMuteRelease_clears (n : Nat) (s : State) : (bubbleMuteRelease n s).pget TILE_PORTSTAT_BUBBLE_MUTE n = 0 :=
  pget_pput_same _ _ _ _ (by decide)

theorem blockWrite_tstat (i j : Nat) (v : Word) (s : State) :
    blockWrite CLK_TSTAT i j v s = if getBits v 3 1 = 1 then forcedClear i s else s := by
  show portWrite CLK_TSTAT i j v s = _
  unfold portWrite
  rw [if_pos rfl]

theorem blockWrite_pastat (i j : Nat) (v : Word) (s : State) :
    blockWrite TILE_PASTAT i j v s = if getBits v 3 1 = 1 then paFltClear (6 * i + j) s else s := by
  show portWrite TILE_PASTAT i j v s = _
  unfold portWrite
  rw [if_neg (by decide), if_neg (by decide), if_pos rfl]

/-- While the pin is low, FLT stays (R180). -/
theorem paFltClear_pinLow {p : Nat} {s : State} (h : s.pflag TILE_PASTAT_FLT_PIN p = false) : paFltClear p s = s := by
  unfold paFltClear
  rw [h]
  rfl

theorem pa_modPa_same (s : State) (n : Nat) (f : Pa → Pa) : (s.modPa n f).pa n = f (s.pa n) := tabGet_tabMod_same _ _ _
theorem modPa_pget (s : State) (n : Nat) (g : Pa → Pa) (f : Fld) (m : Nat) : (s.modPa n g).pget f m = s.pget f m := (rfl)

/-- With the pin high, FLT falls, and without an amplifier the hard mute with it (R179, R180). -/
theorem paFltClear_absent {p : Nat} {s : State} (hpin : s.pflag TILE_PASTAT_FLT_PIN p = true)
    (hflt : s.pflag TILE_PASTAT_FLT p = true) (hno : s.pflag TILE_PACFG_PA_PRESENT p = false) :
    (paFltClear p s).pget TILE_PASTAT_FLT p = 0 ∧ ((paFltClear p s).pa p).hard = false := by
  have hclear : paFltClear p s = (s.pput TILE_PASTAT_FLT p 0).modPa p (fun x => { x with hard := false }) := by
    unfold paFltClear
    rw [hpin, hflt, hno]
    rfl
  rw [hclear, modPa_pget, pa_modPa_same]
  exact ⟨pget_pput_same _ _ _ _ (by decide), rfl⟩

/-! ### The windows of a link and of a page (R131, R209) -/

theorem blockWrite_lsel (i j : Nat) (v : Word) (s : State) : blockWrite ISO_LSEL i j v s = lselSnapshot v.toNat s := by
  show (if ISO_LSEL = ISO_LSEL then lselSnapshot v.toNat s else plainWrite ISO_LSEL i j v s) = _
  rw [if_pos rfl]

theorem blockWrite_pgsel (i j : Nat) (v : Word) (s : State) : blockWrite PST_PGSEL i j v s = pgselSnapshot v.toNat s := by
  show (if PST_PGSEL = PST_PGSEL then pgselSnapshot v.toNat s else plainWrite PST_PGSEL i j v s) = _
  rw [if_pos rfl]

/-- A put of a tap leaves the registers of the window below the taps alone. -/
theorem put_tap_get (s : State) (f g : Fld) (v k : Nat) (hf : f.fam = ISO_LTAP) (hg : g.fam = ISO_LSEL ∨ g.fam = ISO_LSTAT) :
    (s.put f v k).get g = s.get g := by
  refine get_put_ne _ _ _ _ _ _ _ _ (.inr ?_)
  have hbelow : regOff g.fam 0 0 < ISO_LTAP.base := by obtain hg | hg := hg <;> (rw [hg]; decide)
  rw [hf]
  simp only [regOff] at hbelow ⊢
  omega

/-- The link window shows its link, with the link's state and whether its reference is quiet. -/
theorem lselSnapshot_shows (v : Nat) (s : State) :
    (lselSnapshot v s).get ISO_LSEL_LINK = v % 16384 ∧ (lselSnapshot v s).get ISO_LSTAT_STATE = (s.link (v % 16384)).st % 8 ∧
      (lselSnapshot v s).get ISO_LSTAT_REF_QUIET = bit (s.link (v % 16384)).quiet := by
  have htaps (g : Fld) (hg : g.fam = ISO_LSEL ∨ g.fam = ISO_LSTAT) (l : List Nat) (fi fq : Nat → Nat) (t : State) :
      (forAll l (fun k t => (t.put ISO_LTAP_I (fi k) k).put ISO_LTAP_Q (fq k) k) t).get g = t.get g :=
    forAll_keeps (State.get · g) _ _ _ fun k t => (put_tap_get _ _ g _ _ rfl hg).trans (put_tap_get _ _ g _ _ rfl hg)
  have hstat (t : State) (f : Fld) (hf : f.fam = ISO_LSTAT) (x : Nat) : (t.put f x).get ISO_LSEL_LINK = t.get ISO_LSEL_LINK :=
    get_put_ne _ _ _ _ _ _ _ _ (.inr (by rw [hf]; decide))
  unfold lselSnapshot
  dsimp only
  rw [htaps _ (.inl rfl), htaps _ (.inr rfl), htaps _ (.inr rfl)]
  refine ⟨?_, ?_, ?_⟩
  · rw [hstat _ ISO_LSTAT_ISO_PRE rfl, hstat _ ISO_LSTAT_ISO_RES rfl, hstat _ ISO_LSTAT_REF_QUIET rfl,
      hstat _ ISO_LSTAT_STATE rfl, get_put_same _ _ _ _ _ (by decide)]
    exact Nat.mod_mod _ _
  · rw [get_put_apart _ ISO_LSTAT_ISO_PRE ISO_LSTAT_STATE _ _ _ rfl (by decide) (by decide),
      get_put_apart _ ISO_LSTAT_ISO_RES ISO_LSTAT_STATE _ _ _ rfl (by decide) (by decide),
      get_put_apart _ ISO_LSTAT_REF_QUIET ISO_LSTAT_STATE _ _ _ rfl (by decide) (by decide), get_put_same _ _ _ _ _ (by decide)]
    rfl
  · rw [get_put_apart _ ISO_LSTAT_ISO_PRE ISO_LSTAT_REF_QUIET _ _ _ rfl (by decide) (by decide),
      get_put_apart _ ISO_LSTAT_ISO_RES ISO_LSTAT_REF_QUIET _ _ _ rfl (by decide) (by decide), get_put_same _ _ _ _ _ (by decide)]
    exact Nat.mod_eq_of_lt (bit_lt_two _)

/-- The page window shows the stored cells and the stored check word of its page. -/
theorem pgselSnapshot_shows (v : Nat) (s : State) :
    (pgselSnapshot v s).get PST_PGSEL_SEL = v % 256 ∧ ∀ i < 64, (pgselSnapshot v s).word PST_PGDATA i =
      BitVec.ofNat 32 (ofLe (((s.cellBytes (v % 256) ++ leBytes 4 (s.cellCheck (v % 256))).drop (4 * i)).take 4)) := by
  unfold pgselSnapshot
  dsimp only
  refine ⟨?_, fun i hi => ?_⟩
  · rw [forAll_keeps (State.get · PST_PGSEL_SEL) _ _ _ fun k t => get_putWord_ne _ _ _ _ _ _ _ _ (.inr ?_),
      get_put_same _ _ _ _ _ (by decide)]
    · exact Nat.mod_mod _ _
    · simp only [regOff, PST_PGSEL_SEL, PST_PGSEL, PST_PGDATA]
      omega
  · refine forAll_reach (fun t : State => t.word PST_PGDATA i = _) _ _ (List.mem_range.2 hi) (fun t => ?_) fun k _ t ht => ?_
    · exact word_putWord_same _ _ _ _ _
    · by_cases hk : i = k
      · subst hk
        exact word_putWord_same _ _ _ _ _
      · exact (word_putWord_ne _ _ _ _ _ _ _ _ (.inr (by simp only [regOff, PST_PGDATA]; omega))).trans ht

/-! ### The loss of the host, and the arming of a time set (R233, R262) -/

theorem blockWrite_hbstat (i j : Nat) (v : Word) (s : State) : blockWrite HIF_HBSTAT i j v s = hostLostClear v s := by
  have hbase : baseOf HIF_HBSTAT = none := by decide
  show hifWrite HIF_HBSTAT i j v s = _
  unfold hifWrite
  rw [hbase]
  exact if_pos rfl

theorem blockWrite_set2 (i j : Nat) (v : Word) (s : State) : blockWrite TIM_SET2 i j v s = timeSetArm v.toNat s := by
  show timWrite TIM_SET2 i j v s = _
  unfold timWrite
  rw [if_pos rfl]

theorem hostLostClear_resumed {v : Word} {s : State} (hv : getBits v 1 1 = 1) (hlost : s.hif.lost = true)
    (hbeat : s.hif.beatSince = true) : (hostLostClear v s).hif.lost = false := by
  unfold hostLostClear
  rw [hv, hlost, hbeat]
  rfl

theorem hostLostClear_nothing {v : Word} {s : State} (h : getBits v 1 1 = 0 ∨ s.hif.beatSince = false) :
    hostLostClear v s = s := by
  unfold hostLostClear
  obtain h | h := h
  · rw [h]
    rfl
  · rw [h, Bool.and_false]
    rfl

theorem timLocked_member {s : State} (off : Nat) (h : s.isMaster = false) : s.timLocked off = true := by
  unfold State.timLocked
  rw [h]
  rfl

theorem timLocked_free {s : State} (off : Nat) (hm : s.isMaster = true) (ha : s.tim.armed = none) :
    s.timLocked off = false := by
  unfold State.timLocked
  rw [hm, ha]
  rfl

/-- A write with ARM set arms the time that SET0 to SET2 spell; one without it arms nothing (R262). -/
theorem timeSetArm_master {val : Nat} {s : State} (hm : s.isMaster = true) (ha : s.tim.armed = none) :
    (val / 2 ^ 31 % 2 = 1 → (timeSetArm val s).tim = { s.tim with
      armed := some (s.get TIM_SET0_FRAC + s.get TIM_SET1_SEC * 2 ^ 32 + val % 65536 * 2 ^ 64)
      setNow := bitOf val 30, armAt := s.now }) ∧
    (val / 2 ^ 31 % 2 = 0 → (timeSetArm val s).tim = s.tim) := by
  have hfrac (w : Word) : (s.putWord TIM_SET2 w).get TIM_SET0_FRAC = s.get TIM_SET0_FRAC :=
    get_putWord_ne _ _ _ _ _ _ _ _ (.inr (by decide))
  have hsec (w : Word) : (s.putWord TIM_SET2 w).get TIM_SET1_SEC = s.get TIM_SET1_SEC :=
    get_putWord_ne _ _ _ _ _ _ _ _ (.inr (by decide))
  unfold timeSetArm
  rw [timLocked_free _ hm ha]
  refine ⟨fun h => ?_, fun h => ?_⟩
  · simp only [h, hfrac, hsec, Bool.false_eq_true, if_false, if_true]
    rfl
  · simp only [h, Bool.false_eq_true, if_false, Nat.zero_ne_one]
    rfl

/-- Settles O55: each write is its block's, whose branch for the register is the operation named. That a write which
does not clear LOST is not counted is the model's reading (log 86). -/
theorem actingWritesOfTheRadioSide : Obligations.ActingWritesOfTheRadioSide := by
  intro s hl hr
  refine ⟨fun p => ?_, fun t v => ⟨fun hv => ?_, fun hv => ?_⟩, fun p v => ⟨fun hv => ?_, fun hv hpin hflt hno => ?_,
    fun hv hpin => ?_⟩, fun v => ?_, fun v => ?_, fun v => ⟨fun hv hlost hbeat => ?_, fun h => ?_⟩, fun v hm ha => ?_,
    fun v hm => ?_⟩
  · obtain ⟨hi, hj, hp⟩ := portIndex p
    refine ⟨_, radioSide_does (f := TILE_PORTSTAT) rfl hl hr (by decide) hi hj (blockWrite_portstat _ _ _ _), ?_⟩
    rw [hp]
    exact bubbleMuteRelease_clears _ _
  · exact radioSide_does (f := CLK_TSTAT) rfl hl hr (by decide) t.isLt (by decide)
      ((blockWrite_tstat _ _ _ _).trans (if_pos hv))
  · exact radioSide_does (f := CLK_TSTAT) rfl hl hr (by decide) t.isLt (by decide)
      ((blockWrite_tstat _ _ _ _).trans (if_neg (by rw [hv]; decide)))
  · obtain ⟨hi, hj, -⟩ := portIndex p
    exact radioSide_does (f := TILE_PASTAT) rfl hl hr (by decide) hi hj
      ((blockWrite_pastat _ _ _ _).trans (if_neg (by rw [hv]; decide)))
  · obtain ⟨hi, hj, hp⟩ := portIndex p
    refine ⟨_, radioSide_does (f := TILE_PASTAT) rfl hl hr (by decide) hi hj
      ((blockWrite_pastat _ _ _ _).trans (if_pos hv)), ?_⟩
    rw [hp]
    exact paFltClear_absent hpin hflt hno
  · obtain ⟨hi, hj, hp⟩ := portIndex p
    refine radioSide_does (f := TILE_PASTAT) rfl hl hr (by decide) hi hj
      ((blockWrite_pastat _ _ _ _).trans ((if_pos hv).trans ?_))
    rw [hp]
    exact paFltClear_pinLow hpin
  · exact ⟨_, radioSide_does (f := ISO_LSEL) (i := 0) (j := 0) rfl hl hr (by decide) (by decide) (by decide)
      (blockWrite_lsel _ _ _ _), lselSnapshot_shows _ _⟩
  · exact ⟨_, radioSide_does (f := PST_PGSEL) (i := 0) (j := 0) rfl hl hr (by decide) (by decide) (by decide)
      (blockWrite_pgsel _ _ _ _), pgselSnapshot_shows _ _⟩
  · exact ⟨_, radioSide_does (f := HIF_HBSTAT) (i := 0) (j := 0) rfl hl hr (by decide) (by decide) (by decide)
      (blockWrite_hbstat _ _ _ _), hostLostClear_resumed hv hlost hbeat⟩
  · exact radioSide_does (f := HIF_HBSTAT) (i := 0) (j := 0) rfl hl hr (by decide) (by decide) (by decide)
      ((blockWrite_hbstat _ _ _ _).trans (hostLostClear_nothing h))
  · have hd : DoesP (.timeSetArm v) s (timeSetArm v.toNat s) :=
      radioSide_does (f := TIM_SET2) (i := 0) (j := 0) rfl hl hr (by decide) (by decide) (by decide) (blockWrite_set2 _ _ _ _)
    obtain ⟨harm, hno⟩ := timeSetArm_master (val := v.toNat) hm ha
    refine ⟨fun hv => ⟨_, hd, ?_⟩, fun hv => ⟨_, hd, hno hv⟩⟩
    rw [harm hv]
    exact ⟨rfl, rfl, rfl⟩
  · exact radioSide_does (f := TIM_SET2) (i := 0) (j := 0) rfl hl hr (by decide) (by decide) (by decide)
      ((blockWrite_set2 _ _ _ _).trans (if_pos (timLocked_member _ hm)))

end Sys2Proof.Machine
end

section
/-!
PROOFS. The band fabric: the end of a prototype change, the return of remote inputs, and route quarters that fail and
reload (R63, R73, R98, R104).
-/
namespace Sys2Proof.Machine
open Sys2Proof

/-! ### The end of a prototype change (R63, R73) -/

/-- The state in which the 18 zeroed samples of a port that began at sample `z` are past, before its latencies follow. -/
def zerosEnd (p z : Nat) (s : State) : State :=
  (s.moveTo (s.align + (z + 18) * Config.subSample)).modUnit p (fun x => { x with zeroFrom := none })

theorem protoSwitchEnd_due {p z : Nat} {s : State} (h : (s.unit p).zeroFrom = some z) :
    protoSwitchEnd p s = pathLatencies (relat p (zerosEnd p z s)) := by
  unfold protoSwitchEnd
  rw [h]
  rfl

theorem zerosEnd_zeroFrom (p z : Nat) (s : State) : ((zerosEnd p z s).unit p).zeroFrom = none := by
  rw [zerosEnd, unit_modUnit_same]

/-! ### Remote inputs (R98) -/

theorem remoteResume_aligned {l : Nat} {s : State} (h3 : l ≠ 3) (hst : s.get QLK_LINKSTAT_STATE l = 3)
    (hup : s.fab.up.contains l = false) :
    remoteResume l s = { s.moveTo s.beatCeil with fab := { s.fab with up := s.fab.up ++ [l] } } := by
  unfold remoteResume
  rw [if_neg (by simpa [h3, hst] using hup)]
  rfl

/-! ### Route quarters (R104, R376) -/

/-- A report from a covered source is made, and its reaction is not taken (R376). -/
theorem react_covered {src : Nat} {s : State} (k : EvKind) (a : Area) (f : State → State) (p0 p1 p2 p3 : Nat)
    (h : s.covered src = true) : react k src a f s p0 p1 p2 p3 = emit k src s a p0 p1 p2 p3 := if_pos h

/-- A report from a source no shadow covers has its reaction (R376). -/
theorem react_uncovered {src : Nat} {s : State} (k : EvKind) (a : Area) (f : State → State) (p0 p1 p2 p3 : Nat)
    (h : s.covered src = false) : react k src a f s p0 p1 p2 p3 = f (emit k src s a p0 p1 p2 p3) :=
  if_neg (Bool.not_eq_true _ ▸ h)

theorem mem_routeFatal_dead {q : Nat} {s : State} (h : s.covered (112 + q) = false) : q ∈ (routeFatal q s).fab.dead := by
  rw [routeFatal, react_uncovered _ _ _ _ _ _ _ h]
  exact List.mem_append_right _ List.mem_cons_self

theorem routeReload_dead {q : Nat} {s : State} (h : s.fab.dead.contains q = true) :
    routeReload q s = { s.moveTo s.beatCeil with fab := { s.fab with dead := s.fab.dead.filter (fun x => x ≠ q) } } :=
  if_pos h

/-- Settles O20: each command is the event written out above for it; that of a sub-band sample is its definition, the missing
crossing tokens being operands (log 148). -/
theorem fabricStreamsAdvanceAndRecover : Obligations.FabricStreamsAdvanceAndRecover := by
  refine ⟨fun s hs => ⟨fun missIn missOut remote => ?_, fun p z hz => ?_⟩,
    fun s hs => ⟨fun l h3 hst hup => ?_, fun q => ?_, fun q hc => ?_, fun q hc => ?_, fun q hq => ?_⟩⟩
  · intro u n
    show execSubbandSample missIn missOut remote s = _
    rw [execSubbandSample, row_next _ hs]
  · have hd := row_next (protoSwitchEnd p) hs
    rw [protoSwitchEnd_due hz] at hd
    exact ⟨zerosEnd p z s, rfl, zerosEnd_zeroFrom _ _ _, hd⟩
  · have h3' : l.val ≠ 3 := fun h => h3 (Fin.ext h)
    refine ⟨_, row_next _ hs, ?_⟩
    rw [remoteResume_aligned h3' hst hup]
    exact ⟨rfl, List.mem_append_right _ List.mem_cons_self⟩
  · exact row_next _ hs
  · exact ⟨_, row_next _ hs, mem_routeFatal_dead hc⟩
  · have hd := row_next (routeFatal q) hs
    rw [routeFatal, react_covered _ _ _ _ _ _ _ hc] at hd
    exact hd
  · refine ⟨_, row_next _ hs, ?_⟩
    rw [routeReload_dead hq]
    exact ⟨rfl, fun x => by simp⟩

end Sys2Proof.Machine
end

section
/-!
PROOFS. Crossfades: a waiting one starts at a beat boundary, a running one ends at its last sample, and a reversing one ends when
it has run back (R100, R101).
-/
namespace Sys2Proof.Machine
open Sys2Proof

/-! ### A change that holds from a sample on (R23) -/

@[simp] theorem refreshPast_now (m : Nat) (s : State) : (refreshPast m s).now = s.now := (rfl)
@[simp] theorem refreshPast_fab (m : Nat) (s : State) : (refreshPast m s).fab = s.fab := (rfl)
@[simp] theorem refreshPast_get (m : Nat) (s : State) (f : Fld) (i j : Nat) : (refreshPast m s).get f i j = s.get f i j :=
  get_congr f i j rfl rfl

/-! ### The start of a crossfade (R100) -/

/-- The next beat boundary that the samples in the fabric, N_FRONT of the new path behind, have not passed (log 144). -/
def State.xfBeat (s : State) (x : Nat) : Nat :=
  (s.now - (s.path (s.get FAB_XFPATH_NEW x)).nFront * Config.subSample - s.align + Config.beat - 1) / Config.beat

/-- Entry x runs, from position 0 at tick t. -/
def xfRun (x t : Nat) (s : State) : State :=
  { s with fab := { s.fab with xfs := tabSet s.fab.xfs x { k := 0, since := t } } }.put FAB_XFSTAT_PHASE 2 x

@[simp] theorem xfRun_now (x t : Nat) (s : State) : (xfRun x t s).now = s.now := (rfl)

theorem xfRun_phase (x t : Nat) (s : State) : (xfRun x t s).get FAB_XFSTAT_PHASE x = 2 :=
  get_put_same _ FAB_XFSTAT_PHASE 2 x 0 (by decide)

theorem xfRun_xfs (x t : Nat) (s : State) : tabGet (xfRun x t s).fab.xfs x = { k := 0, since := t } := tabGet_tabSet_same _ _ _

theorem xfadeStart_due {x : Nat} {s : State} (hp : s.get FAB_XFSTAT_PHASE x = 1)
    (hn : (s.path (s.get FAB_XFPATH_NEW x)).st = 2) :
    xfadeStart x s =
      refreshPast (1024 * s.xfBeat x) (xfRun x (s.beatTick (s.xfBeat x)) (s.moveTo (s.beatTick (s.xfBeat x)))) :=
  if_neg (by simp [hp, hn])

/-! ### The end of a crossfade and of its reversal (R100, R101) -/

theorem xfadeDone_running {x : Nat} {s : State} (hp : s.get FAB_XFSTAT_PHASE x = 2) :
    xfadeDone x s = xfEvent ev_XFADE_DONE x (xfEnd x (xfDrop (s.get FAB_XFPATH_OLD x)
      (s.moveTo ((tabGet s.fab.xfs x : Xfade).since + (s.xfLen x - (tabGet s.fab.xfs x : Xfade).k) * Config.subSample)))) :=
  if_neg (not_not_intro hp)

theorem xfadeAbort_reversing {x : Nat} {s : State} (hp : s.get FAB_XFSTAT_PHASE x = 3) :
    xfadeAbort x s = xfEvent ev_XFADE_ABORT x (xfEnd x (xfDrop (s.get FAB_XFPATH_NEW x)
      (s.moveTo ((tabGet s.fab.xfs x : Xfade).since + (tabGet s.fab.xfs x : Xfade).k * Config.subSample)))) :=
  if_neg (not_not_intro hp)

/-- Settles O22: each command takes the branch of its phase. What a start adds to the settings of held samples leaves the moment,
the phase and the position as `xfRun` makes them. -/
theorem crossfadesStartEndAndAbort : Obligations.CrossfadesStartEndAndAbort := by
  refine fun s x hs => ⟨fun hp hn => ?_, fun hp => ?_, fun hp => ?_⟩
  · refine ⟨_, row_next (xfadeStart x) hs, ?_⟩
    rw [xfadeStart_due hp hn, refreshPast_now, refreshPast_fab, refreshPast_get]
    exact ⟨rfl, xfRun_phase _ _ _, xfRun_xfs _ _ _⟩
  · have hd := row_next (xfadeDone x) hs
    rw [xfadeDone_running hp] at hd
    exact hd
  · have hd := row_next (xfadeAbort x) hs
    rw [xfadeAbort_reversing hp] at hd
    exact hd

end Sys2Proof.Machine
end

section
/-!
PROOFS. The states and the governors of band paths: what they read after the operations that act on them, the backoff of a path
under oscillation with its recovery and release, its shutdown and restart, and the clears of R119 (R116-R119).
-/
namespace Sys2Proof.Machine
open Sys2Proof

/-- What `f` makes of the state is the event's own effect. -/
theorem row_does {i : Instr} {f : State → State} {s u : State} (hi : exec i s = row f s) (hs : s.awake) (hu : f s = u) :
    Does i s u := by
  unfold Does
  rw [hi, row_next f hs, hu]

/-! ### Paths, governors and histories -/

@[simp] theorem path_modPath_same (s : State) (b : Nat) (f : Path → Path) : (s.modPath b f).path b = f (s.path b) :=
  tabGet_tabMod_same _ _ _
@[simp] theorem gov_modGov_same (s : State) (b : Nat) (f : Gov → Gov) : (s.modGov b f).gov b = f (s.gov b) :=
  tabGet_tabMod_same _ _ _
theorem gov_modGov_ne (s : State) {b c : Nat} (f : Gov → Gov) (h : c ≠ b) : (s.modGov b f).gov c = s.gov c :=
  tabGet_tabMod_ne _ _ h
@[simp] theorem hist_setHist_same (s : State) (b : Nat) (h : Hist) : (s.setHist b h).hist b = h := tabGet_tabSet_same _ _ _

@[simp] theorem modGov_now (s : State) (b : Nat) (f : Gov → Gov) : (s.modGov b f).now = s.now := (rfl)
@[simp] theorem modGov_path (s : State) (b c : Nat) (f : Gov → Gov) : (s.modGov b f).path c = s.path c := (rfl)
@[simp] theorem modGov_hist (s : State) (b c : Nat) (f : Gov → Gov) : (s.modGov b f).hist c = s.hist c := (rfl)
@[simp] theorem setHist_now (s : State) (b : Nat) (h : Hist) : (s.setHist b h).now = s.now := (rfl)
@[simp] theorem setHist_path (s : State) (b c : Nat) (h : Hist) : (s.setHist b h).path c = s.path c := (rfl)
@[simp] theorem moveTo_gov (s : State) (t b : Nat) : (s.moveTo t).gov b = s.gov b := (rfl)
@[simp] theorem moveTo_path (s : State) (t b : Nat) : (s.moveTo t).path b = s.path b := (rfl)
@[simp] theorem moveTo_hist (s : State) (t b : Nat) : (s.moveTo t).hist b = s.hist b := (rfl)

section
variable (k : EvKind) (src : Nat) (s : State) (a : Area) (p0 p1 p2 p3 b : Nat)

@[simp] theorem emit_gov : (emit k src s a p0 p1 p2 p3).gov b = s.gov b := (rfl)
@[simp] theorem emit_path : (emit k src s a p0 p1 p2 p3).path b = s.path b := (rfl)
@[simp] theorem emit_hist : (emit k src s a p0 p1 p2 p3).hist b = s.hist b := (rfl)
@[simp] theorem emit_opTime : (emit k src s a p0 p1 p2 p3).opTime = s.opTime := (rfl)
end

/-- A change of a path's state keeps what the path's record and a report keep. -/
theorem setPath_keeps {β : Type} (g : State → β) (b st : Nat) (s : State)
    (hemit : ∀ k src t a p0 p1 p2 p3, g (emit k src t a p0 p1 p2 p3) = g t) (hpath : ∀ f, g (s.modPath b f) = g s) :
    g (setPath b st s) = g s := by
  unfold setPath
  dsimp only
  split
  · rfl
  · exact (hemit ..).trans (hpath _)

@[simp] theorem setPath_now (b st : Nat) (s : State) : (setPath b st s).now = s.now :=
  setPath_keeps State.now _ _ _ emit_now fun _ => rfl
@[simp] theorem setPath_gov (b st c : Nat) (s : State) : (setPath b st s).gov c = s.gov c :=
  setPath_keeps (State.gov · c) _ _ _ (fun _ _ _ _ _ _ _ _ => rfl) fun _ => rfl
@[simp] theorem setPath_hist (b st c : Nat) (s : State) : (setPath b st s).hist c = s.hist c :=
  setPath_keeps (State.hist · c) _ _ _ (fun _ _ _ _ _ _ _ _ => rfl) fun _ => rfl
@[simp] theorem setPath_opTime (b st : Nat) (s : State) : (setPath b st s).opTime = s.opTime :=
  setPath_keeps State.opTime _ _ _ (fun _ _ _ _ _ _ _ _ => rfl) fun _ => rfl
@[simp] theorem setPath_shutCount (b st c : Nat) (s : State) : (setPath b st s).shutCount c = s.shutCount c :=
  setPath_keeps (State.shutCount · c) _ _ _ (fun _ _ _ _ _ _ _ _ => rfl) fun _ => rfl

/-- A path is in the state it was put in. -/
@[simp] theorem setPath_st (b st : Nat) (s : State) : ((setPath b st s).path b).st = st := by
  unfold setPath
  dsimp only
  split
  · assumption
  · simp

/-! ### Backoff (R116) -/

/-- Path b at its next 100 µs point in BACKOFF, before the conditions of R116 are looked at. -/
def backoffPoint (b : Nat) (s : State) : State :=
  (s.moveTo ((s.gov b).m0 + ((s.gov b).steps + 1) * 4000 * Config.subSample)).modGov b (fun x => { x with steps := x.steps + 1 })

/-- The limit falls by 3 dB while a condition of R116 holds at the point. -/
theorem backoffStep_due {b : Nat} {s : State} (hst : (s.path b).st = 3) (hn : (s.gov b).steps < 19) :
    backoffStep b s = if (backoffPoint b s).oscCond b then
      (backoffPoint b s).modGov b (fun x => { x with back := x.back.map (fun v => v - 60), clearAt := none })
    else backoffPoint b s :=
  if_neg (by simp [hst, hn])

/-! ### Recovery and release (R117) -/

theorem backoffRecovered_due {b t : Nat} {s : State} (hclear : (s.gov b).clearAt = some t) (hst : (s.path b).st = 3)
    (hosc : s.oscCond b = false) (hin : t + 8000 * Config.subSample ≤ (s.gov b).m0 + 80000 * Config.subSample) :
    backoffRecovered b s = emit ev_BACKOFF_RECOVERED (124 + s.pathQuad b)
      (setPath b 2 ((s.moveTo (t + 8000 * Config.subSample)).modGov b
        (fun x => { x with relAt := max s.now (t + 8000 * Config.subSample), relN := 0 }))) .none b := by
  unfold backoffRecovered
  dsimp only
  rw [hclear]
  exact if_neg (by simp [hst, hosc, hin])

/-- Path b at its next 10 ms point after its recovery. -/
def releasePoint (b : Nat) (s : State) : State :=
  (s.moveTo ((s.gov b).relAt + ((s.gov b).relN + 1) * 10 * Config.ms)).modGov b (fun x => { x with relN := x.relN + 1 })

/-- The limit v as it stands after the point: 1 dB up where the headroom is M_eff or more. -/
def releasedLimit (b : Nat) (v : Int) (s : State) : Int :=
  if (releasePoint b s).mEff b ≤ (releasePoint b s).headroom b then v + 20 else v

theorem backoffRelease_due {b : Nat} {v : Int} {s : State} (hback : (s.gov b).back = some v) (hst : (s.path b).st = 2) :
    backoffRelease b s = (releasePoint b s).modGov b (fun x => { x with
      back := if (releasePoint b s).aboveGov b 2 (releasedLimit b v s) then none else some (releasedLimit b v s) }) := by
  unfold backoffRelease
  dsimp only
  rw [hback]
  exact if_neg (by simp [hst])

theorem releasedLimit_cases (b : Nat) (v : Int) (s : State) : releasedLimit b v s = v ∨ releasedLimit b v s = v + 20 := by
  unfold releasedLimit
  split
  · exact .inr rfl
  · exact .inl rfl

/-! ### Shutdown and restart (R118) -/

/-- The history of path b takes a shutdown now as its newest. -/
def noteShutdown (b : Nat) (s : State) : State :=
  s.setHist b { s.hist b with times := (s.opTime :: (s.hist b).times).take 16 }

/-- The history that a shutdown now leaves: a lock-out with OSC_COUNT of them in the window, else a hold-off that doubles with
each of them. -/
def shutVerdict (b : Nat) (s : State) : Hist :=
  let n := (noteShutdown b s).shutCount b
  let locked : Bool := s.limOscCount ≤ n
  { times := (s.opTime :: (s.hist b).times).take 16
    holdEnd := if locked then none else some (s.opTime + s.limOscBase * 65536 * 2 ^ (n - 1))
    lockout := locked }

/-- Path b in SHUTDOWN, before a lock-out is reported. -/
def shutDown (b : Nat) (s : State) : State :=
  setPath b 4 (((noteShutdown b s).setHist b (shutVerdict b s)).modGov b (fun x => { x with back := none, clearAt := none }))

theorem shutPath_eq (b : Nat) (s : State) : shutPath b s = if (shutVerdict b s).lockout then
    emit ev_PATH_LOCKOUT (124 + s.pathQuad b) (shutDown b s) .none b else shutDown b s := by
  have hverdict : shutVerdict b s = { (noteShutdown b s).hist b with
      holdEnd := (shutVerdict b s).holdEnd, lockout := (shutVerdict b s).lockout } := by
    rw [noteShutdown, hist_setHist_same]
    rfl
  unfold shutDown
  rw [hverdict]
  rfl

/-- A shutdown leaves what a report keeps as it stands before the report of a lock-out. -/
theorem shutPath_reads {β : Type} (g : State → β) (b : Nat) (s : State)
    (hemit : ∀ k src t a p0 p1 p2 p3, g (emit k src t a p0 p1 p2 p3) = g t) : g (shutPath b s) = g (shutDown b s) := by
  rw [shutPath_eq]
  split
  · exact hemit ..
  · rfl

theorem shutPath_now (b : Nat) (s : State) : (shutPath b s).now = s.now :=
  (shutPath_reads State.now b s emit_now).trans (setPath_now _ _ _)

theorem shutPath_opTime (b : Nat) (s : State) : (shutPath b s).opTime = s.opTime :=
  (shutPath_reads State.opTime b s emit_opTime).trans (setPath_opTime _ _ _)

/-- The path is in SHUTDOWN, without its backoff limit. -/
theorem shutPath_stops (b : Nat) (s : State) : ((shutPath b s).path b).st = 4 ∧ ((shutPath b s).gov b).back = none := by
  rw [shutPath_reads (State.path · b) b s fun _ _ _ _ _ _ _ _ => rfl,
    shutPath_reads (State.gov · b) b s fun _ _ _ _ _ _ _ _ => rfl]
  simp [shutDown]

theorem shutPath_hist (b : Nat) (s : State) : (shutPath b s).hist b = shutVerdict b s := by
  rw [shutPath_reads (State.hist · b) b s fun _ _ _ _ _ _ _ _ => rfl]
  simp [shutDown]

/-- The count that decides is the count of the history left behind. -/
theorem shutPath_shutCount (b : Nat) (s : State) : (shutPath b s).shutCount b = (noteShutdown b s).shutCount b := by
  rw [shutPath_reads (State.shutCount · b) b s fun _ _ _ _ _ _ _ _ => rfl, shutDown, setPath_shutCount]
  unfold State.shutCount
  rw [modGov_hist, hist_setHist_same, noteShutdown, hist_setHist_same]
  rfl

theorem pathShutdown_uncovered {b : Nat} {s : State} (hst : (s.path b).st = 3)
    (hc : (s.moveTo ((s.gov b).m0 + 80000 * Config.subSample)).covered (124 + s.pathQuad b) = false) :
    pathShutdown b s = shutPath b (emit ev_PATH_SHUTDOWN (124 + s.pathQuad b)
      (s.moveTo ((s.gov b).m0 + 80000 * Config.subSample)) .none b) :=
  (if_neg (not_not_intro hst)).trans (react_uncovered _ _ _ _ _ _ _ hc)

theorem pathRestart_due {b e : Nat} {s : State} (he : (s.hist b).holdEnd = some e) :
    pathRestart b s =
      (let u := (s.moveTo (s.now + (e - s.opTime) * (Config.sec / 65536))).setHist b { s.hist b with holdEnd := none }
       if (u.path b).st ≠ 4 then u
       else emit ev_PATH_RESTART (124 + s.pathQuad b) (enterTraining true b u) .none b) := by
  unfold pathRestart
  rw [he]
  rfl

/-! ### The clears of the host (R119) -/

theorem clearLockout_locked {b : Nat} {s : State} (h : (s.hist b).lockout = true) :
    clearLockout b s = if (s.path b).st = 4 then enterTraining false b (s.setHist b {}) else s.setHist b {} :=
  if_neg (by simp [h])

theorem clearOffside_gov (b : Nat) (s : State) :
    ((clearOffside b s).gov b).causes = (s.gov b).causes / 2 * 2 ∧ ∀ c, c ≠ b → (clearOffside b s).gov c = s.gov c :=
  ⟨by rw [clearOffside, gov_modGov_same], fun _ hc => gov_modGov_ne _ _ hc⟩

/-- Settles O23: each command takes the branch of its hypotheses. A step lowers the limit while a condition of R116 holds at its
point (`backoffStep_due`), a release step raises it where the headroom allows and drops it above every other limit
(`backoffRelease_due`); what a shutdown leaves in the history is `shutVerdict`. -/
theorem backoffAndShutdownOfPaths : Obligations.BackoffAndShutdownOfPaths := by
  refine ⟨fun s b hs => ⟨fun hst hn => ?_, fun t hclear hst hosc hin => ?_, fun v hback hst => ?_⟩,
    fun s b hs => ⟨fun hst hc => ?_, fun e he => ⟨fun hst => ?_, fun hst => ?_⟩,
      fun hl => ⟨fun hst => ?_, fun hst => ?_⟩, ?_⟩⟩
  · refine ⟨_, row_does rfl hs (backoffStep_due hst hn), ?_⟩
    split
    · simp [backoffPoint]
    · simp [backoffPoint]
  · refine ⟨_, row_does rfl hs (backoffRecovered_due hclear hst hosc hin), ?_⟩
    simp
  · refine ⟨_, row_does rfl hs (backoffRelease_due hback hst), by simp [releasePoint], by simp [releasePoint], ?_⟩
    rw [gov_modGov_same]
    split
    · exact .inl rfl
    · exact .inr ((releasedLimit_cases b v s).imp (congrArg some) (congrArg some))
  · refine ⟨_, row_does rfl hs (pathShutdown_uncovered hst hc), by simp [shutPath_now], (shutPath_stops _ _).1,
      (shutPath_stops _ _).2, ?_⟩
    rw [shutPath_hist, shutPath_shutCount, shutPath_opTime]
    refine ⟨rfl, rfl, fun hl => ?_⟩
    exact if_neg (ne_true_of_eq_false hl)
  · exact row_does rfl hs ((pathRestart_due he).trans (if_pos hst))
  · exact row_does rfl hs ((pathRestart_due he).trans (if_neg (not_not_intro hst)))
  · exact row_does rfl hs ((clearLockout_locked hl).trans (if_pos hst))
  · exact row_does rfl hs ((clearLockout_locked hl).trans (if_neg hst))
  · exact ⟨_, row_does rfl hs rfl, clearOffside_gov b s⟩

end Sys2Proof.Machine
end

section
/-!
PROOFS. Uplink paths that idle, and paths in cold start: the squelch and its end, and the points and the ends of a cold start
(R121, R127, R129).
-/
namespace Sys2Proof.Machine
open Sys2Proof

/-! ### Squelch (R121) -/

theorem squelchOn_due {b : Nat} {s : State} (hsq : (s.gov b).squelched = false) (hidle : 3907 ≤ (s.gov b).idle)
    (hst : (s.path b).st = 2 ∨ (s.path b).st = 3) (hup : (s.route b).uplink = true) (hen : s.flag ISO_PUL_SQ_EN b = true) :
    squelchOn b s = emit ev_SQUELCH (128 + s.pathTile b)
      (s.modGov b (fun x => { x with squelched := true, signal := false })) .none b 1 :=
  if_neg (by simpa [hsq, hidle, hup, hen] using or_iff_not_imp_left.1 hst)

theorem squelchOff_due {b : Nat} {s : State} (hsq : (s.gov b).squelched = true) (hsig : (s.gov b).signal = true) :
    squelchOff b s = unsquelch b (s.moveTo s.beatCeil) :=
  if_neg (by simp [hsq, hsig])

@[simp] theorem unsquelch_now (b : Nat) (s : State) : (unsquelch b s).now = s.now := by
  unfold unsquelch
  split <;> simp

/-- The path is not squelched, and its count of beats without signal starts again. -/
theorem unsquelch_gov (b : Nat) (s : State) :
    ((unsquelch b s).gov b).squelched = false ∧ ((unsquelch b s).gov b).idle = 0 := by
  unfold unsquelch
  split <;> simp_all

/-! ### The points of a cold start (R127, R129) -/

/-- Path b at its next 10 ms point of cold start. -/
def coldPoint (b : Nat) (s : State) : State :=
  (s.moveTo ((s.gov b).entry + ((s.gov b).points + 1) * 10 * Config.ms)).modGov b (fun x => { x with points := x.points + 1 })

/-- The cold-start limit c as it stands after the point: 1 dB up where the applied gain leaves M_eff of isolation. -/
def coldLimit (b : Nat) (c : Int) (s : State) : Int :=
  if (coldPoint b s).gApp b + (coldPoint b s).mEff b ≤ (coldPoint b s).isoB b then c + 20 else c

/-- Path b at the point, with its limit raised. -/
def coldRamp (b : Nat) (c : Int) (s : State) : State :=
  (coldPoint b s).modGov b (fun x => { x with cold := some (coldLimit b c s) })

theorem coldRamp_cold (b : Nat) (c : Int) (s : State) : ((coldRamp b c s).gov b).cold = some (coldLimit b c s) := by
  simp [coldRamp]

section
variable {b : Nat} {c : Int} {s : State} (hc : (s.gov b).cold = some c) (ht : (s.gov b).training = true)
  (hst : (s.path b).st = 1)
include hc ht hst

/-- A cold start that runs takes its point: while its probe waits the limit stays (log 143), else it rises, and training ends once
no other limit of R28 lies above it. -/
theorem coldStartStep_running : coldStartStep b s =
    if (s.gov b).probe && (coldPoint b s).probeWaits b then coldPoint b s
    else if ((coldRamp b c s).otherLimits b).all (fun v => v ≤ coldLimit b c s) then
      trained b ev_TRAIN_DONE (coldRamp b c s)
    else coldRamp b c s := by
  unfold coldStartStep
  dsimp only
  rw [hc]
  exact if_neg (by simp [ht, hst])

theorem coldStartStep_waits (hp : (s.gov b).probe = true) (hw : (coldPoint b s).probeWaits b = true) :
    coldStartStep b s = coldPoint b s :=
  (coldStartStep_running hc ht hst).trans (if_pos (by simp [hp, hw]))

theorem coldStartStep_ramps (hp : (s.gov b).probe = false ∨ (coldPoint b s).probeWaits b = false)
    (ha : ∃ v ∈ (coldRamp b c s).otherLimits b, coldLimit b c s < v) : coldStartStep b s = coldRamp b c s := by
  rw [coldStartStep_running hc ht hst, if_neg (ne_true_of_eq_false (Bool.and_eq_false_iff.2 hp)),
    if_neg (by simpa using ha)]

theorem coldStartStep_ends (hp : (s.gov b).probe = false ∨ (coldPoint b s).probeWaits b = false)
    (ha : ∀ v ∈ (coldRamp b c s).otherLimits b, v ≤ coldLimit b c s) :
    coldStartStep b s = trained b ev_TRAIN_DONE (coldRamp b c s) := by
  rw [coldStartStep_running hc ht hst, if_neg (ne_true_of_eq_false (Bool.and_eq_false_iff.2 hp)),
    if_pos (by simpa using ha)]
end

/-! ### The limited end of a cold start (R129) -/

theorem trainLimited_due {b t : Nat} {s : State} (hl : (s.gov b).limSince = some t) (ht : (s.gov b).training = true)
    (hst : (s.path b).st = 1) :
    trainLimited b s = trained b ev_TRAIN_LIMITED (s.moveTo (t + 500 * Config.ms)) := by
  unfold trainLimited
  dsimp only
  rw [hl]
  exact if_pos (by simp [ht, hst])

/-- Settles O24: each command takes the branch of its hypotheses; a point of a cold start is `coldPoint`, and with the limit raised
`coldRamp`. -/
theorem squelchAndColdStart : Obligations.SquelchAndColdStart := by
  refine fun s b hs => ⟨fun hsq hidle hst hup hen => ?_, fun hsq hsig => ?_, fun c hc ht hst => ?_, fun t hl ht hst => ?_⟩
  · exact ⟨_, row_does rfl hs (squelchOn_due hsq hidle (.inl hst) hup hen), by simp⟩
  · exact ⟨_, row_does rfl hs (squelchOff_due hsq hsig), unsquelch_now _ _, unsquelch_gov _ _⟩
  · refine ⟨fun hp hw => ?_, fun hp => ⟨fun ⟨v, hv, hlt⟩ => ?_, fun hle => ?_⟩⟩
    · exact row_does rfl hs (coldStartStep_waits hc ht hst hp hw)
    · exact row_does rfl hs (coldStartStep_ramps hc ht hst hp ⟨v, hv, hlt _ (coldRamp_cold b c s)⟩)
    · exact row_does rfl hs (coldStartStep_ends hc ht hst hp fun v hv => hle v hv _ (coldRamp_cold b c s))
  · exact row_does rfl hs (trainLimited_due hl ht hst)

end Sys2Proof.Machine
end

section
/-!
PROOFS. The cancellers: the end of an adaptation block, the hourly seed write of a link, and slices that err, fail and reload
(R108, R113, R130, R131, R135).
-/
namespace Sys2Proof.Machine
open Sys2Proof

@[simp] theorem link_modLink_same (s : State) (l : Nat) (f : Link → Link) : (s.modLink l f).link l = f (s.link l) :=
  tabGet_tabMod_same _ _ _
@[simp] theorem modLink_get (s : State) (l : Nat) (g : Link → Link) (f : Fld) (i j : Nat) :
    (s.modLink l g).get f i j = s.get f i j := (rfl)

/-! ### Seeds (R130) -/

theorem seedWrite_due {l : Nat} {s : State} (hst : (s.link l).st = 3) (hseed : s.flag ISO_LCFG_SEED l = true)
    (hupd : (s.link l).hourUpd = true) :
    seedWrite l s = startSeed l (s.moveTo (s.now + ((s.link l).hourFrom + 3600 * 65536 - s.opTime) * (Config.sec / 65536))) :=
  if_neg (by simp [hst, hseed, hupd])

/-- A write is under way, one more than before, and the hour of the link starts again. -/
theorem startSeed_starts (l : Nat) (s : State) : (startSeed l s).get ISO_SEEDSTAT_WRITING = 1 ∧
    ((startSeed l s).link l).hourUpd = false ∧ (startSeed l s).pst.seedBusy.length = s.pst.seedBusy.length + 1 := by
  unfold startSeed
  dsimp only
  refine ⟨?_, ?_, List.length_append⟩
  · rw [modLink_get]
    exact get_put_same _ _ _ _ _ (by decide)
  · rw [link_modLink_same]

/-! ### Slices (R113, R135) -/

theorem sliceLost_uncovered {c : Nat} {s : State} (h : s.covered (116 + c) = false) :
    sliceLost c s = loseSlice c (emit ev_CXL_SLICE_LOST (116 + c) s (.slice c)) :=
  react_uncovered _ _ _ _ _ _ _ h

/-- What a link's record does not hold, a reload leaves as it is at the beat boundary, the slice no longer lost. -/
theorem sliceReload_keeps {β : Type} (g : State → β) {c : Nat} {s : State} (hon : s.domainOn (56 + c) = true)
    (hlost : s.iso.lost.contains c = true) (hlink : ∀ l f t, g (State.modLink t l f) = g t) :
    g (sliceReload c s) =
      g { s.moveTo s.beatCeil with iso := { s.iso with lost := s.iso.lost.filter (fun x => x ≠ c) } } := by
  unfold sliceReload
  rw [if_neg (by rw [hon, hlost]; exact Bool.false_ne_true)]
  exact forAll_keeps g _ _ _ fun l t => hlink _ _ _

/-- Settles O25: the end of a block is its definition, the model's reading of R108 (log 144); each other command takes the branch
of its hypotheses. -/
theorem cancellerEvents : Obligations.CancellerEvents := by
  refine fun s hs => ⟨row_next isoBlockEnd hs, fun l hst hseed hupd => ?_, fun c => ?_, fun c hc => ?_, fun c hon hlost => ?_⟩
  · exact ⟨_, row_does rfl hs (seedWrite_due hst hseed hupd), startSeed_starts _ _⟩
  · exact row_does (f := fun t => emit ev_CXL_ECC (116 + c.val) (t.count ISO_SLICESTAT_ECC_CORR c)) rfl hs rfl
  · exact row_does rfl hs (sliceLost_uncovered hc)
  · refine ⟨_, row_next _ hs, ?_, fun x => ?_, ?_⟩
    · exact sliceReload_keeps State.now hon hlost fun _ _ _ => rfl
    · rw [sliceReload_keeps (fun t => t.iso.lost) hon hlost fun _ _ _ => rfl]
      simp
    · exact sliceReload_keeps (State.word · ISO_SLICESTAT c) hon hlost fun _ _ _ => rfl

end Sys2Proof.Machine
end

section
/-!
PROOFS. Resets and what starts them, and the end of a seed write (R130, R397-R399).
-/
namespace Sys2Proof.Machine
open Sys2Proof

/-- What `f` makes of the state is the event's own effect, with the power side evaluated after it. -/
theorem rowP_does {i : Instr} {f : State → State} {s u : State} (hi : exec i s = rowP f s) (hs : s.awake) (hu : f s = u) :
    DoesP i s u := by
  unfold DoesP
  rw [hi, rowP_next f hs, hu]

/-! ### What starts a reset (R397) -/

theorem pinReset_unlatched {s : State} (sid : Nat) (side : Bool) (h : s.latch = false) :
    pinReset sid side s = resetTrigger 1 (sampleStraps sid side s) :=
  if_neg (ne_true_of_eq_false h)

/-- A reset that meets no other acts 2 ms after its trigger, the flush of the Scorebook starting at once (R399). -/
theorem resetTrigger_alone {s : State} (k : Nat) (hl : s.latch = false) (hr : s.boot.resetAt = none) :
    resetTrigger k s =
      startFlush { s with boot := { s.boot with resetKind := k, resetAt := some (s.now + 2 * Config.ms) } } := by
  unfold resetTrigger
  rw [if_neg (by simp [hl, hr]), hr]
  rfl

/-! ### What a reset does (R398, R399) -/

/-- The state in which the reset due at tick t takes its effect: what it completes first is done, and its cause is recorded. -/
def resetEntered (t : Nat) (s : State) : State :=
  let u := beforeReset (s.moveTo t)
  { u with boot := { u.boot with resetAt := none, resetKind := 0 } }.put GLB_RSTCAUSE_LAST u.boot.resetKind

theorem resetAction_due {t : Nat} {s : State} (hr : s.boot.resetAt = some t) (hl : s.latch = false) :
    resetAction s = standingReset (if (beforeReset (s.moveTo t)).boot.resetKind = 3 then radioReset (resetEntered t s)
      else hardReset (resetEntered t s)) := by
  unfold resetAction
  rw [hr]
  exact if_neg (ne_true_of_eq_false hl)

theorem resetAction_next {s : State} (hs : s.awake) :
    exec .resetAction s = .next (framed { locks := true, dugout := true } s (powered (resetAction s))) := by
  show act { locks := true, dugout := true } (fun t => powered (resetAction t)) s = _
  unfold act
  rw [show s.boot.dark = false from hs]
  rfl

/-! ### The PCI Express resets (R392, R398) -/

/-- The state after a LINK reset has taken the link down and disabled every ring. -/
def linkDropped (hot : Bool) (s : State) : State :=
  ringsOff (pcieDown (if hot then s else { s with boot := { s.boot with perst := false } }))

theorem linkReset_idle {hot : Bool} {s : State} (hl : s.latch = false)
    (hv : ∀ v < 4, ((linkDropped hot s).slot v).st ≠ .validating) :
    linkReset hot s = (linkDropped hot s).count GLB_RSTCAUSE_LINK := by
  have hnone : (List.range 4).filter (fun v => ((linkDropped hot s).slot v).st = .validating) = [] := by
    simpa using hv
  have hrun : linkReset hot s = State.count (forAll
      ((List.range 4).filter (fun v => ((linkDropped hot s).slot v).st = .validating))
      (fun v t => refuseVolley v stABORTED t) (linkDropped hot s)) GLB_RSTCAUSE_LINK :=
    if_neg (ne_true_of_eq_false hl)
  rw [hrun, hnone, forAll_nil]

/-- A hot reset arrives over the link, the fall of PERST_N at a pin of bank 0. -/
theorem linkReset_does {hot : Bool} {s : State} (hs : s.awake) (h : hot = true ∨ s.ioOk 0 = true) :
    Does (.linkReset hot) s (linkReset hot s) := by
  refine row_does (f := fun t => if hot then linkReset hot t else pinIn 0 (linkReset hot) t) rfl hs ?_
  cases hot with
  | true => rfl
  | false => exact pinIn_ok _ (h.resolve_left Bool.false_ne_true)

theorem perstRise_unlatched {s : State} (h : s.latch = false) :
    perstRise s = wake { s with boot := { s.boot with perst := true } } :=
  if_neg (ne_true_of_eq_false h)

/-! ### The end of a seed write (R130) -/

theorem seedWriteDone_found {k : Nat} {x : Nat × SeedSlot} {s : State} (ok : Bool)
    (hx : s.pst.seedBusy.find? (fun y => y.1 = k) = some x) :
    (seedWriteDone k ok s).pst = { s.pst with
      seedBusy := s.pst.seedBusy.filter (fun y => y ≠ x), seeds := if ok then tabSet s.pst.seeds k x.2 else s.pst.seeds } := by
  unfold seedWriteDone
  rw [hx]
  cases ok <;> rfl

theorem seedWriteDone_failed {k : Nat} {x : Nat × SeedSlot} {s : State}
    (hx : s.pst.seedBusy.find? (fun y => y.1 = k) = some x) :
    (seedWriteDone k false s).flag ISO_SEEDSTAT_STORE_FAIL = true := by
  unfold seedWriteDone
  rw [hx]
  exact decide_eq_true (get_put_same _ ISO_SEEDSTAT_STORE_FAIL 1 0 0 (by decide))

/-- Settles O54: each event takes the branch of its hypotheses. That a reset acts exactly 2 ms after its trigger is the model's
choice inside the bound of R399 (log 113). -/
theorem resetsAndSeedWrites : Obligations.ResetsAndSeedWrites := by
  refine fun s hs => ⟨fun sid side hio hl => ?_, fun t hr hl => ?_, fun k hl hr => ?_, fun hot hio hl => ?_, fun hio hl => ?_,
    fun k x ok hx => ?_⟩
  · exact rowP_does rfl hs ((pinIn_ok _ hio).trans (pinReset_unlatched _ _ hl))
  · intro u v
    rw [resetAction_next hs, resetAction_due hr hl]
    rfl
  · exact ⟨_, resetTrigger_alone k hl hr, rfl, rfl⟩
  · refine ⟨linkDropped hot s, rfl, fun hv => ?_⟩
    rw [← linkReset_idle hl hv]
    exact linkReset_does hs hio
  · exact rowP_does rfl hs ((pinIn_ok _ hio).trans (perstRise_unlatched hl))
  · have hpst := seedWriteDone_found ok hx
    refine ⟨_, row_next _ hs, by rw [hpst], fun hok => ?_, fun hfail => ?_⟩
    · rw [hpst, hok]
      rfl
    · subst hfail
      exact ⟨by rw [hpst]; rfl, seedWriteDone_failed hx⟩

end Sys2Proof.Machine
end

section
/-!
PROOFS. The spectrum watch: what a fine transform enters, the hand-over of product records, and slices that fail and restart (R136,
R141, R151, R154, R167).
-/
namespace Sys2Proof.Machine
open Sys2Proof

/-! ### The watch of a port -/

@[simp] theorem watch_modWatch_same (s : State) (n : Nat) (f : Watch → Watch) : (s.modWatch n f).watch n = f (s.watch n) :=
  tabGet_tabMod_same _ _ _
theorem watch_modWatch_ne (s : State) {n m : Nat} (f : Watch → Watch) (h : m ≠ n) : (s.modWatch n f).watch m = s.watch m :=
  tabGet_tabMod_ne _ _ h

/-- A change of one port's watch that leaves LOST as it is leaves it on every port. -/
theorem modWatch_lost (s : State) (n m : Nat) (f : Watch → Watch) (hf : ∀ x, (f x).lost = x.lost) :
    ((s.modWatch n f).watch m).lost = (s.watch m).lost := by
  by_cases h : m = n
  · rw [h, watch_modWatch_same, hf]
  · rw [watch_modWatch_ne _ _ h]

/-! ### What the comb detectors leave alone (R115) -/

/-- The moment and the watch. -/
def State.watchSide (s : State) : Nat × Spw := (s.now, s.spw)

@[simp] theorem modGov_watchSide (s : State) (b : Nat) (f : Gov → Gov) : (s.modGov b f).watchSide = s.watchSide := (rfl)

@[simp] theorem tracking_watchSide (r : Route) (probingOnly : Bool) (s : State) :
    (tracking r probingOnly s).watchSide = s.watchSide :=
  forAll_keeps State.watchSide _ _ _ fun l t => by
    split <;> rfl

@[simp] theorem emit_watchSide (k : EvKind) (src : Nat) (s : State) (a : Area) (p0 p1 p2 p3 : Nat) :
    (emit k src s a p0 p1 p2 p3).watchSide = s.watchSide := by simp [State.watchSide]

@[simp] theorem setPath_watchSide (b st : Nat) (s : State) : (setPath b st s).watchSide = s.watchSide :=
  setPath_keeps State.watchSide _ _ _ emit_watchSide fun _ => rfl

@[simp] theorem oscDetect_watchSide (b cond : Nat) (s : State) : (oscDetect b cond s).watchSide = s.watchSide := by
  simp [oscDetect]

theorem combFeed_watchSide (b : Nat) (bins : List Nat) (s : State) : (combFeed b bins s).watchSide = s.watchSide := by
  simp [combFeed, apply_ite State.watchSide]

/-! ### Fine transforms (R136, R140, R141) -/

/-- The moment at which the next transform of port n has its last sample. -/
def State.transformAt (s : State) (n : Nat) : Nat :=
  let last := 2048 * ((s.watch n).tj + 1) - 1
  s.align + (last + (s.bankAt n last).nRx) * Config.subSample

/-- What a transform makes of the watch of its port: it is the next one, counted in the integration that runs, and the first of an
integration starts it under the settings in force, where no change has cut it already. -/
def entersTransform (cfg : Word) (x y : Watch) : Prop :=
  y.tj = x.tj + 1 ∧ y.cnt = x.cnt + 1 ∧ (x.cnt = 0 → y.j0 = x.tj ∧ (x.cutAt = none → y.cfg = cfg))

/-- The comb detectors that a transform feeds leave the moment and the watch as the transform makes them. -/
theorem fineTransform_watchSide {n : Nat} {s : State} (hon : s.domainOn (48 + n / 12) = true)
    (hlost : (s.watch n).lost = false) : ∃ f : Watch → Watch, entersTransform (s.word SPW_PCFG n) (s.watch n) (f (s.watch n)) ∧
      (fineTransform n s).watchSide = ((s.moveTo (s.transformAt n)).modWatch n f).watchSide := by
  unfold fineTransform
  rw [if_neg (by simp [hon, hlost])]
  refine ⟨_, ⟨rfl, rfl, fun h0 => ?_⟩, forAll_keeps State.watchSide _ _ _ fun b t => ?_⟩
  · exact ⟨by simp [h0], fun hcut => by simp [h0, hcut]⟩
  · split
    · split
      · exact combFeed_watchSide _ _ _
      · rfl
    · rfl

theorem fineTransform_enters {n : Nat} {s : State} (hon : s.domainOn (48 + n / 12) = true) (hlost : (s.watch n).lost = false) :
    (fineTransform n s).now = max s.now (s.transformAt n) ∧
      entersTransform (s.word SPW_PCFG n) (s.watch n) ((fineTransform n s).watch n) := by
  obtain ⟨f, hf, hside⟩ := fineTransform_watchSide hon hlost
  obtain ⟨hnow, hspw⟩ := Prod.mk.inj hside
  have hwatch : (fineTransform n s).watch n = f (s.watch n) := by
    rw [State.watch, hspw]
    exact watch_modWatch_same _ _ _
  exact ⟨hnow, hwatch ▸ hf⟩

/-! ### What a record that goes to a stream ring leaves alone (R223, R244) -/

/-- The registers of the watch, with the variant that gives them their reset values. -/
def State.watchRegs (s : State) : Variant × Tab Word := (s.part, s.regs.spw)

theorem put_watchRegs (s : State) (f : Fld) (v i j : Nat) (h : f.fam.blk ≠ .spw) :
    (s.put f v i j).watchRegs = s.watchRegs := by
  have hr : (s.put f v i j).regs.spw = s.regs.spw := regsOf_regsPut_ne (b := f.fam.blk) (c := .spw) _ _ h.symm
  simp [State.watchRegs, hr]

theorem modRing_watchRegs (s : State) (k : RKind) (i : Nat) (f : Ring → Ring) : (s.modRing k i f).watchRegs = s.watchRegs := (rfl)

theorem signalRing_watchRegs (k : RKind) (i : Nat) (s : State) : (signalRing k i s).watchRegs = s.watchRegs := by
  unfold signalRing issueVector
  split
  · exact put_watchRegs _ _ _ _ _ (by decide)
  · rfl

theorem noteEntry_watchRegs (k : RKind) (i : Nat) (s : State) : (noteEntry k i s).watchRegs = s.watchRegs := by
  unfold noteEntry
  dsimp only
  split
  · exact (signalRing_watchRegs _ _ _).trans (modRing_watchRegs _ _ _ _)
  · exact modRing_watchRegs _ _ _ _

theorem advance_watchRegs (k : RKind) (i : Nat) (s : State) : (advance k i s).watchRegs = s.watchRegs :=
  (modRing_watchRegs _ _ _ _).trans (put_watchRegs _ _ _ _ _ (by cases k <;> decide))

theorem fillRing_watchRegs (r kind : Nat) (bytes : List Nat) (n off : Nat) (s : State) :
    (fillRing r kind bytes n off s).2.watchRegs = s.watchRegs := by
  induction n generalizing off s with
  | zero => rfl
  | succ n ih =>
    unfold fillRing
    split
    · rfl
    · exact (ih _ _).trans ((noteEntry_watchRegs _ _ _).trans (advance_watchRegs _ _ _))

/-- A record that its stream ring takes leaves the registers of the watch as they are. -/
theorem sendWhole_ring_watchRegs {d kind : Nat} {bytes : List Nat} {s : State} (h : (sendWhole true d kind bytes s).1 = true) :
    (sendWhole true d kind bytes s).2.watchRegs = s.watchRegs := by
  unfold sendWhole at h ⊢
  rw [if_pos rfl] at h ⊢
  split at h
  next hc => rw [if_pos hc]; exact fillRing_watchRegs _ _ _ _ _ _
  next => cases h

theorem flag_spw_congr {s t : State} (h : t.watchRegs = s.watchRegs) (f : Fld) (i : Nat) (hf : f.fam.blk = .spw) :
    t.flag f i = s.flag f i := by
  obtain ⟨hpart, hregs⟩ := Prod.mk.inj h
  unfold State.flag
  rw [get_congr_blk f i 0 (by rw [hf]; exact hregs) hpart]

/-! ### The end of an integration and the hand-over (R141, R151) -/

theorem integrationEnd_full {n : Nat} {s : State} (hcnt : (s.watch n).cnt ≠ 0) (hlost : (s.watch n).lost = false)
    (hfull : s.mCfg n ≤ (s.watch n).cnt) : integrationEnd n s = closeIntegration n false s := by
  unfold integrationEnd
  dsimp only
  rw [if_neg (by simp [hcnt, hlost, hfull]), decide_eq_false (not_lt.2 hfull)]

theorem productHandover_nothing {n : Nat} {s : State} (h : (s.watch n).out = []) :
    productHandover n s = s.modWatch n (fun x => { x with out := [] }) := by
  unfold productHandover
  dsimp only
  rw [h]
  rfl

/-- A record that its stream ring takes, with no network port chosen, is handed over and not counted as dropped. -/
theorem productHandover_ring {n : Nat} {rec_ : List Nat} {s t : State} (hen : s.flag SPW_PDEST_RING_EN n = true)
    (hout : (s.watch n).out = [rec_]) (ht : s.modWatch n (fun x => { x with out := [] }) = t)
    (hok : (sendWhole true (t.get SPW_PDEST_RING n) 1 rec_ t).1 = true)
    (hexp : (sendWhole true (t.get SPW_PDEST_RING n) 1 rec_ t).2.flag SPW_PDEST_EXP_EN n = false) :
    productHandover n s = (sendWhole true (t.get SPW_PDEST_RING n) 1 rec_ t).2 := by
  have hen' : t.flag SPW_PDEST_RING_EN n = true := ht ▸ hen
  have hexp' : t.flag SPW_PDEST_EXP_EN n = false :=
    (flag_spw_congr (sendWhole_ring_watchRegs hok) SPW_PDEST_EXP_EN n rfl).symm.trans hexp
  unfold productHandover
  dsimp only
  rw [hout, forAll_cons, forAll_nil, ht, hen', if_pos rfl, hexp', if_neg Bool.false_ne_true, hok]
  rfl

/-! ### Slices (R154, R167) -/

theorem mem_slicePorts (w : Nat) {i : Nat} (h : i < 12) : 12 * w + i ∈ (List.range 12).map (fun i => 12 * w + i) :=
  List.mem_map_of_mem (List.mem_range.2 h)

theorem watchLost_lost {w i : Nat} {s : State} (hc : s.covered (144 + w) = false) (hi : i < 12) :
    ((watchLost w s).watch (12 * w + i)).lost = true := by
  rw [watchLost, react_uncovered _ _ _ _ _ _ _ hc]
  refine forAll_reach (fun t : State => (t.watch (12 * w + i)).lost = true) _ _ (mem_slicePorts w hi) (fun t => ?_)
    fun n _ t ht => ?_
  · rw [watch_modWatch_same]
  · by_cases hn : 12 * w + i = n
    · rw [← hn, watch_modWatch_same]
    · rw [watch_modWatch_ne _ _ hn, ht]

theorem watchClear_now (w : Nat) (s : State) : (watchClear w s).now = s.now :=
  forAll_keeps State.now _ _ _ fun n t => by split <;> rfl

/-- The integrations of a slice that end without a report leave it working. -/
theorem watchClear_lost {w i : Nat} (s : State) (hi : i < 12) : ((watchClear w s).watch (12 * w + i)).lost = false := by
  refine forAll_reach (fun t : State => (t.watch (12 * w + i)).lost = false) _ _ (mem_slicePorts w hi) (fun t => ?_)
    fun n _ t ht => ?_
  · split
    next h => rw [h]
    next => rw [watch_modWatch_same]
  · split
    next => exact ht
    next =>
      by_cases hn : 12 * w + i = n
      · rw [← hn, watch_modWatch_same]
      · rw [watch_modWatch_ne _ _ hn, ht]

/-- A lost slice restarts at the beat boundary, none of its ports lost. -/
theorem watchRestart_restarts {w : Nat} {s : State} (h : ∃ i < 12, (s.watch (12 * w + i)).lost = true) :
    (watchRestart w s).now = max s.now s.beatCeil ∧ ∀ i < 12, ((watchRestart w s).watch (12 * w + i)).lost = false := by
  obtain ⟨i, hi, hlost⟩ := h
  unfold watchRestart
  rw [if_pos (List.any_eq_true.2 ⟨i, List.mem_range.2 hi, hlost⟩)]
  refine ⟨?_, fun k hk => ?_⟩
  · refine (forAll_keeps State.now _ _ _ fun n t => ?_).trans (watchClear_now w (s.moveTo s.beatCeil))
    rfl
  · refine (forAll_keeps (fun t : State => (t.watch (12 * w + k)).lost) _ _ _ fun n t => ?_).trans (watchClear_lost _ hk)
    exact modWatch_lost _ _ _ _ fun _ => rfl

/-- Settles O26: each command takes the branch of its hypotheses. The comb detectors that a transform feeds leave the moment and
the watch alone; a sample counts as arrived its port's receive latency after its index (log 144). -/
theorem watchEvents : Obligations.WatchEvents := by
  refine fun s hs => ⟨fun n hon hlost => ?_, fun n hcnt hlost hfull => ?_, fun n hout => ?_, fun n hen rec_ hout => ?_,
    fun w => ?_, fun w hc => ?_, fun w hw => ?_⟩
  · exact ⟨_, row_does rfl hs rfl, fineTransform_enters hon hlost⟩
  · exact row_does rfl hs (integrationEnd_full hcnt hlost hfull)
  · exact row_does rfl hs (productHandover_nothing hout)
  · intro t r hok hexp
    exact row_does rfl hs (productHandover_ring hen hout rfl hok hexp)
  · exact row_does (f := emit ev_WATCH_ECC (144 + w.val)) rfl hs rfl
  · exact ⟨_, row_does rfl hs rfl, fun i hi => watchLost_lost hc hi⟩
  · exact ⟨_, row_does rfl hs rfl, watchRestart_restarts hw⟩

end Sys2Proof.Machine
end

section
/-!
PROOFS. Snapshots that complete, move and abort, and the end of a clean dwell of the Offside detector (R156, R161, R162, R167).
-/
namespace Sys2Proof.Machine
open Sys2Proof

/-! ### Snapshot slots (R156) -/

@[simp] theorem snap_modSnap_same (s : State) (x : Nat) (f : Snap → Snap) : (s.modSnap x f).snap x = f (s.snap x) :=
  tabGet_tabMod_same _ _ _
@[simp] theorem modSnap_snapState (s : State) (x y : Nat) (f : Snap → Snap) : (s.modSnap x f).snapState y = s.snapState y := (rfl)

/-- Slot x FROZEN at the end of its capture, with its sequence number one up (log 50). -/
def snapFrozen (x : Nat) (s : State) : State :=
  let t := s.moveTo (s.align + (s.snap x).endAt * (if s.snapRaw x then Config.convSample else Config.subSample))
  ((t.put SPW_SNAPSTAT_STATE 3 x).modSnap x (fun z => { z with seq := z.seq + 1 })).put SPW_SNAPSTAT_SEQ
    (((s.snap x).seq + 1) % 65536) x

theorem snapDone_posting {x : Nat} {s : State} (h : s.snapState x = 2) :
    snapDone x s = if s.flag SPW_SNAPCFG0_AUTO_MOVE x then startMove x (emit ev_SNAP_DONE (152 + x) (snapFrozen x s))
      else emit ev_SNAP_DONE (152 + x) (snapFrozen x s) := if_neg (not_not_intro h)

/-- A move that is wholly handed over leaves its slot FROZEN where it is not armed again. -/
theorem snapMoved_handedOver {x : Nat} {w : Waiting} {s : State} (hst : s.snapState x = 4)
    (hw : (pump s).hif.waiting.find? (fun y => y.slot = some x) = some w) (hdone : w.bytes.length ≤ w.done)
    (hre : s.flag SPW_SNAPCFG0_AUTO_REARM x = false) :
    snapMoved x s = emit ev_SNAP_MOVED (152 + x) ((unwait x (pump s)).put SPW_SNAPSTAT_STATE 3 x) := by
  unfold snapMoved
  rw [if_neg (not_not_intro hst)]
  dsimp only
  rw [hw, hre]
  exact if_neg (not_lt.2 hdone)

/-- A slot that goes to IDLE holds nothing. -/
theorem snapIdle_empties (x : Nat) (s : State) : (snapIdle x s).snapState x = 0 ∧
    ((snapIdle x s).snap x).raw = [] ∧ ((snapIdle x s).snap x).sub = [] := by
  unfold snapIdle
  dsimp only
  rw [modSnap_snapState, snap_modSnap_same]
  exact ⟨get_put_same _ _ _ _ _ (by decide), rfl, rfl⟩

theorem snapAbort_uncovered {x : Nat} {s : State} (hst : s.snapState x = 1 ∨ s.snapState x = 2)
    (hc : s.covered (152 + x) = false) : snapAbort x s = snapIdle x (emit ev_SNAP_ABORT (152 + x) s) :=
  (if_pos (by simpa using hst)).trans (react_uncovered _ _ _ _ _ _ _ hc)

/-! ### The dwells of the Offside detector (R161, R162) -/

theorem WatchOnly.get {s t : State} (h : WatchOnly s t) (f : Fld) (i j : Nat) : t.get f i j = s.get f i j := by
  obtain ⟨w, rfl⟩ := h; rfl

theorem dwellTo_watchOnly (t m : Nat) (s : State) : WatchOnly s (dwellTo t m s) :=
  .ite (.refl s) (.forAll _ _ s fun _ _ => ⟨_, rfl⟩)

/-- What the raw slots take of an ORx switch is the watch's alone (R48, R158). -/
theorem orxSwitchTo_watchOnly (t i : Nat) (s : State) : WatchOnly (orxSwitch t i s) (orxSwitchTo t i s) :=
  (noteSnapAtt_watchOnly _ _ _ _ _).trans (.forAll _ _ _ fun _ y => .ite (modSnap_watchOnly _ _ y) (.refl y))

/-- The last beat boundary of the dwell of tile t. -/
def State.dwellEnd (s : State) (t : Nat) : Nat :=
  (tabGet s.spw.dwells t : Dwell).start + s.get SPW_OFFCFG_DWELL_M1 t + 1

/-- The machine at the end of the dwell of tile t, with the samples of the dwell accounted. -/
def dwellCounted (t : Nat) (s : State) : State := dwellTo t (1024 * s.dwellEnd t) (s.moveTo (s.beatTick (s.dwellEnd t)))

theorem dwellCounted_now (t : Nat) (s : State) : (dwellCounted t s).now = max s.now (s.beatTick (s.dwellEnd t)) :=
  (dwellTo_watchOnly _ _ _).now

/-- A clean dwell of tile t with the detector on input i: no blindness, the violation of the port cleared, and the next dwell on
the next input. -/
def dwellClean (t i : Nat) (s : State) : State :=
  let s1 := s.put SPW_OFFSTAT_BLIND 0 t
  let s2 := { s1 with iso := { s1.iso with viol := tabSet s1.iso.viol (6 * t + i) none } }
  let s3 := (s2.put SPW_OFFSTAT_VIOL (setBits (BitVec.ofNat 32 (s2.get SPW_OFFSTAT_VIOL t)) i 1 0).toNat t).put
    SPW_OFFSTAT_INPUT ((i + 1) % 6) t
  { s3 with spw := { s3.spw with dwells := tabSet s3.spw.dwells t { start := s3.beatNow, next := 1024 * s3.beatNow } } }

/-- A dwell that can be judged, with samples enough and no level over its limit, is clean, and the ORx moves on. The steps follow
those of `offsideDwellEnd`: the detector is able and done, finds nothing, and so reports nothing. -/
theorem offsideDwellEnd_clean {t : Nat} {s : State} {d : Dwell} (late : Nat) (level : List (Nat × Nat)) (hst : 3 ≤ s.rstate t)
    (hrx : s.rxEn (96 + t) = true) (hoos : s.outOfService (96 + t) = false) (hdom : s.domainOn (3 * t) = true)
    (hman : s.flag TILE_ORXCFG_MANUAL t = false) (hd : tabGet (dwellCounted t s).spw.dwells t = d) (hn : 512 ≤ d.n)
    (hlow : ∀ k < 1024, s.offsideOver (6 * t + s.get SPW_OFFSTAT_INPUT t) k d.n (tabGet d.sums k) = false) :
    offsideDwellEnd t late level s = orxSwitchTo t ((s.get SPW_OFFSTAT_INPUT t + 1) % 6)
      (dwellClean t (s.get SPW_OFFSTAT_INPUT t) (dwellCounted t s)) := by
  have hnone : (List.range 1024).filter (fun k =>
      s.offsideOver (6 * t + s.get SPW_OFFSTAT_INPUT t) k d.n (tabGet d.sums k)) = [] :=
    List.filter_eq_nil_iff.2 fun k hk => ne_true_of_eq_false (hlow k (List.mem_range.1 hk))
  unfold offsideDwellEnd
  rw [if_neg (not_lt.2 hst)]
  extract_lets e i o s1 manual dwell first able done blind ks s2 s3 found since keep iso s4 s5 s6 i' s7 spw s8
  have hmanual : manual = false := hman
  have hdwell : dwell = d := by
    simp only [dwell, hmanual, Bool.false_eq_true, if_false]
    exact hd
  have hable : able = true := by simp [able, hrx, hoos, hdom, hmanual]
  have hdone : done = true := by simp [done, hable, hdwell, hn]
  have hblind : ¬blind := by simp [blind, hable, hdwell, hn]
  have hks : ks = [] := by
    simp only [ks, hdone, if_true, hdwell]
    exact hnone
  have hs3 : s3 = s1.put SPW_OFFSTAT_BLIND 0 t := by
    simp only [s3, if_neg hblind, hks, forAll_nil, s2]
    rw [decide_eq_false hblind]
    rfl
  have hfound : found = false := by simp [found, hblind, hks]
  have hkeep : keep = none := by simp [keep, hfound, hdone]
  have hs5 : s5 = s4.put SPW_OFFSTAT_VIOL (setBits (BitVec.ofNat 32 (s4.get SPW_OFFSTAT_VIOL t)) i 1 0).toNat t :=
    if_pos (by simp [hfound, hdone])
  have hs6 : s6 = s5 := by
    simp only [s6, hfound]
    cases since <;> rfl
  have hs8 : s8 = dwellClean t i (dwellCounted t s) := by
    simp only [s8, spw, s7, i', hs6, hs5, s4, iso, hkeep, hs3]
    rfl
  rw [if_neg (by simp [hmanual]), hs8]

/-- A bit that is put to 0 reads 0 in what a field keeps of the word. -/
theorem bitOf_setBits_zero (w : Word) {i : Nat} (n : Nat) (h : i + 1 ≤ 32) :
    bitOf ((setBits w i 1 0).toNat % 2 ^ n) i = false := by
  have hzero : (setBits w i 1 0).toNat / 2 ^ i % 2 = 0 := getBits_setBits_same w i 1 0 h
  have hbit : bitOf (setBits w i 1 0).toNat i = false := by
    unfold bitOf
    rw [hzero]
    rfl
  rw [bitOf_eq_testBit, Nat.testBit_mod_two_pow, ← bitOf_eq_testBit, hbit, Bool.and_false]

theorem dwellClean_now (t i : Nat) (s : State) : (dwellClean t i s).now = s.now := by simp [dwellClean]

/-- What the detector of tile t shows after a clean dwell. -/
theorem dwellClean_shows {i : Nat} (t : Nat) (s : State) (h : i < 6) :
    (dwellClean t i s).get SPW_OFFSTAT_INPUT t = (i + 1) % 6 ∧
    bitOf ((dwellClean t i s).get SPW_OFFSTAT_VIOL t) i = false ∧ (dwellClean t i s).get SPW_OFFSTAT_BLIND t = 0 := by
  have hput (f : Fld) : (dwellClean t i s).get f t = (((s.put SPW_OFFSTAT_BLIND 0 t).put SPW_OFFSTAT_VIOL
      (setBits (BitVec.ofNat 32 ((s.put SPW_OFFSTAT_BLIND 0 t).get SPW_OFFSTAT_VIOL t)) i 1 0).toNat t).put
        SPW_OFFSTAT_INPUT ((i + 1) % 6) t).get f t := rfl
  rw [hput, hput, hput]
  refine ⟨?_, ?_, ?_⟩
  · rw [get_put_same _ _ _ _ _ (by decide)]
    exact Nat.mod_eq_of_lt ((Nat.mod_lt _ (by decide)).trans (by decide : 6 < 2 ^ 3))
  · rw [get_put_apart _ SPW_OFFSTAT_INPUT SPW_OFFSTAT_VIOL _ _ _ rfl (by decide) (by decide), get_put_same _ _ _ _ _ (by decide)]
    exact bitOf_setBits_zero _ 6 (by omega)
  · rw [get_put_apart _ SPW_OFFSTAT_INPUT SPW_OFFSTAT_BLIND _ _ _ rfl (by decide) (by decide),
      get_put_apart _ SPW_OFFSTAT_VIOL SPW_OFFSTAT_BLIND _ _ _ rfl (by decide) (by decide), get_put_same _ _ _ _ _ (by decide)]
    rfl

/-- The ORx of tile t is on its new input and settles (R48). -/
theorem orxSwitch_shows (t : Nat) {i : Nat} (s : State) (h : i < 8) :
    (orxSwitch t i s).get TILE_ORXSTAT_INPUT t = i ∧ (orxSwitch t i s).get TILE_ORXSTAT_SETTLING t = 1 := by
  unfold orxSwitch
  dsimp only
  rw [modUnit_get, modUnit_get]
  refine ⟨?_, get_put_same _ _ _ _ _ (by decide)⟩
  rw [get_put_apart _ TILE_ORXSTAT_SETTLING TILE_ORXSTAT_INPUT _ _ _ rfl (by decide) (by decide),
    get_put_same _ _ _ _ _ (by decide)]
  exact Nat.mod_eq_of_lt h

theorem orxSwitch_now (t i : Nat) (s : State) : (orxSwitch t i s).now = s.now := (rfl)

theorem orxSwitch_get_spw (t i j k : Nat) (s : State) (f : Fld) (h : f.fam.blk = .spw) :
    (orxSwitch t i s).get f j k = s.get f j k := by
  have hne : f.fam.blk ≠ .tile := by rw [h]; decide
  unfold orxSwitch
  dsimp only
  rw [modUnit_get, get_put_ne _ _ _ _ _ _ _ _ (.inl hne), get_put_ne _ _ _ _ _ _ _ _ (.inl hne)]

/-- Settles O27: each command takes the branch of its hypotheses. SEQ rises as a capture ends (log 50), and the samples of a dwell
are those of `dwellCounted` (log 149). -/
theorem snapshotsAndOffsideDwells : Obligations.SnapshotsAndOffsideDwells := by
  refine ⟨fun s x hs => ⟨fun hst => ⟨fun hauto => ?_, fun hauto => ?_⟩, fun w hst hw hdone hre => ?_,
    fun hst hc => ?_, ?_⟩, fun s t hs hst hrx hoos hdom hman hi => ?_⟩
  · exact row_does rfl hs ((snapDone_posting hst).trans (if_neg (ne_true_of_eq_false hauto)))
  · exact row_does rfl hs ((snapDone_posting hst).trans (if_pos hauto))
  · exact row_does rfl hs (snapMoved_handedOver hst hw hdone hre)
  · exact ⟨_, row_does rfl hs (snapAbort_uncovered hst hc), snapIdle_empties _ _⟩
  · exact row_does (f := emit ev_CAPTURE_ECC (152 + x.val)) rfl hs rfl
  · intro e d hn hlow late level
    have hmod : (s.get SPW_OFFSTAT_INPUT t + 1) % 6 < 8 := (Nat.mod_lt _ (by decide)).trans (by decide)
    obtain ⟨hinput, hviol, hblind⟩ := dwellClean_shows t (dwellCounted t s) hi
    obtain ⟨horx, hsettling⟩ := orxSwitch_shows t (dwellClean t (s.get SPW_OFFSTAT_INPUT t) (dwellCounted t s)) hmod
    have hw := orxSwitchTo_watchOnly t ((s.get SPW_OFFSTAT_INPUT t + 1) % 6)
      (dwellClean t (s.get SPW_OFFSTAT_INPUT t) (dwellCounted t s))
    refine ⟨_, row_does rfl hs (offsideDwellEnd_clean _ _ hst hrx hoos hdom hman rfl hn hlow), ?_⟩
    rw [hw.now, orxSwitch_now, dwellClean_now, hw.get, hw.get, hw.get, hw.get, hw.get, orxSwitch_get_spw _ _ _ _ _ _ rfl,
      orxSwitch_get_spw _ _ _ _ _ _ rfl, orxSwitch_get_spw _ _ _ _ _ _ rfl]
    exact ⟨dwellCounted_now _ _, hinput, hviol, hblind, horx, hsettling⟩

end Sys2Proof.Machine
end

section
/-!
PROOFS. The commands of a ring that is served next: what each answers on the state after its fetch (R156, R157, R220, R276,
R384, R389).
-/
namespace Sys2Proof.Machine
open Sys2Proof

/-- A command of a served ring with a byte that must be 0 and is not completes with INVALID_FIELD (R220). -/
theorem ringCmd_bad_does {i : Instr} {d : Desc} {k : Nat → Nat → State → State} {s : State} (hi : exec i s = ringCmd d k s)
    (hsv : s.served d.ring) (hl : d.lost = false) (hd : descBad d = true) :
    Does i s (completeCmd d.ring d.tag.toNat stINVALID_FIELD (fetch d.ring s)) := by
  obtain ⟨hheard, hnext, hdrain, hopen⟩ := hsv
  unfold Does
  rw [hi, ringCmd, hostCmd_next _ _ hheard hl, hd]
  simp [command, descriptor, hnext, hdrain, hopen]

/-- An opcode that is not listed completes with INVALID_OPCODE, whatever its bytes (R220). -/
theorem invalidOpcode_does {d : Desc} {s : State} (op : Byte) (hsv : s.served d.ring) (hl : d.lost = false) :
    Does (.invalidOpcode d op) s (completeCmd d.ring d.tag.toNat stINVALID_OPCODE (fetch d.ring s)) := by
  show execInvalidOpcode d op s = _
  rw [execInvalidOpcode, hostCmd_next _ _ hsv.1 hl, command_served _ _ hsv]

section
variable {r tag : Nat} {s : State}

/-! ### Snapshot slots (R156, R157) -/

theorem snapTriggerCmd_badSlot {x : Nat} (atIndex : Bool) (idx : Nat) (h : 16 ≤ x) :
    snapTriggerCmd r tag x atIndex idx s = completeCmd r tag stINVALID_FIELD s := if_pos h

/-- An ARMED slot is triggered: at the index given, or at the first sample of the next beat. -/
theorem snapTriggerCmd_armed {x : Nat} (atIndex : Bool) (idx : Nat) (h : x < 16) (hst : s.snapState x = 1) :
    snapTriggerCmd r tag x atIndex idx s = completeCmd r tag stSUCCESS (snapTrig x 1
      (if atIndex then idx else (s.beatNow + 1) * (if s.snapRaw x then 1048576 else 1024)) s) :=
  (if_neg (not_le.2 h)).trans (if_neg (not_not_intro hst))

theorem snapMoveCmd_badSlot {x : Nat} (h : 16 ≤ x) : snapMoveCmd r tag x s = completeCmd r tag stINVALID_FIELD s := if_pos h

theorem snapMoveCmd_notFrozen {x : Nat} (h : x < 16) (hst : s.snapState x ≠ 3) :
    snapMoveCmd r tag x s = completeCmd r tag stWRONG_STATE s := (if_neg (not_le.2 h)).trans (if_pos hst)

theorem snapMoveCmd_frozen {x : Nat} (h : x < 16) (hst : s.snapState x = 3) :
    snapMoveCmd r tag x s = completeCmd r tag stSUCCESS (startMove x s) :=
  (if_neg (not_le.2 h)).trans (if_neg (not_not_intro hst))

/-! ### Links (R276) -/

theorem linkRetrain_badMask {mask : Nat} (h : 16 ≤ mask) : linkRetrain r tag mask s = completeCmd r tag stINVALID_FIELD s :=
  if_pos h

theorem linkRetrain_retrains {mask : Nat} (h : mask < 16) : linkRetrain r tag mask s =
    completeCmd r tag stSUCCESS (forAll ((List.range 4).filter (fun l => bitOf mask l)) linkDown s) :=
  if_neg (not_le.2 h)

/-! ### The collector and the Scorebook (R384, R389) -/

theorem sbFlushCmd_empty (h : s.flt.buffer = []) : sbFlushCmd r tag s = completeCmd r tag stSUCCESS s := if_pos h

/-- A flush that has something to write owes its completion. -/
theorem sbFlushCmd_starts (h : s.flt.buffer ≠ []) : sbFlushCmd r tag s =
    startFlush { s with flt := { s.flt with flushCmds := s.flt.flushCmds ++ [s.defer r tag] } } := if_neg h

theorem inject_badField {src kind cls : Nat} (h : 383 < src ∨ 3 ≤ cls) :
    inject r tag src kind cls s = completeCmd r tag stINVALID_FIELD s := if_pos (by simpa using h)

theorem inject_accepts {src kind cls : Nat} (hsrc : src ≤ 383) (hcls : cls < 3) : inject r tag src kind cls s =
    completeCmd r tag stSUCCESS
      (accept .none { src := src, code := groupOf src * 256 + kind % 256, cls := cls, injected := true } s) :=
  if_neg (by simp; omega)

theorem sbCopy_outOfRange {first count ring dest : Nat} (h : 16384 < first + count) :
    sbCopy r tag first count ring dest s = completeCmd r tag stINVALID_FIELD s := by
  unfold sbCopy
  exact if_pos (by simp [h])

/-- The record of a copy of `count` cells from `first` on to stream ring `ring`, for the command with `tag` on ring r. -/
def State.sbCopyRecord (s : State) (r tag first count ring : Nat) : Waiting :=
  { ring := true, dest := ring, kind := 4, bytes := s.sbCopyBytes first count, cmd := some (s.defer r tag) }

/-- A copy to an enabled stream ring starts; where it is dropped at once its status is open (log 67). -/
theorem sbCopy_toRing {first count ring : Nat} (h0 : 0 < count) (hle : first + count ≤ 16384) (hr : ring ≤ 63)
    (hen : s.flag STR_CFG_EN ring = true) : sbCopy r tag first count ring 0 s =
      if (sendRecord (s.sbCopyRecord r tag first count ring) s).1 then (sendRecord (s.sbCopyRecord r tag first count ring) s).2
      else openStatus (s.defer r tag) (sendRecord (s.sbCopyRecord r tag first count ring) s).2 := by
  unfold sbCopy
  dsimp only
  rw [if_neg (by simp; omega), if_neg (by simp [hen])]
  rfl
end

/-- Settles O57: a served ring runs each command on the state after its fetch, and each case above is one of its branches. That
a retrain mask of 16 or more is an invalid field, that SNAP_MOVE completes as its move starts (log 50) and that a dropped copy
has an open status (log 67) are the model's readings. -/
theorem ringCommandsComplete : Obligations.RingCommandsComplete := by
  intro s d hsv hl
  refine ⟨fun hd => ?_, fun op => ?_, fun hd => ?_⟩
  · exact ringCmd_bad_does (k := fun r tag => completeCmd r tag stSUCCESS) rfl hsv hl hd
  · exact invalidOpcode_does op hsv hl
  have hdoes {i : Instr} (k : Nat → Nat → State → State) {u : State} (hi : exec i s = ringCmd d k s)
      (hu : k d.ring d.tag.toNat (fetch d.ring s) = u) : Does i s u := ringCmd_does hi hsv hl hd hu
  refine ⟨?_, fun x idx hx hst => ⟨?_, ?_⟩, fun x b idx hx => ⟨?_, ?_⟩, fun x hx hst => ?_, fun x hx hst => ?_,
    fun mask hm => ?_, fun mask hm => ?_, ?_, fun hb => ?_, fun hb => ?_, fun src kind cls hsrc hcls => ?_, fun src kind cls h => ?_,
    fun first count ring h0 hle hr hen => ⟨fun hok => ?_, fun hno => ?_⟩, fun first count ring h => ?_⟩
  · exact hdoes (fun r tag => completeCmd r tag stSUCCESS) rfl rfl
  · exact hdoes (fun r tag => snapTriggerCmd r tag x.toNat true idx.toNat) rfl (snapTriggerCmd_armed true _ hx hst)
  · exact hdoes (fun r tag => snapTriggerCmd r tag x.toNat false idx.toNat) rfl (snapTriggerCmd_armed false _ hx hst)
  · exact hdoes (fun r tag => snapTriggerCmd r tag x.toNat b idx.toNat) rfl (snapTriggerCmd_badSlot _ _ hx)
  · exact hdoes (fun r tag => snapMoveCmd r tag x.toNat) rfl (snapMoveCmd_badSlot hx)
  · exact hdoes (fun r tag => snapMoveCmd r tag x.toNat) rfl (snapMoveCmd_frozen hx hst)
  · exact hdoes (fun r tag => snapMoveCmd r tag x.toNat) rfl (snapMoveCmd_notFrozen hx hst)
  · exact hdoes (fun r tag => linkRetrain r tag mask.toNat) rfl (linkRetrain_retrains hm)
  · exact hdoes (fun r tag => linkRetrain r tag mask.toNat) rfl (linkRetrain_badMask hm)
  · exact hdoes dugoutCmd rfl rfl
  · exact hdoes sbFlushCmd rfl (sbFlushCmd_empty hb)
  · exact hdoes sbFlushCmd rfl (sbFlushCmd_starts hb)
  · exact hdoes (fun r tag => inject r tag src.toNat kind.toNat cls.toNat) rfl (inject_accepts hsrc hcls)
  · exact hdoes (fun r tag => inject r tag src.toNat kind.toNat cls.toNat) rfl (inject_badField h)
  · exact hdoes (fun r tag => sbCopy r tag first.toNat count.toNat ring.toNat 0) rfl
      ((sbCopy_toRing h0 hle hr hen).trans (if_pos hok))
  · exact hdoes (fun r tag => sbCopy r tag first.toNat count.toNat ring.toNat 0) rfl
      ((sbCopy_toRing h0 hle hr hen).trans (if_neg (ne_true_of_eq_false hno)))
  · exact hdoes (fun r tag => sbCopy r tag first.toNat count.toNat ring.toNat 0) rfl (sbCopy_outOfRange h)

end Sys2Proof.Machine
end

section
/-!
PROOFS. The radio states of the tiles and of the device: what a state and a step read after the operations that act on them, the end
of a step, and the steps up and down (R168-R172, R186).
-/
namespace Sys2Proof.Machine
open Sys2Proof

/-! ### Steps -/

theorem stepOf_setStep_same (s : State) (u : Nat) (x : Step) : (s.setStep u x).stepOf u = x := by
  unfold State.setStep State.stepOf
  split
  · exact tabGet_tabSet_same _ _ _
  · rfl

theorem stepOf_setStep_ne (s : State) {u v : Nat} (x : Step) (hu : u ≤ 16) (hv : v ≤ 16) (h : v ≠ u) :
    (s.setStep u x).stepOf v = s.stepOf v := by
  unfold State.setStep State.stepOf
  by_cases hu' : u < 16
  · rw [if_pos hu']
    split
    · exact tabGet_tabSet_ne _ _ h
    · rfl
  · rw [if_neg hu', if_pos (by omega), if_pos (by omega)]

/-- Replacing a step keeps what neither the steps of the tiles nor that of the device enter. -/
theorem setStep_keeps {β : Type} (g : State → β) (s : State) (u : Nat) (x : Step)
    (hsteps : ∀ d l, g { s with radio := { s.radio with dev := d, tiles := l } } = g s) : g (s.setStep u x) = g s := by
  unfold State.setStep
  split
  · exact hsteps s.radio.dev _
  · exact hsteps _ s.radio.tiles

@[simp] theorem setStep_now (s : State) (u : Nat) (x : Step) : (s.setStep u x).now = s.now :=
  setStep_keeps State.now _ _ _ fun _ _ => rfl
@[simp] theorem setStep_rstate (s : State) (u v : Nat) (x : Step) : (s.setStep u x).rstate v = s.rstate v :=
  setStep_keeps (State.rstate · v) _ _ _ fun _ _ => rfl

/-! ### Radio states -/

/-- The registers of a family stand apart from one another along its first index. -/
theorem regOff_ne {f : RegFam} {i k : Nat} (j : Nat) (hf : f.s1 ≠ 0) (h : i ≠ k) : regOff f i j ≠ regOff f k j := by
  unfold regOff
  have := Nat.mul_left_cancel (Nat.pos_of_ne_zero hf) (m := i) (k := k)
  omega

/-- No tile's CLK_TSTAT is CLK_RSTAT. -/
theorem regOff_tstat_ne_rstat (t : Nat) : regOff CLK_TSTAT t 0 ≠ regOff CLK_RSTAT 0 0 := by
  simp only [regOff, CLK_TSTAT, CLK_RSTAT]
  omega

@[simp] theorem emit_rstate (k : EvKind) (src : Nat) (s : State) (a : Area) (p0 p1 p2 p3 u : Nat) :
    (emit k src s a p0 p1 p2 p3).rstate u = s.rstate u := by
  unfold State.rstate
  rw [emit_get (by decide), emit_get (by decide)]

@[simp] theorem put_moving_rstate (s : State) (v u : Nat) : (s.put CLK_RSTAT_MOVING v).rstate u = s.rstate u := by
  unfold State.rstate
  rw [get_put_ne _ CLK_RSTAT_MOVING CLK_TSTAT_STATE _ _ _ _ _ (.inr (regOff_tstat_ne_rstat u)),
    get_put_apart _ CLK_RSTAT_MOVING CLK_RSTAT_STATE _ _ _ rfl (by decide) (by decide)]

/-- A change of state keeps what the two state fields and a report keep. -/
theorem setRstate_keeps {β : Type} (g : State → β) (u new : Nat) (s : State)
    (hemit : ∀ k src t a p0 p1 p2 p3, g (emit k src t a p0 p1 p2 p3) = g t)
    (htile : ∀ t v, g (State.put t CLK_TSTAT_STATE v u) = g t) (hdev : ∀ t v, g (State.put t CLK_RSTAT_STATE v) = g t) :
    g (setRstate u new s) = g s := by
  unfold setRstate
  dsimp only
  split
  · rfl
  · rw [hemit]
    split
    · exact htile _ _
    · exact hdev _ _

/-- A unit is in the state it was put in. -/
theorem setRstate_rstate_same {u new : Nat} (s : State) (h : new < 8) : (setRstate u new s).rstate u = new := by
  unfold setRstate
  dsimp only
  split
  · assumption
  rw [emit_rstate]
  unfold State.rstate
  by_cases hu : u < 16
  · rw [if_pos hu, if_pos hu, get_put_same _ _ _ _ _ (by decide)]
    exact Nat.mod_eq_of_lt h
  · rw [if_neg hu, if_neg hu, get_put_same _ _ _ _ _ (by decide)]
    exact Nat.mod_eq_of_lt h

/-- A change of one unit's state leaves that of every other. -/
theorem setRstate_rstate_ne {u v new : Nat} (s : State) (hu : u ≤ 16) (hv : v ≤ 16) (h : v ≠ u) :
    (setRstate u new s).rstate v = s.rstate v := by
  unfold setRstate
  dsimp only
  split
  · rfl
  rw [emit_rstate]
  unfold State.rstate
  by_cases hu' : u < 16
  · rw [if_pos hu', get_put_ne _ CLK_TSTAT_STATE CLK_RSTAT_STATE _ _ _ _ _ (.inr (regOff_tstat_ne_rstat u).symm),
      get_put_ne _ CLK_TSTAT_STATE CLK_TSTAT_STATE _ _ _ _ _ (.inr (regOff_ne (f := CLK_TSTAT) 0 (by decide) h))]
  · rw [if_neg hu', if_pos (by omega), if_pos (by omega)]
    exact get_put_ne _ CLK_RSTAT_STATE CLK_TSTAT_STATE _ _ _ _ _ (.inr (regOff_tstat_ne_rstat v))

/-! ### The end of a step (R169, R186) -/

/-- The state at the end of the step of u, before its new state is noted. -/
def stepEnded (u : Nat) (s : State) : State :=
  let t := (s.moveTo (s.stepOf u).endAt).setStep u {}
  if u = 16 then t.put CLK_RSTAT_MOVING 0 else t

theorem endStep_eq (u : Nat) (s : State) : endStep u s = setRstate u (s.stepOf u).goal (stepEnded u s) := rfl

/-- MOVING apart, the step is at its end and gone. -/
theorem stepEnded_keeps {β : Type} (g : State → β) (u : Nat) (s : State) (hput : ∀ t, g (State.put t CLK_RSTAT_MOVING 0) = g t) :
    g (stepEnded u s) = g ((s.moveTo (s.stepOf u).endAt).setStep u {}) := by
  unfold stepEnded
  dsimp only
  split
  · exact hput _
  · rfl

theorem endStep_now (u : Nat) (s : State) : (endStep u s).now = max s.now (s.stepOf u).endAt := by
  rw [endStep_eq, setRstate_keeps State.now _ _ _ emit_now (fun _ _ => rfl) fun _ _ => rfl,
    stepEnded_keeps State.now _ _ fun _ => rfl, setStep_now, moveTo_now]

/-- The record of every step is the one left when the step of u is taken out. -/
theorem endStep_stepOf (u v : Nat) (s : State) :
    (endStep u s).stepOf v = ((s.moveTo (s.stepOf u).endAt).setStep u {}).stepOf v := by
  rw [endStep_eq, setRstate_keeps (State.stepOf · v) _ _ _ (fun _ _ _ _ _ _ _ _ => rfl) (fun _ _ => rfl) fun _ _ => rfl,
    stepEnded_keeps (State.stepOf · v) _ _ fun _ => rfl]

theorem endStep_rstate_ne {u v : Nat} (s : State) (hu : u ≤ 16) (hv : v ≤ 16) (h : v ≠ u) :
    (endStep u s).rstate v = s.rstate v := by
  rw [endStep_eq, setRstate_rstate_ne _ hu hv h, stepEnded_keeps (State.rstate · v) _ _ fun _ => put_moving_rstate _ _ _,
    setStep_rstate]
  rfl

/-- The device no longer moves when its step ends. -/
theorem endStep_moving (s : State) : (endStep 16 s).get CLK_RSTAT_MOVING = 0 := by
  rw [endStep_eq, setRstate_keeps (State.get · CLK_RSTAT_MOVING) _ _ _ (fun _ _ _ _ _ _ _ _ => emit_get (by decide))
    (fun _ _ => get_put_ne _ _ _ _ _ _ _ _ (.inr (by decide)))
    fun _ _ => get_put_apart _ _ _ _ _ _ rfl (by decide) (by decide)]
  exact get_put_same _ _ _ _ _ (by decide)

/-! ### The steps up and down (R168-R172) -/

theorem standbyToSynth_tile {t : Nat} {s : State} (ht : t < 16) (h : s.stepping t 1 2 = true) :
    standbyToSynth t s =
      startupCal (kickRadio (if (s.stepOf t).follow then endStep t s else unpin t (endStep t s))) := by
  unfold standbyToSynth
  rw [if_neg (by simp [h]), if_pos ht]
  cases (s.stepOf t).follow <;> rfl

theorem standbyToSynth_device {s : State} (h : s.stepping 16 1 2 = true) :
    standbyToSynth 16 s =
      (let a := forAll (List.range 4) (fun q t => if s.synthDue q then synthCald q t else t.put CLK_SYNSTAT_LOCK 1 q)
        (endStep 16 s)
       startupCal (kickRadio (startupHold (if s.isMaster then alignNow a else { a with qlk := { a.qlk with waits := true } })))) := by
  unfold standbyToSynth
  rw [if_neg (by simp [h]), if_neg (by decide)]

theorem synthToStandby_stepping {u : Nat} {s : State} (h : s.stepping u 2 1 = true) :
    synthToStandby u s = kickRadio (if u = 16 then
      forAll (List.range 4) (fun q t => t.put CLK_SYNSTAT_LOCK 0 q) (endStep u s) else endStep u s) :=
  if_neg (by simp [h])

/-- Settles O28: the end of a step is read part by part; each command at the end of its own step takes the branch that ends it, and
SLEEP_ENTRY is its definition. -/
theorem radioStepsComplete : Obligations.RadioStepsComplete := by
  refine ⟨fun s u hu hg => ⟨endStep_now u s, setRstate_rstate_same _ (by omega), ?_, ?_, fun v hv hne =>
    ⟨endStep_rstate_ne s hu hv hne, ?_⟩⟩, fun s hs => ⟨fun t h => ?_, fun h => ?_, fun o h => ?_, fun o h => ?_, fun o h => ?_,
    fun t h => ?_, fun h => ?_, fun _ _ => rowP_next sleepEntry hs⟩⟩
  · rw [endStep_stepOf, stepOf_setStep_same]
  · rintro rfl
    exact endStep_moving s
  · rw [endStep_stepOf, stepOf_setStep_ne _ _ hu hv hne]
    rfl
  · exact row_does rfl hs (standbyToSynth_tile t.isLt h)
  · exact row_does rfl hs (standbyToSynth_device h)
  · exact row_does rfl hs (if_pos h)
  · exact row_does rfl hs (if_pos h)
  · exact row_does rfl hs (if_pos h)
  · exact row_does rfl hs ((synthToStandby_stepping h).trans (congrArg kickRadio (if_neg t.isLt.ne)))
  · exact row_does rfl hs (synthToStandby_stepping h)

end Sys2Proof.Machine
end

section
/-!
PROOFS. The sequencer of the power amplifiers: what its operations leave of a port's pins and of PASTAT, and the enables, the fault
and the return of its pin (R171, R177-R179, R405).
-/
namespace Sys2Proof.Machine
open Sys2Proof

theorem pinIn_bad {s : State} {k : Nat} (f : State → State) (h : s.ioOk k = false) : pinIn k f s = s :=
  if_neg (ne_true_of_eq_false h)

/-- A source that no shadow covers is not covered later, while no shadow opens (R376). -/
theorem covered_later {s t : State} {src : Nat} (hflt : t.flt = s.flt) (hnow : s.now ≤ t.now) (h : s.covered src = false) :
    t.covered src = false := by
  unfold State.covered at h ⊢
  rw [hflt]
  rw [List.any_eq_false] at h ⊢
  intro w hw hc
  simp only [Bool.and_eq_true, decide_eq_true_eq] at hc
  exact h w hw (by simp [hnow.trans_lt hc.1, hc.2])

/-! ### What the sequencer leaves of a port (R178) -/

theorem modPa_pa_ne (s : State) {n p : Nat} (f : Pa → Pa) (h : p ≠ n) : (s.modPa n f).pa p = s.pa p := tabGet_tabMod_ne _ _ h
theorem pput_pa (s : State) (f : Fld) (n v p : Nat) : (s.pput f n v).pa p = s.pa p := (rfl)

/-- A part of the sequencer that a change leaves alone is as it was at every port. -/
theorem modPa_reads {β : Type} (g : Pa → β) (s : State) (n p : Nat) (f : Pa → Pa) (h : ∀ x, g (f x) = g x) :
    g ((s.modPa n f).pa p) = g (s.pa p) := by
  by_cases hp : p = n
  · subst hp
    rw [pa_modPa_same, h]
  · rw [modPa_pa_ne _ _ hp]

/-- A put of SEQ leaves the rest of PASTAT alone at every port (R180). -/
theorem pput_seq_pget (s : State) (n v p : Nat) {f : Fld} (hf : f.fam = TILE_PASTAT) (hlo : 3 ≤ f.lo) :
    (s.pput TILE_PASTAT_SEQ n v).pget f p = s.pget f p := by
  by_cases hp : p = n
  · subst hp
    exact pget_pput_apart _ _ _ _ _ hf (by decide) (.inr hlo)
  · refine get_put_ne _ TILE_PASTAT_SEQ _ _ _ _ _ _ (.inr ?_)
    rw [hf]
    simp only [regOff, TILE_PASTAT_SEQ, TILE_PASTAT]
    omega

/-- The start of an up sequence keeps what the three changes it is made of keep: `again`, the rise of PA_BIAS_EN, and SEQ. -/
theorem seqUp_keeps {β : Type} (g : State → β) (n : Nat) (s : State)
    (hagain : g (s.modPa n (fun x => { x with again := true })) = g s)
    (hup : ∀ t e, g (State.modPa t n (fun x => { x with bias := true, enAt := e, again := false })) = g t)
    (hseq : ∀ t v, g (State.pput t TILE_PASTAT_SEQ n v) = g t) : g (seqUp n s) = g s := by
  unfold seqUp
  split
  · exact hagain
  split
  · rfl
  · exact (hseq _ _).trans (hup _ _)

/-- A look at whether tile t reports RELAY keeps what a step, a change of state and an up sequence keep. -/
theorem relayCheck_keeps {β : Type} (g : State → β) (t : Nat) (s : State)
    (hstep : g (s.setStep t {}) = g s) (hst : ∀ u, g (setRstate t 4 u) = g u) (hup : ∀ n u, g (seqUp n u) = g u) :
    g (relayCheck t s) = g s := by
  unfold relayCheck
  dsimp only
  split
  · exact (forAll_keeps g _ _ _ hup).trans ((hst _).trans hstep)
  · rfl

/-- It keeps what of a port's sequencer no up sequence changes. -/
theorem relayCheck_pa {β : Type} (g : Pa → β) (t p : Nat) (s : State) (hagain : ∀ x, g { x with again := true } = g x)
    (hup : ∀ x e, g { x with bias := true, enAt := e, again := false } = g x) :
    g ((relayCheck t s).pa p) = g (s.pa p) :=
  relayCheck_keeps (fun u => g (u.pa p)) t s (setStep_keeps (fun u => g (u.pa p)) _ _ _ fun _ _ => rfl)
    (fun _ => setRstate_keeps (fun u => g (u.pa p)) _ _ _ (fun _ _ _ _ _ _ _ _ => rfl) (fun _ _ => rfl) fun _ _ => rfl)
    fun n u => seqUp_keeps (fun u => g (u.pa p)) n u (modPa_reads g _ _ _ _ hagain)
      (fun _ e => modPa_reads g _ _ _ _ fun x => hup x e) fun _ _ => rfl

theorem relayCheck_en (t p : Nat) (s : State) : ((relayCheck t s).pa p).en = (s.pa p).en :=
  relayCheck_pa Pa.en t p s (fun _ => rfl) fun _ _ => rfl
theorem relayCheck_hard (t p : Nat) (s : State) : ((relayCheck t s).pa p).hard = (s.pa p).hard :=
  relayCheck_pa Pa.hard t p s (fun _ => rfl) fun _ _ => rfl

/-- It leaves the rest of PASTAT as it was. -/
theorem relayCheck_pget (t p : Nat) (s : State) {f : Fld} (hf : f.fam = TILE_PASTAT) (hlo : 3 ≤ f.lo) :
    (relayCheck t s).pget f p = s.pget f p := by
  have hblk : f.fam.blk = .tile := by rw [hf]; rfl
  have hclk (u : State) (c : Fld) (v i : Nat) (hc : c.fam.blk = .clk) : (u.put c v i).pget f p = u.pget f p :=
    get_put_ne _ _ _ _ _ _ _ _ (.inl (by rw [hblk, hc]; decide))
  exact relayCheck_keeps (State.pget · f p) t s (setStep_keeps (State.pget · f p) _ _ _ fun _ _ => rfl)
    (fun u => setRstate_keeps (State.pget · f p) _ _ _ (fun _ _ _ _ _ _ _ _ => emit_pget (by rw [hblk]; decide))
      (fun _ _ => hclk _ _ _ _ rfl) fun _ _ => hclk _ _ _ _ rfl)
    fun n u => seqUp_keeps (State.pget · f p) n u rfl (fun _ _ => rfl) fun _ _ => pput_seq_pget _ _ _ _ hf hlo

/-! ### The enables (R171, R178) -/

theorem paBiasHigh_due {t : Nat} {s : State} (ha : (s.stepOf t).active = true) (hg : (s.stepOf t).goal = 4)
    (hb : (s.stepOf t).biased = false) :
    paBiasHigh t s = relayCheck t (forAll ((portsOf t).filter s.sequenced) seqUp
      ((s.moveTo ((s.stepOf t).begin_ + 340 * Config.us)).setStep t { s.stepOf t with biased := true })) :=
  if_neg (by simp [ha, hg, hb])

/-- Port p with PA_EN risen at tick e. -/
def paRaised (p e : Nat) (s : State) : State :=
  ((s.moveTo e).modPa p (fun x => { x with
    en := true, enAt := none
    hard := x.hard && !(s.pflag TILE_PASTAT_FLT_PIN p && !s.pflag TILE_PASTAT_FLT p) })).pput TILE_PASTAT_SEQ p 2

theorem paEnHigh_due {p e : Nat} {s : State} (h : (s.pa p).enAt = some e) :
    paEnHigh p s = relayCheck (p / 6) (paRaised p e s) := by
  unfold paEnHigh
  rw [h]
  rfl

theorem paBiasLow_due {p e : Nat} {s : State} (h : (s.pa p).offAt = some e) (ha : (s.pa p).again = false) :
    paBiasLow p s = (((s.moveTo e).modPa p (fun x => { x with bias := false, offAt := none })).pput TILE_PASTAT_SEQ p 0).modPa p
      (fun x => { x with again := false }) := by
  unfold paBiasLow
  rw [h]
  exact if_neg (by simp [ha])

/-! ### Faults (R179) -/

/-- A count of a port field leaves a field of the same register apart from it as it was. -/
theorem pget_count_apart (s : State) (f g : Fld) (n : Nat) (hf : g.fam = f.fam) (h : f.lo + f.width ≤ 32)
    (ha : g.lo + g.width ≤ f.lo ∨ f.lo + f.width ≤ g.lo) : (s.count f (n / 6) (n % 6)).pget g n = s.pget g n :=
  get_put_apart _ _ _ _ _ _ hf h ha

/-- The pin is shown low 200 ns after its fall. -/
def paPinLow (p : Nat) (s : State) : State := (s.moveTo (s.now + 200 * Config.ticksPerNs)).pput TILE_PASTAT_FLT_PIN p 0

theorem paPinLow_now (p : Nat) (s : State) : (paPinLow p s).now = s.now + 200 * Config.ticksPerNs := by
  rw [paPinLow, pput_now, moveTo_now, max_eq_right (Nat.le_add_right _ _)]

theorem paPinLow_pin (p : Nat) (s : State) : (paPinLow p s).pget TILE_PASTAT_FLT_PIN p = 0 :=
  pget_pput_same _ _ _ _ (by decide)

theorem paFault_supervised {p : Nat} {s : State} (h : s.pflag TILE_PACFG_FLT_EN p = true) :
    paFault p s = paLatch p ((paPinLow p s).count TILE_PASTAT_FLT_COUNT (p / 6) (p % 6)) :=
  if_neg (by simp [h])

theorem paFault_unsupervised {p : Nat} {s : State} (h : s.pflag TILE_PACFG_FLT_EN p = false) : paFault p s = paPinLow p s :=
  if_pos (by simp [h])

/-- Port p hard-muted with its fault latched, before its pins fall. -/
def paMuted (p : Nat) (s : State) : State := (s.modPa p (fun x => { x with hard := true })).pput TILE_PASTAT_FLT p 1

theorem paMuted_flt (p : Nat) (s : State) : (paMuted p s).pget TILE_PASTAT_FLT p = 1 := pget_pput_same _ _ _ _ (by decide)
theorem paMuted_pin (p : Nat) (s : State) : (paMuted p s).pget TILE_PASTAT_FLT_PIN p = s.pget TILE_PASTAT_FLT_PIN p :=
  pget_pput_apart _ _ _ _ _ rfl (by decide) (by decide)

theorem dropEn_pa (p : Nat) (s : State) : (dropEn p s).pa p = { s.pa p with
    en := false, enAt := none, offAt := if (s.pa p).bias then some (s.now + 5 * Config.us) else none, again := false } := by
  rw [dropEn, pput_pa, pa_modPa_same]

/-- The fall of a port's pins leaves the rest of PASTAT alone. -/
theorem dropEn_pget (n p : Nat) (s : State) {f : Fld} (hf : f.fam = TILE_PASTAT) (hlo : 3 ≤ f.lo) :
    (dropEn n s).pget f p = s.pget f p := (pput_seq_pget _ _ _ _ hf hlo).trans (modPa_pget _ _ _ _ _)

theorem paLatch_uncovered {p : Nat} {s : State} (h : s.covered 181 = false) :
    paLatch p s = relayCheck (p / 6) (dropEn p (paMuted p (emit ev_PA_FAULT 181 s (.port p) 0 p))) :=
  congrArg (relayCheck (p / 6)) (react_uncovered _ _ _ _ _ _ _ h)

/-- The reaction to a fault: the port is hard-muted without PA_EN and FLT is latched, the pin shown as it was. -/
theorem paLatch_latches {p : Nat} {s : State} (h : s.covered 181 = false) :
    ((paLatch p s).pa p).en = false ∧ ((paLatch p s).pa p).hard = true ∧ (paLatch p s).pget TILE_PASTAT_FLT p = 1 ∧
      (paLatch p s).pget TILE_PASTAT_FLT_PIN p = s.pget TILE_PASTAT_FLT_PIN p := by
  rw [paLatch_uncovered h, relayCheck_en, relayCheck_hard, dropEn_pa]
  refine ⟨rfl, ?_, ?_, ?_⟩
  · exact congrArg Pa.hard (pa_modPa_same _ _ _)
  · rw [relayCheck_pget _ _ _ rfl (by decide), dropEn_pget _ _ _ rfl (by decide), paMuted_flt]
  · rw [relayCheck_pget _ _ _ rfl (by decide), dropEn_pget _ _ _ rfl (by decide), paMuted_pin, emit_pget (by decide)]

/-- The pin is shown high, and without a latched fault or an amplifier the port is released. -/
theorem paFltHigh_shows (p : Nat) (s : State) : (paFltHigh p s).pget TILE_PASTAT_FLT_PIN p = 1 ∧
    (s.pflag TILE_PASTAT_FLT p = false → s.pflag TILE_PACFG_PA_PRESENT p = false → ((paFltHigh p s).pa p).hard = false) := by
  have hpin : (s.pput TILE_PASTAT_FLT_PIN p 1).pget TILE_PASTAT_FLT_PIN p = 1 := pget_pput_same _ _ _ _ (by decide)
  unfold paFltHigh
  refine ⟨?_, fun hflt hno => ?_⟩
  · dsimp only
    split <;> exact hpin
  · simp only [hflt, hno]
    exact congrArg Pa.hard (pa_modPa_same _ _ _)

/-- Settles O29: each command takes the branch of its hypotheses; a look at RELAY that follows neither raises nor mutes a port and
leaves FLT and its pin as they are. -/
theorem amplifierSequence : Obligations.AmplifierSequence := by
  refine fun s hs => ⟨fun t ha hg hb => ?_, fun p e he => ?_, fun p e he ha => ?_, fun p hio => ⟨?_, ?_⟩,
    fun p hio hen hc => ?_, fun p hio hen => ?_, fun p hio => ?_⟩
  · exact row_does rfl hs (paBiasHigh_due ha hg hb)
  · refine ⟨paRaised p e s, rfl, ?_, ?_, pget_pput_same _ _ _ _ (by decide), row_does rfl hs (paEnHigh_due he)⟩
    all_goals rw [paRaised, pput_pa, pa_modPa_same]
  · refine ⟨_, row_does rfl hs (paBiasLow_due he ha), rfl, ?_, ?_,
      (modPa_pget _ _ _ _ _).trans (pget_pput_same _ _ _ _ (by decide))⟩
    all_goals rw [pa_modPa_same, pput_pa, pa_modPa_same]
  · exact row_does rfl hs (pinIn_bad _ hio)
  · exact row_does rfl hs (pinIn_bad _ hio)
  · have hc' : ((paPinLow p s).count TILE_PASTAT_FLT_COUNT (p / 6) (p % 6)).covered 181 = false :=
      covered_later (s := s) rfl (le_max_left _ _) hc
    obtain ⟨hen', hhard, hflt, hpin⟩ := paLatch_latches (p := p) hc'
    refine ⟨_, row_does rfl hs ((pinIn_ok _ hio).trans (paFault_supervised hen)), hen', hhard, hflt, hpin.trans ?_⟩
    rw [pget_count_apart _ TILE_PASTAT_FLT_COUNT TILE_PASTAT_FLT_PIN _ rfl (by decide) (by decide), paPinLow_pin]
  · exact ⟨_, row_does rfl hs ((pinIn_ok _ hio).trans (paFault_unsupervised hen)), paPinLow_now p s, paPinLow_pin p s,
      rfl⟩
  · exact ⟨_, row_does rfl hs (pinIn_ok _ hio), paFltHigh_shows p s⟩

end Sys2Proof.Machine
end

section
/-!
PROOFS. The synthesizers: what the end of a calibration leaves, and what a loss of lock leaves before the radio follows the forced
caps (R174, R176).
-/
namespace Sys2Proof.Machine
open Sys2Proof

/-! ### The end of a calibration (R174) -/

theorem synth_modSynth_same (s : State) (q : Nat) (f : Synth → Synth) : (s.modSynth q f).synth q = f (s.synth q) :=
  tabGet_tabMod_same _ _ _
@[simp] theorem put_synth (s : State) (f : Fld) (v i j q : Nat) : (s.put f v i j).synth q = s.synth q := (rfl)
@[simp] theorem emit_synth (k : EvKind) (src : Nat) (s : State) (a : Area) (p0 p1 p2 p3 q : Nat) :
    (emit k src s a p0 p1 p2 p3).synth q = s.synth q := (rfl)
@[simp] theorem modSynth_now (s : State) (q : Nat) (g : Synth → Synth) : (s.modSynth q g).now = s.now := (rfl)
@[simp] theorem modSynth_get (s : State) (q : Nat) (g : Synth → Synth) (f : Fld) (i j : Nat) :
    (s.modSynth q g).get f i j = s.get f i j := (rfl)

theorem synthCalDone_due {q e : Nat} {s : State} (he : (s.synth q).calEnd = some e) (hc : (s.synth q).cmd = none) :
    synthCalDone q s = kickRadio (forAll (tilesOf q) unpin
      ((synthCald q (s.moveTo e)).modSynth q (fun y => { y with cmd := none }))) := by
  unfold synthCalDone
  simp only [he, hc]

/-- CLK_SYNSTAT of synthesizer q once its calibration has ended. -/
def synstatCald (q : Nat) (s : State) : State :=
  ((((s.put CLK_SYNSTAT_CAL_TEMP (s.get CLK_SYNSTAT_TEMP q) q).put CLK_SYNSTAT_CAL_DUE 0 q).put CLK_SYNSTAT_DRIFT 0 q).put
    CLK_SYNSTAT_CAL_RUN 0 q).put CLK_SYNSTAT_LOCK 1 q

theorem synthCald_get (q : Nat) (s : State) {f : Fld} (hf : f.fam.blk = .clk) :
    (synthCald q s).get f q = (synstatCald q s).get f q := by
  unfold synthCald
  dsimp only
  rw [emit_get (by rw [hf]; decide), modSynth_get, synstatCald]

/-- A calibration that ends shows the lock, no calibration, no drift, and the temperature it was made at. -/
theorem synstatCald_shows (q : Nat) (s : State) :
    (synstatCald q s).get CLK_SYNSTAT_LOCK q = 1 ∧ (synstatCald q s).get CLK_SYNSTAT_CAL_RUN q = 0 ∧
      (synstatCald q s).get CLK_SYNSTAT_DRIFT q = 0 ∧
      (synstatCald q s).get CLK_SYNSTAT_CAL_TEMP q = s.get CLK_SYNSTAT_TEMP q := by
  have hlock (t : State) (g : Fld) (hg : g.fam = CLK_SYNSTAT) (h : g.lo + g.width ≤ 16 ∨ 17 ≤ g.lo) :
      (t.put CLK_SYNSTAT_LOCK 1 q).get g q = t.get g q := get_put_apart _ _ _ _ _ _ hg (by decide) h
  have hrun (t : State) (g : Fld) (hg : g.fam = CLK_SYNSTAT) (h : g.lo + g.width ≤ 19 ∨ 20 ≤ g.lo) :
      (t.put CLK_SYNSTAT_CAL_RUN 0 q).get g q = t.get g q := get_put_apart _ _ _ _ _ _ hg (by decide) h
  unfold synstatCald
  refine ⟨get_put_same _ _ _ _ _ (by decide), ?_, ?_, ?_⟩
  · rw [hlock _ _ rfl (by decide)]
    exact get_put_same _ _ _ _ _ (by decide)
  · rw [hlock _ _ rfl (by decide), hrun _ _ rfl (by decide)]
    exact get_put_same _ _ _ _ _ (by decide)
  · rw [hlock _ _ rfl (by decide), hrun _ _ rfl (by decide),
      get_put_apart _ CLK_SYNSTAT_DRIFT CLK_SYNSTAT_CAL_TEMP _ _ _ rfl (by decide) (by decide),
      get_put_apart _ CLK_SYNSTAT_CAL_DUE CLK_SYNSTAT_CAL_TEMP _ _ _ rfl (by decide) (by decide),
      get_put_same _ _ _ _ _ (by decide)]
    exact Nat.mod_eq_of_lt (get_lt s CLK_SYNSTAT_TEMP q 0)

theorem synthCald_synth (q : Nat) (s : State) :
    ((synthCald q s).synth q).cald = true ∧ ((synthCald q s).synth q).calEnd = none := by
  unfold synthCald
  dsimp only
  rw [emit_synth, synth_modSynth_same]
  exact ⟨rfl, rfl⟩

/-! ### The loss of lock (R176) -/

/-- The state in which SYNTH_UNLOCK is reported: LOCK has fallen, and the ports of the quadrant are muted without PA_EN. -/
def unlockMuted (q : Nat) (s : State) : State :=
  let ports := ((tilesOf q).map portsOf).flatten
  forAll (ports ++ (tilesOf q).map (fun t => 96 + t)) (fun u t => t.modUnit u (fun x => { x with history := [] }))
    (forAll ports (fun n t => dropEn n (setRamp n 0 0 t.now t)) (s.put CLK_SYNSTAT_LOCK 0 q))

/-- The same with the report made, and the tiles of the quadrant capped unless a shadow covers the synthesizer. -/
def unlockCapped (q : Nat) (s : State) : State :=
  react ev_SYNTH_UNLOCK (177 + q) (.synth q) (fun t => forAll (tilesOf q) (fun i u => u.put CLK_TSTAT_FORCED 1 i) t)
    (unlockMuted q s) q

/-- The same with the recalibration started. -/
def unlockRecal (q : Nat) (s : State) : State :=
  ((unlockCapped q s).modSynth q (fun y =>
    { y with want := true, calEnd := some ((unlockCapped q s).now + 8 * Config.ms) })).put CLK_SYNSTAT_CAL_RUN 1 q

theorem synthUnlock_eq (q : Nat) (s : State) : synthUnlock q s = forceRadio (unlockRecal q s) := rfl

/-- The fall of LOCK apart, muting the ports changes their units, their sequencers and registers of TILE alone. -/
theorem unlockMuted_keeps {β : Type} (g : State → β) (q : Nat) (s : State) (hunit : ∀ t n f, g (State.modUnit t n f) = g t)
    (hpa : ∀ t n f, g (State.modPa t n f) = g t) (hput : ∀ t f n v, f.fam.blk = .tile → g (State.pput t f n v) = g t) :
    g (unlockMuted q s) = g (s.put CLK_SYNSTAT_LOCK 0 q) :=
  (forAll_keeps g _ _ _ fun _ _ => hunit _ _ _).trans (forAll_keeps g _ _ _ fun _ _ =>
    (hput _ _ _ _ rfl).trans ((hpa _ _ _).trans ((hput _ _ _ _ rfl).trans (hunit _ _ _))))

/-- The report and FORCED apart, nothing changes at the caps. -/
theorem unlockCapped_keeps {β : Type} (g : State → β) (q : Nat) (s : State)
    (hemit : ∀ k src t a p0 p1 p2 p3, g (emit k src t a p0 p1 p2 p3) = g t)
    (hput : ∀ t, ∀ i ∈ tilesOf q, g (State.put t CLK_TSTAT_FORCED 1 i) = g t) :
    g (unlockCapped q s) = g (unlockMuted q s) := by
  unfold unlockCapped react
  dsimp only
  split
  · exact hemit ..
  · exact forAll_inv (fun t => g t = g (unlockMuted q s)) _ _ _ (hemit ..) fun i hi t ht => (hput t i hi).trans ht

theorem unlockMuted_now (q : Nat) (s : State) : (unlockMuted q s).now = s.now :=
  (unlockMuted_keeps State.now q s (fun _ _ _ => rfl) (fun _ _ _ => rfl) fun _ _ _ _ _ => rfl).trans (put_now _ _ _ _ _)
theorem unlockMuted_flt (q : Nat) (s : State) : (unlockMuted q s).flt = s.flt :=
  (unlockMuted_keeps State.flt q s (fun _ _ _ => rfl) (fun _ _ _ => rfl) fun _ _ _ _ _ => rfl).trans (put_flt _ _ _ _ _)

theorem unlockCapped_now (q : Nat) (s : State) : (unlockCapped q s).now = s.now :=
  (unlockCapped_keeps State.now q s emit_now fun _ _ _ => rfl).trans (unlockMuted_now q s)

theorem unlockMuted_lock (q : Nat) (s : State) : (unlockMuted q s).get CLK_SYNSTAT_LOCK q = 0 := by
  rw [unlockMuted_keeps (State.get · CLK_SYNSTAT_LOCK q) q s (fun _ _ _ => rfl) (fun _ _ _ => rfl)
    fun t f n v hf => get_put_ne _ _ _ _ _ _ _ _ (.inl (by rw [hf]; decide))]
  exact get_put_same _ _ _ _ _ (by decide)

/-- No tile's CLK_TSTAT is a synthesizer's CLK_SYNSTAT. -/
theorem regOff_synstat_ne_tstat (q : Nat) {t : Nat} (ht : t < 16) : regOff CLK_SYNSTAT q 0 ≠ regOff CLK_TSTAT t 0 := by
  simp only [regOff, CLK_SYNSTAT, CLK_TSTAT]
  omega

theorem mem_tilesOf {q t : Nat} : t ∈ tilesOf q ↔ ∃ i < 4, 4 * q + i = t := by
  simp [tilesOf]

theorem unlockCapped_lock {q : Nat} (s : State) (hq : q < 4) : (unlockCapped q s).get CLK_SYNSTAT_LOCK q = 0 := by
  rw [unlockCapped_keeps (State.get · CLK_SYNSTAT_LOCK q) q s (fun _ _ _ _ _ _ _ _ => emit_get (by decide))
    fun t i hi => ?_, unlockMuted_lock]
  obtain ⟨k, hk, rfl⟩ := mem_tilesOf.1 hi
  exact get_put_ne _ CLK_TSTAT_FORCED CLK_SYNSTAT_LOCK _ _ _ _ _ (.inr (regOff_synstat_ne_tstat q (by omega)))

/-- Every tile of the quadrant is capped where no shadow covers the synthesizer. -/
theorem unlockCapped_forced {q i : Nat} {s : State} (hc : s.covered (177 + q) = false) (hi : i < 4) :
    (unlockCapped q s).get CLK_TSTAT_FORCED (4 * q + i) = 1 := by
  have hset (t : State) : (t.put CLK_TSTAT_FORCED 1 (4 * q + i)).get CLK_TSTAT_FORCED (4 * q + i) = 1 :=
    get_put_same _ _ _ _ _ (by decide)
  rw [unlockCapped, react_uncovered _ _ _ _ _ _ _ (covered_later (unlockMuted_flt q s) (unlockMuted_now q s).ge hc)]
  refine forAll_reach (fun t : State => t.get CLK_TSTAT_FORCED (4 * q + i) = 1) _ _ (mem_tilesOf.2 ⟨i, hi, rfl⟩) hset
    fun k _ t ht => ?_
  by_cases hk : 4 * q + i = k
  · subst hk
    exact hset t
  · exact (get_put_ne _ CLK_TSTAT_FORCED CLK_TSTAT_FORCED _ _ _ _ _ (.inr (regOff_ne (f := CLK_TSTAT) 0 (by decide) hk))).trans ht

theorem unlockRecal_synth (q : Nat) (s : State) : (unlockRecal q s).synth q =
    { (unlockCapped q s).synth q with want := true, calEnd := some (s.now + 8 * Config.ms) } := by
  rw [unlockRecal, put_synth, synth_modSynth_same, unlockCapped_now]

theorem unlockRecal_run (q : Nat) (s : State) : (unlockRecal q s).get CLK_SYNSTAT_CAL_RUN q = 1 :=
  get_put_same _ _ _ _ _ (by decide)

theorem unlockRecal_lock {q : Nat} (s : State) (hq : q < 4) : (unlockRecal q s).get CLK_SYNSTAT_LOCK q = 0 := by
  rw [unlockRecal, get_put_apart _ CLK_SYNSTAT_CAL_RUN CLK_SYNSTAT_LOCK _ _ _ rfl (by decide) (by decide), modSynth_get,
    unlockCapped_lock s hq]

theorem unlockRecal_forced {q i : Nat} {s : State} (hq : q < 4) (hc : s.covered (177 + q) = false) (hi : i < 4) :
    (unlockRecal q s).get CLK_TSTAT_FORCED (4 * q + i) = 1 := by
  rw [unlockRecal, get_put_ne _ CLK_SYNSTAT_CAL_RUN CLK_TSTAT_FORCED _ _ _ _ _
    (.inr (regOff_synstat_ne_tstat q (by omega)).symm), modSynth_get, unlockCapped_forced hc hi]

/-- Settles O30: the end of a calibration is read field by field; what a loss of lock leaves before the radio follows the caps is
`unlockRecal`. -/
theorem synthesizerEvents : Obligations.SynthesizerEvents := by
  refine fun s q hs => ⟨fun e he hc => row_does rfl hs (synthCalDone_due he hc), fun t => ?_, unlockRecal q s, ?_⟩
  · obtain ⟨hlock, hrun, hdrift, htemp⟩ := synstatCald_shows q t
    exact ⟨decide_eq_true ((synthCald_get _ _ rfl).trans hlock), (synthCald_get _ _ rfl).trans hrun,
      (synthCald_get _ _ rfl).trans hdrift, (synthCald_get _ _ rfl).trans htemp, synthCald_synth _ _⟩
  · rw [unlockRecal_synth]
    exact ⟨unlockRecal_lock s q.isLt, unlockRecal_run q s, rfl, rfl, fun hc i hi => unlockRecal_forced q.isLt hc hi,
      row_does rfl hs (synthUnlock_eq q s)⟩

end Sys2Proof.Machine
end

section
/-!
PROOFS. Quiet requests and grants, inbound and outbound, with what CLK_QSTAT shows of them, and the transmit gate at the end of a
block (R181-R183, R193, R405).
-/
namespace Sys2Proof.Machine
open Sys2Proof

/-! ### Quiet entries -/

@[simp] theorem quiet_modQuiet_same (s : State) (e : Nat) (f : Quiet → Quiet) : (s.modQuiet e f).quiet e = f (s.quiet e) :=
  tabGet_tabMod_same _ _ _
@[simp] theorem modQuiet_now (s : State) (e : Nat) (f : Quiet → Quiet) : (s.modQuiet e f).now = s.now := (rfl)
@[simp] theorem modQuiet_get (s : State) (e : Nat) (g : Quiet → Quiet) (f : Fld) (i j : Nat) :
    (s.modQuiet e g).get f i j = s.get f i j := (rfl)
@[simp] theorem put_quiet (s : State) (f : Fld) (v i j e : Nat) : (s.put f v i j).quiet e = s.quiet e := (rfl)
@[simp] theorem count_quiet (s : State) (f : Fld) (i j n e : Nat) : (s.count f i j n).quiet e = s.quiet e := (rfl)
@[simp] theorem moveTo_quiet (s : State) (t e : Nat) : (s.moveTo t).quiet e = s.quiet e := (rfl)
@[simp] theorem emit_quiet (k : EvKind) (src : Nat) (s : State) (a : Area) (p0 p1 p2 p3 e : Nat) :
    (emit k src s a p0 p1 p2 p3).quiet e = s.quiet e := (rfl)

theorem put_req (s : State) (b : Bool) (e : Nat) : (s.put CLK_QSTAT_REQ (bit b) e).get CLK_QSTAT_REQ e = bit b :=
  (get_put_same _ _ _ _ _ (by decide)).trans (Nat.mod_eq_of_lt (bit_lt_two b))
theorem put_gnt (s : State) (b : Bool) (e : Nat) : (s.put CLK_QSTAT_GNT (bit b) e).get CLK_QSTAT_GNT e = bit b :=
  (get_put_same _ _ _ _ _ (by decide)).trans (Nat.mod_eq_of_lt (bit_lt_two b))

/-! ### Inbound requests (R182) -/

/-- An inbound request is recognised and shown 3 samples of 25.6 MHz after its rise or its fall. -/
def qreqSeen (q : Nat) (b : Bool) (s : State) : State := (s.moveTo (s.now + 120000)).put CLK_QSTAT_REQ (bit b) q

theorem qreqSeen_now (q : Nat) (b : Bool) (s : State) : (qreqSeen q b s).now = s.now + 120000 := by
  rw [qreqSeen, put_now, moveTo_now, max_eq_right (Nat.le_add_right _ _)]

theorem qreqRise_enabled {q : Nat} {s : State} (h : s.flag CLK_QCTL_EN q = true) :
    qreqRise q s = ((qreqSeen q true s).count CLK_QSTAT_COUNT q).modQuiet q (fun x =>
      { x with req := true, on := true, since := (qreqSeen q true s).sampleBase }) := if_pos h

theorem qreqRise_disabled {q : Nat} {s : State} (h : s.flag CLK_QCTL_EN q = false) :
    qreqRise q s = emit ev_QREQ_IGNORED (182 + q) ((qreqSeen q true s).modQuiet q (fun x => { x with req := true })) :=
  if_neg (ne_true_of_eq_false h)

theorem qreqFall_eq (q : Nat) (s : State) :
    qreqFall q s = ((qreqSeen q false s).put CLK_QSTAT_GNT 0 q).modQuiet q (fun _ => {}) := rfl

/-! ### Inbound grants (R182) -/

/-- The moment of a grant: once the last covered transmit stream has faded, at once where every covered output counts as quiet. -/
def grantMoment (q : Nat) (s : State) : State :=
  match s.quietTx q with
  | some n => s.moveTo ((s.quiet q).since + (1 + 40 + n + 8) * Config.subSample)
  | none => s

theorem grantMoment_quiet (q e : Nat) (s : State) : (grantMoment q s).quiet e = s.quiet e := by
  unfold grantMoment
  split <;> rfl

theorem le_grantMoment {q n : Nat} {s : State} (h : s.quietTx q = some n) :
    (s.quiet q).since + (1 + 40 + n + 8) * Config.subSample ≤ (grantMoment q s).now := by
  unfold grantMoment
  rw [h]
  exact le_max_right _ _

theorem qgrant_due {q : Nat} {s : State} (hon : (s.quiet q).on = true) (hgnt : (s.quiet q).gnt = false)
    (hreq : (s.quiet q).req = true) :
    qgrant q s = emit ev_QGRANT (182 + q)
      (((grantMoment q s).put CLK_QSTAT_GNT 1 q).modQuiet q (fun y => { y with gnt := true })) :=
  if_neg (by simp [hon, hgnt, hreq])

/-! ### Outbound requests (R183) -/

theorem qgntTimeout_due {i t : Nat} {s : State} (ht : (s.quiet (4 + i)).tmoAt = some t)
    (hreq : (s.quiet (4 + i)).req = true) (hgnt : (s.quiet (4 + i)).gnt = false) :
    qgntTimeout i s =
      emit ev_QGNT_TIMEOUT (186 + i) ((s.moveTo t).modQuiet (4 + i) (fun x => { x with tmoAt := none })) := by
  unfold qgntTimeout
  rw [ht]
  exact if_pos (by simp [hreq, hgnt])

/-- Settles O31: each command takes the branch of its hypotheses, and a pin is seen while bank 6 is at a good level. -/
theorem quietAndGateEvents : Obligations.QuietAndGateEvents := by
  refine fun s hs => ⟨fun q hio hen => ?_, fun q hio hen => ?_, fun q hon hgnt hreq => ?_, fun q hio => ?_, fun q hio => ?_,
    fun q hio => ?_, fun q t ht hreq hgnt => ?_, row_next gateBlockEnd hs⟩
  · refine ⟨_, row_does rfl hs ((pinIn_ok _ hio).trans (qreqRise_enabled hen)), ?_, ?_, ?_, ?_⟩
    · rw [modQuiet_now, count_now, qreqSeen_now]
    · rw [modQuiet_get, State.count, get_put_apart _ CLK_QSTAT_COUNT CLK_QSTAT_REQ _ _ _ rfl (by decide) (by decide)]
      exact put_req _ true _
    all_goals rw [quiet_modQuiet_same]
  · refine ⟨_, row_does rfl hs ((pinIn_ok _ hio).trans (qreqRise_disabled hen)), ?_, ?_, ?_, ?_⟩
    · rw [emit_now, modQuiet_now, qreqSeen_now]
    · rw [emit_get (by decide), modQuiet_get]
      exact put_req _ true _
    · rw [emit_quiet, quiet_modQuiet_same]
    · rw [emit_quiet, quiet_modQuiet_same, qreqSeen, put_quiet, moveTo_quiet]
  · refine ⟨_, row_does rfl hs (qgrant_due hon hgnt hreq), ?_, ?_, fun n hn => ?_⟩
    · rw [emit_get (by decide), modQuiet_get]
      exact put_gnt _ true _
    · rw [emit_quiet, quiet_modQuiet_same]
    · rw [emit_now, modQuiet_now, put_now]
      exact le_grantMoment hn
  · refine ⟨_, row_does rfl hs ((pinIn_ok _ hio).trans (qreqFall_eq _ _)), ?_, ?_, ?_, quiet_modQuiet_same _ _ _⟩
    · rw [modQuiet_now, put_now, qreqSeen_now]
    · rw [modQuiet_get, get_put_apart _ CLK_QSTAT_GNT CLK_QSTAT_REQ _ _ _ rfl (by decide) (by decide)]
      exact put_req _ false _
    · rw [modQuiet_get]
      exact put_gnt _ false _
  · refine ⟨_, row_does rfl hs (pinIn_ok _ hio), ?_⟩
    rw [qgntRise, modQuiet_get, quiet_modQuiet_same]
    exact ⟨put_gnt _ true _, rfl, rfl⟩
  · refine ⟨_, row_does rfl hs (pinIn_ok _ hio), ?_⟩
    rw [qgntFall, modQuiet_get, quiet_modQuiet_same, put_quiet]
    exact ⟨put_gnt _ false _, rfl⟩
  · exact ⟨_, row_does rfl hs (qgntTimeout_due ht hreq hgnt), rfl, by rw [emit_quiet, quiet_modQuiet_same]⟩

end Sys2Proof.Machine
end

section
/-!
PROOFS. Volleys from their validation to their apply beat: the row that refuses one, the beat it is staged for, and what its beat
brings (R197, R199, R226, R228-R231, R271).
-/
namespace Sys2Proof.Machine
open Sys2Proof

/-- What `f` makes of the state is the own effect of an event that may change the locked pages. -/
theorem rowLock_does {i : Instr} {f : State → State} {s u : State} (hi : exec i s = rowLock f s) (hs : s.awake) (hu : f s = u) :
    DoesL i s u := by
  unfold DoesL
  rw [hi, rowLock_next f hs, hu]

@[simp] theorem slot_setSlot_same (s : State) (v : Nat) (x : Slot) : (s.setSlot v x).slot v = x := tabGet_tabSet_same _ _ _
theorem slot_setSlot_ne (s : State) {v w : Nat} (x : Slot) (h : w ≠ v) : (s.setSlot v x).slot w = s.slot w :=
  tabGet_tabSet_ne _ _ h

/-! ### Validation (R197, R226, R228, R231) -/

theorem stage_slot (v : Nat) (s : State) : (stage v s).slot v = { s.slot v with st := .staged, beat := s.finalBeat v } :=
  slot_setSlot_same _ _ _

/-- A late Volley that does not ask for the next beat is refused with LATE; any other is staged (R226). -/
def stageUnlessLate (v : Nat) (s : State) : State :=
  if s.late v && !(s.slot v).nextBeat then refuseVolley v stLATE s else stage v s

theorem stageUnlessLate_late {v : Nat} {s : State} (hl : s.late v = true) (hn : (s.slot v).nextBeat = false) :
    stageUnlessLate v s = refuseVolley v stLATE s := if_pos (by simp [hl, hn])

theorem stageUnlessLate_stages {v : Nat} {s : State} (h : s.late v = false ∨ (s.slot v).nextBeat = true) :
    stageUnlessLate v s = stage v s := if_neg (by simpa [or_iff_not_imp_left] using h)

section
variable {v : Nat} {s : State} (hv : v < 4) (hst : (s.slot v).st = .validating) (hans : (s.slot v).answers = [])
include hv hst hans

theorem volleyValidation_tooLarge (hl : (s.slot v).tooLarge = true) : volleyValidation v s = refuseVolley v stTOO_LARGE s := by
  unfold volleyValidation
  dsimp only
  rw [if_neg (by simp [hst, hans, hv]), if_pos hl]

section
variable (hl : (s.slot v).tooLarge = false)
include hl

/-- A protected Volley is refused by the row that its COMMIT found (R197). -/
theorem volleyValidation_lockEarly (hp : (s.slot v).prot = true) {st : Nat} (he : (s.slot v).early = some st) :
    volleyValidation v s = refuseLock v st 0 s := by
  unfold volleyValidation
  dsimp only
  rw [if_neg (by simp [hst, hans, hv]), if_neg (by simp [hl]), if_pos hp, he]

/-- Then its signatures are verified, and its lateness is looked at (R197). -/
theorem volleyValidation_signatures (hp : (s.slot v).prot = true) (he : (s.slot v).early = none) : volleyValidation v s =
    if s.sigFails v ≠ 0 then refuseLock v stSIGNATURE_INVALID (s.sigFails v) s else stageUnlessLate v s := by
  unfold volleyValidation
  dsimp only
  rw [if_neg (by simp [hst, hans, hv]), if_neg (by simp [hl]), if_pos hp, he]
  rfl

/-- An ordinary Volley: rows 2 to 5 first (R228). -/
theorem volleyValidation_earlyRow (hp : (s.slot v).prot = false) {st i : Nat} (hrow : earlyRows v s = some (st, i)) :
    volleyValidation v s = refuseVolley v st s i := by
  unfold volleyValidation
  dsimp only
  rw [if_neg (by simp [hst, hans, hv]), if_neg (by simp [hl]), if_neg (by simp [hp]), hrow]

section
variable (hp : (s.slot v).prot = false) (hrow : earlyRows v s = none)
include hp hrow

/-- Then the checks of the blocks (R228). -/
theorem volleyValidation_blockRow (hk : (s.slot v).stack = false) {st i : Nat}
    (hb : blockChecks s ((s.slot v).writesFor 0) false s.fab.sends = some (st, i)) :
    volleyValidation v s = refuseVolley v st s i := by
  unfold volleyValidation
  dsimp only
  rw [if_neg (by simp [hst, hans, hv]), if_neg (by simp [hl]), if_neg (by simp [hp]), hrow, hb]
  exact if_neg (by simp [hk])

/-- Then lateness (R226, R228). -/
theorem volleyValidation_passes (hk : (s.slot v).stack = false)
    (hb : blockChecks s ((s.slot v).writesFor 0) false s.fab.sends = none) :
    volleyValidation v s = stageUnlessLate v s := by
  unfold volleyValidation
  dsimp only
  rw [if_neg (by simp [hst, hans, hv]), if_neg (by simp [hl]), if_neg (by simp [hp]), hrow, hb]
  exact if_neg (by simp [hk])

/-- A stack Volley in time is sent for agreement (R231). -/
theorem volleyValidation_prepares (hk : (s.slot v).stack = true) (hlate : s.late v = false) :
    volleyValidation v s = prepare v s := by
  unfold volleyValidation
  dsimp only
  rw [if_neg (by simp [hst, hans, hv]), if_neg (by simp [hl]), if_neg (by simp [hp]), hrow]
  exact (if_pos hk).trans (if_neg (by simp [hlate]))
end
end
end

/-- Settles O37: each case is the branch of its hypotheses, in the order of the rows. -/
theorem validationStagesOrRefuses : Obligations.ValidationStagesOrRefuses := by
  refine fun s v hs hst hans => ⟨fun hl => ?_, fun hl hp => ⟨fun st i hrow => ?_, fun hrow hk => ?_, fun hrow hk hlate => ?_⟩,
    fun hl hp => ⟨fun st he => ?_, fun he => ?_⟩⟩
  · exact row_does rfl hs (volleyValidation_tooLarge v.isLt hst hans hl)
  · exact row_does rfl hs (volleyValidation_earlyRow v.isLt hst hans hl hp hrow)
  · refine ⟨fun st i hb => row_does rfl hs (volleyValidation_blockRow v.isLt hst hans hl hp hrow hk hb), fun hb => ?_⟩
    have hpass := volleyValidation_passes v.isLt hst hans hl hp hrow hk hb
    refine ⟨fun hlate hn => row_does rfl hs (hpass.trans (stageUnlessLate_late hlate hn)), fun h => ⟨stage v s, ?_, ?_⟩⟩
    · exact row_does rfl hs (hpass.trans (stageUnlessLate_stages h))
    · rw [stage_slot]
      exact ⟨rfl, rfl, rfl⟩
  · exact row_does rfl hs (volleyValidation_prepares v.isLt hst hans hl hp hrow hk hlate)
  · exact row_does rfl hs (volleyValidation_lockEarly v.isLt hst hans hl hp he)
  · have hsigned := volleyValidation_signatures v.isLt hst hans hl hp he
    refine ⟨fun hsig => row_does rfl hs (hsigned.trans (if_pos hsig)), fun hsig hlate hn => ?_, fun hsig h => ⟨stage v s, ?_, ?_⟩⟩
    · exact row_does rfl hs (hsigned.trans ((if_neg (not_not.2 hsig)).trans (stageUnlessLate_late hlate hn)))
    · exact row_does rfl hs (hsigned.trans ((if_neg (not_not.2 hsig)).trans (stageUnlessLate_stages h)))
    · rw [stage_slot]
      exact ⟨rfl, rfl⟩

/-! ### The apply beat (R199, R229) -/

section
variable {v : Nat} {s : State} (hst : (s.slot v).st = .staged) (hnext : s.nextStaged = some v)
include hst hnext

theorem volleyApply_ordinary (hp : (s.slot v).prot = false) (hk : (s.slot v).stack = false) (hv : v < 4) : volleyApply v s =
    (let t := s.moveTo (s.beatTick (s.slot v).beat)
     let w := (s.slot v).writesFor 0
     let u := refreshPast (1024 * (s.slot v).beat) (applyWrites w t)
     completeVolley v (s.slot v).cTag stSUCCESS (sendMirror (writtenNow w u) u) ((s.slot v).beat % 2 ^ 32)) := by
  unfold volleyApply
  dsimp only
  rw [if_neg (by simp [hst, hnext]), if_neg (by simp [hp]), if_neg (by omega : ¬4 ≤ v), if_neg (by simp [hk])]
  simp [hk]

theorem volleyApply_sealed (hp : (s.slot v).prot = true) (hs : (s.slot v).sealedAt ≠ none) : volleyApply v s =
    (let t := s.moveTo (s.beatTick (s.slot v).beat)
     let r := (s.slot v).record.getD []
     lockInForce (recKind r) (recEntries r) (t.get PST_LOCKGEN_GEN + 1) (t.setSlot v { s.slot v with applied := true })) := by
  unfold volleyApply
  dsimp only
  rw [if_neg (by simp [hst, hnext]), if_pos hp]
  exact if_neg (by simpa using hs)

theorem volleyApply_unsealed (hp : (s.slot v).prot = true) (hs : (s.slot v).sealedAt = none) : volleyApply v s = s := by
  unfold volleyApply
  dsimp only
  rw [if_neg (by simp [hst, hnext]), if_pos hp]
  exact if_pos (by simp [hs])
end

/-- Settles O21: the next staged Volley takes the branch of its kind; for an ordinary one the mirror and the completion see the
state after its writes and the refreshed settings. -/
theorem volleyAppliesAtItsBeat : Obligations.VolleyAppliesAtItsBeat := by
  refine fun s v hs hst hnext => ⟨fun hp hk hv => ?_, fun hp hseal => ?_, fun hp hseal => ?_⟩
  · exact rowLock_does rfl hs (volleyApply_ordinary hst hnext hp hk hv)
  · exact rowLock_does rfl hs (volleyApply_sealed hst hnext hp hseal)
  · exact rowLock_does rfl hs (volleyApply_unsealed hst hnext hp hseal)

end Sys2Proof.Machine
end

section
/-!
PROOFS. Persistent registers: the offset of each leads to it, and a write of one takes effect, counts and queues the commit of its
page (R192, R202, R203, R424).
-/
namespace Sys2Proof.Machine
open Sys2Proof

/-! ### The persistent registers in BAR0 (R424) -/

theorem lt_of_persistReg {n : Nat} {e : RegFam × Nat} (h : persistReg n = some e) : n < 71 := by
  by_contra hn
  rw [persistReg] at h
  repeat rw [if_neg (by omega)] at h
  exact Option.some_ne_none _ h.symm

/-- None of them is staged, locked or a counter, and none lies in the blocks that reports and the store's own marks write. -/
theorem persistReg_access : ∀ n < 71, ∀ e ∈ (persistReg n).toList, e.1.rws = 0 ∧ e.1.rwl = 0 ∧ e.1 ∉ counterFams ∧
    e.1.blk ∉ [Blk.flt, .hif, .pst] := by
  decide +kernel

/-- The offset of each lies in BAR0 and leads to it. -/
theorem persistReg_decode : ∀ n < 71, ∀ e ∈ (persistReg n).toList, regOff e.1 e.2 0 < 0x400000 ∧
    blkOf (regOff e.1 e.2 0) = some e.1.blk ∧ findFam (famsOf e.1.blk) (regOff e.1 e.2 0) = some (e.1, e.2, 0) ∧
    persistIdx (regOff e.1 e.2 0) = some n := by
  decide +kernel

section
variable {n i : Nat} {f : RegFam} (h : persistReg n = some (f, i))
include h

theorem persistReg_blk : f.blk ∉ [Blk.flt, .hif, .pst] := by
  obtain ⟨-, -, -, hblk⟩ := persistReg_access n (lt_of_persistReg h) (f, i) (Option.mem_toList.2 h)
  exact hblk

/-- While the firmware runs, a direct write of one is discarded where its page is locked, and else passes the checks of its register
(R192). -/
theorem wordWrite_persistent (v : Word) {s : State} (hr : s.running = true) : wordWrite (regOff f i 0) v s =
    if s.mapLocked n then discard (regOff f i 0) false s else persistDispatch n f i v s := by
  obtain ⟨hrws, hrwl, hcnt, -⟩ := persistReg_access n (lt_of_persistReg h) (f, i) (Option.mem_toList.2 h)
  obtain ⟨-, hblk, hfind, hidx⟩ := persistReg_decode n (lt_of_persistReg h) (f, i) (Option.mem_toList.2 h)
  dsimp only at hrws hrwl hcnt hblk hfind hidx
  simp [wordWrite, famWrite, drop, hr, hblk, hfind, hrws, hrwl, hcnt, hidx]

theorem persistentWrite_does {v : Word} {s u : State} (hl : s.linked) (hu : wordWrite (regOff f i 0) v s = u) :
    DoesP (.persistentWrite (regOff f i 0) v) s u := by
  obtain ⟨hoff, -⟩ := persistReg_decode n (lt_of_persistReg h) (f, i) (Option.mem_toList.2 h)
  show execPersistentWrite _ v s = _
  unfold execPersistentWrite
  rw [if_neg (not_le.2 hoff), hostReg_next _ _ hl, hu]
end

/-- A register without checks of its own takes the write as it is. -/
theorem persistDispatch_unchecked {f : RegFam} (n i : Nat) (v : Word) (s : State)
    (h : f ∉ [GLB_BOOTCTL, PWR_THCFG, MEA_CMPCFG_P, RPS_CFG, RPS_SHEDCFG]) :
    persistDispatch n f i v s = persistWrite n v.toNat s := by
  simp only [List.mem_cons, List.not_mem_nil, or_false, not_or] at h
  obtain ⟨h1, h2, h3, h4, h5⟩ := h
  rw [persistDispatch, if_neg h1, if_neg h2, if_neg h3, if_neg h4, if_neg h5]

/-! ### A write below the endurance limit (R202, R203) -/

/-- A report leaves every register alone outside FLT and HIF. -/
theorem emit_word (k : EvKind) (src : Nat) (s : State) (a : Area) (p0 p1 p2 p3 : Nat) {f : RegFam} (i j : Nat)
    (h : f.blk ≠ .flt ∧ f.blk ≠ .hif) : (emit k src s a p0 p1 p2 p3).word f i j = s.word f i j := by
  obtain ⟨hflt, hhif⟩ := h
  have hregs : regsOf (emit k src s a p0 p1 p2 p3).regs f.blk = regsOf s.regs f.blk := by
    cases hb : f.blk with
    | flt => exact absurd hb hflt
    | hif => exact absurd hb hhif
    | _ => rfl
  unfold State.word regWord
  rw [hregs, emit_part]

/-- Counting a write leaves alone whatever neither the counters, nor the marks in PST, nor a report touch. -/
theorem countWrite_keeps {β : Type} (g : State → β) (i : Nat) (s : State) (hlt : tabGet s.pst.counts i < wearLimit)
    (hbit : ∀ f t, f.fam.blk = .pst → g (State.putBit t f i true) = g t) (hemit : ∀ k t, g (emit k 240 t) = g t) :
    g (countWrite i s) =
      g { s with pst := { s.pst with counts := tabSet s.pst.counts i (tabGet s.pst.counts i + 1) } } := by
  unfold countWrite
  dsimp only
  rw [if_neg (not_le.2 hlt), apply_ite g, apply_ite g, hemit, hbit PST_VOLATILE_PAGES _ rfl, apply_ite g, hemit,
    hbit PST_WEARWARN_PAGES _ rfl, ite_self, ite_self]

theorem countWrite_pst {i : Nat} {s : State} (hlt : tabGet s.pst.counts i < wearLimit) : (countWrite i s).pst =
    { s.pst with counts := tabSet s.pst.counts i (tabGet s.pst.counts i + 1) } :=
  countWrite_keeps State.pst i s hlt (fun _ _ _ => rfl) (fun _ _ => emit_pst ..)

theorem countWrite_word {n : Nat} {s : State} (hlt : tabGet s.pst.counts n < wearLimit) {f : RegFam} (i j : Nat)
    (hf : f.blk ∉ [Blk.flt, .hif, .pst]) : (countWrite n s).word f i j = s.word f i j := by
  simp only [List.mem_cons, List.not_mem_nil, or_false, not_or] at hf
  obtain ⟨hflt, hhif, hpst⟩ := hf
  refine countWrite_keeps (State.word · f i j) n s hlt (fun g t hg => ?_) (fun k t => emit_word _ _ _ _ _ _ _ _ _ _ ⟨hflt, hhif⟩)
  exact word_putWord_ne _ _ _ _ _ _ _ _ (.inl (by rwa [hg]))

section
variable {n j : Nat} {f : RegFam} (v : Nat) {s : State} (h : persistReg n = some (f, j))

/-- The writable bits of a persistent register from `v`, the others as they were (R4). -/
def State.persistWord (s : State) (f : RegFam) (j v : Nat) : Word :=
  (s.word f j &&& BitVec.ofNat 32 (2 ^ 32 - 1 - (f.rwp ||| f.rw))) ||| (BitVec.ofNat 32 v &&& BitVec.ofNat 32 (f.rwp ||| f.rw))

/-- The register holds the value, and its write is counted. -/
def persistCounted (n : Nat) (f : RegFam) (j v : Nat) (s : State) : State := countWrite n (s.putWord f (s.persistWord f j v) j)

/-- A page commit waits behind the others (R202). -/
def queueCommit (c : Commit) (s : State) : State := { s with pst := { s.pst with queue := s.pst.queue ++ [c] } }

/-- The commit of the value a write leaves (R202). -/
def State.commitOf (s : State) (n : Nat) (f : RegFam) (j v : Nat) : Commit :=
  { page := 128 + n, value := (s.persistWord f j v).toNat, count := tabGet s.pst.counts n + 1 }

variable (hlt : tabGet s.pst.counts n < wearLimit)
include hlt

theorem persistCounted_pst : (persistCounted n f j v s).pst =
    { s.pst with counts := tabSet s.pst.counts n (tabGet s.pst.counts n + 1) } :=
  countWrite_pst (s := s.putWord f (s.persistWord f j v) j) hlt

include h

theorem persistCounted_word : (persistCounted n f j v s).word f j = s.persistWord f j v :=
  (countWrite_word (s := s.putWord f (s.persistWord f j v) j) hlt _ _ (persistReg_blk h)).trans (word_putWord_same _ _ _ _ _)

variable (hpf : s.pst.lowPf = false)
include hpf

theorem persistWrite_queues : persistWrite n v s = queueCommit (s.commitOf n f j v) (persistCounted n f j v s) := by
  have hlow : (persistCounted n f j v s).pst.lowPf = false := by rwa [persistCounted_pst v hlt]
  unfold persistWrite
  rw [h]
  exact (if_neg (ne_true_of_eq_false hlow)).trans (if_neg (not_le.2 hlt))

theorem persistWrite_word : (persistWrite n v s).word f j = s.persistWord f j v := by
  rw [persistWrite_queues v h hlt hpf]
  exact persistCounted_word v h hlt

theorem persistWrite_counts : (persistWrite n v s).pst.counts = tabSet s.pst.counts n (tabGet s.pst.counts n + 1) := by
  rw [persistWrite_queues v h hlt hpf, queueCommit, persistCounted_pst v hlt]

theorem persistWrite_queue : (persistWrite n v s).pst.queue = s.pst.queue ++ [s.commitOf n f j v] := by
  rw [persistWrite_queues v h hlt hpf, queueCommit, persistCounted_pst v hlt]
end

/-- Settles O33: below the limit a write is `persistCounted` with its commit queued behind; a BAR0 write is decoded to its
register, whose page is locked or not. -/
theorem persistentWritesTakeEffectAndQueue : Obligations.PersistentWritesTakeEffectAndQueue := by
  refine ⟨fun s n v f j h hpf hlt => ?_, fun s n f i v h hl hr => ⟨fun hm => ?_, fun hm => ?_, fun hf => ?_⟩⟩
  · dsimp only
    rw [persistWrite_word v h hlt hpf, persistWrite_counts v h hlt hpf]
    exact ⟨rfl, persistWrite_queue v h hlt hpf, tabGet_tabSet_same _ _ _, fun k hk => tabGet_tabSet_ne _ _ hk⟩
  · exact persistentWrite_does h hl ((wordWrite_persistent h v hr).trans (if_pos hm))
  · exact persistentWrite_does h hl ((wordWrite_persistent h v hr).trans (if_neg (ne_true_of_eq_false hm)))
  · exact persistDispatch_unchecked _ _ _ _ (by rcases hf with rfl | rfl | rfl | rfl <;> decide)

end Sys2Proof.Machine
end

section
/-!
PROOFS. The events of the persistent store: the end of a nonce, the journal and the completion of a locked change, LOCK_BUSY, the
commit of a page, the operating-time cells; and what ring traffic leaves alone (R196, R199, R202, R208, R209).
-/
namespace Sys2Proof.Machine
open Sys2Proof

/-! ### What ring traffic leaves alone (R213, R221, R222, R244) -/

/-- What `g` reads is no ring, no entry in host memory, no interrupt, and no register of HIF. -/
structure OffRings {β : Type} (g : State → β) : Prop where
  rings : ∀ t x, g { t with hif := { t.hif with rings := x } } = g t
  cpl : ∀ t x, g { t with hif := { t.hif with cpl := x } } = g t
  evt : ∀ t x, g { t with hif := { t.hif with evt := x } } = g t
  msi : ∀ t x, g { t with hif := { t.hif with msi := x } } = g t
  put : ∀ t f v i j, f.fam.blk = .hif → g (State.put t f v i j) = g t

section
variable {β : Type} {g : State → β} (h : OffRings g)
include h

theorem OffRings.modRing (s : State) (k : RKind) (i : Nat) (f : Ring → Ring) : g (s.modRing k i f) = g s := h.rings _ _

theorem OffRings.issueVector (v : Nat) (s : State) : g (issueVector v s) = g s := by
  unfold Machine.issueVector
  split
  · exact h.put _ _ _ _ _ rfl
  · exact h.msi _ _

theorem OffRings.noteEntry (k : RKind) (i : Nat) (s : State) : g (noteEntry k i s) = g s := by
  unfold Machine.noteEntry signalRing
  dsimp only
  split
  · rw [h.issueVector, h.modRing, h.modRing]
  · exact h.modRing _ _ _ _

theorem OffRings.advance (k : RKind) (i : Nat) (s : State) : g (advance k i s) = g s :=
  (h.modRing _ _ _ _).trans (h.put _ _ _ _ _ (by cases k <;> rfl))

theorem OffRings.writeEvt (e : Nat) (ent : EvtEntry) (s : State) : g (writeEvt e ent s) = g s := by
  unfold Machine.writeEvt
  dsimp only
  rw [h.noteEntry, h.modRing, h.advance, h.evt]

theorem OffRings.summaries (e : Nat) (s : State) : g (summaries e s) = g s := by
  refine forAll_keeps g _ _ _ fun src t => ?_
  unfold summaryOf
  dsimp only
  split
  · rw [h.writeEvt, h.put _ _ _ _ _ rfl]
  · rfl

/-- The delivery of an event (R235). -/
theorem OffRings.deliver (r : Report) (conseq : Bool) (s : State) : g (deliver r conseq s) = g s := by
  have hsum : g (if s.ringLive .evt (s.evMap r.src).1 then Machine.summaries (s.evMap r.src).1 s else s) = g s := by
    rw [apply_ite g, h.summaries, ite_self]
  have hcount (t : State) : g (t.count HIF_EVOVF_COUNT r.src) = g t := h.put _ _ _ _ _ rfl
  unfold Machine.deliver
  dsimp only
  rw [apply_ite g, apply_ite g, h.writeEvt, hcount, hsum, ite_self, ite_self]
end

/-- A completion leaves the Volley slots alone (R221). -/
theorem writeCpl_slot (c : Nat) (e : CplEntry) (s : State) (v : Nat) : (writeCpl c e s).slot v = s.slot v := by
  have h : OffRings (fun t : State => t.slot v) :=
    ⟨fun _ _ => rfl, fun _ _ => rfl, fun _ _ => rfl, fun _ _ => rfl, fun _ _ _ _ _ _ => rfl⟩
  unfold writeCpl
  dsimp only
  split
  · exact h.modRing _ _ _ _
  · show (noteEntry _ _ _).slot v = _
    rw [h.noteEntry, h.advance, h.cpl]
    exact h.modRing _ _ _ _

/-! ### Nonces (R196) -/

theorem nonceExpiry_due {n : Nonce} {s : State} (h : s.pst.nonce = some n) :
    nonceExpiry s = endNonce (s.moveTo (s.opTick (n.issued + 900 * 65536))) := by
  unfold nonceExpiry
  rw [h]

theorem endNonce_ends (s : State) : (endNonce s).pst.nonce = none ∧ (endNonce s).get PST_STAT_NONCE_VALID = 0 :=
  ⟨rfl, get_put_same _ _ _ _ _ (by decide)⟩

/-! ### Locked changes (R199) -/

/-- The entries of a record stand in pages 99 onwards, then the sealed header in page 98. -/
def journalWritten (r : RecBytes) (s : State) : State :=
  writePage 98 ([0x5C, recN r, recKind r, 0] ++ leBytes 4 (s.get PST_LOCKGEN_GEN + 1) ++ fitLen 48 0 (sha384 (recBody r)) ++
      leBytes 4 (s.get GLB_INNINGS_COUNT) ++ leBytes 6 (s.devTime / 2 ^ 32) ++ [0, 0] ++ ((recPages r).map (leBytes 2)).flatten)
    (forAll (List.range (recN r)) (fun e t => writePage (99 + e) (recData r e) t) s)

theorem journalWritten_now (r : RecBytes) (s : State) : (journalWritten r s).now = s.now :=
  forAll_keeps State.now _ _ _ fun _ _ => rfl

theorem journalWritten_locked (r : RecBytes) (s : State) : (journalWritten r s).pst.locked = s.pst.locked :=
  forAll_keeps (fun t : State => t.pst.locked) _ _ _ fun _ _ => rfl

theorem journalSealed_due {v : Nat} {s : State} (hst : (s.slot v).st = .staged) (hp : (s.slot v).prot = true)
    (hs : (s.slot v).sealedAt = none) : journalSealed v s =
      (journalWritten ((s.slot v).record.getD []) s).setSlot v { s.slot v with
        sealedAt := some s.now, beat := if (s.slot v).beat = 0 then s.beatNow + 1 else (s.slot v).beat } :=
  if_neg (by simp [hst, hp, hs])

theorem lockApplied_due {v : Nat} {s : State} (h : (s.slot v).applied = true) : lockApplied v s =
    (let x := s.slot v
     let r := x.record.getD []
     let t := lockHome (recKind r) (recEntries r) s
     completeVolley v x.cTag stSUCCESS
       (emit ev_LOCK_APPLIED 241 t .none 0 (pack2 (recKind r) (recN r)) (t.get PST_LOCKGEN_GEN)) (x.beat % 2 ^ 32)) :=
  if_neg (by simp [h])

/-- LOCK_BUSY falls with the last protected Volley between COMMIT and completion (R209). -/
theorem completeVolley_lastProtected {v : Nat} {s : State} (tag st res : Nat) (head : Option Nat) (hp : (s.slot v).prot = true)
    (hlast : ∀ w < 4, w ≠ v → ((s.slot w).prot && ((s.slot w).st = .validating || (s.slot w).st = .staged)) = false) :
    (completeVolley v tag st s res head).get PST_STAT_LOCK_BUSY = 0 := by
  unfold completeVolley lockIdle
  dsimp only
  rw [if_pos hp, if_neg]
  · exact get_put_same _ _ _ _ _ (by decide)
  · rw [Bool.not_eq_true, List.any_eq_false]
    intro w hw
    rw [Bool.not_eq_true]
    by_cases hwv : w = v
    · rw [hwv, slot_setSlot_same]
      rfl
    · rw [slot_setSlot_ne _ _ hwv, writeCpl_slot]
      exact hlast w (List.mem_range.1 hw) hwv

/-! ### Page commits (R202) -/

theorem fitLen_eq_append {n : Nat} (d : Nat) {l : List Nat} (h : l.length ≤ n) :
    fitLen n d l = l ++ List.replicate (n - l.length) d := by
  rw [fitLen, List.take_append, List.take_of_length_le h, List.take_replicate, min_eq_left (Nat.sub_le _ _)]

theorem length_fitLen (n d : Nat) (l : List Nat) : (fitLen n d l).length = n := by simp [fitLen]

theorem length_factoryPage (v : Variant) (p : Nat) : (factoryPage v p).length = 252 := by
  unfold factoryPage
  split
  · exact length_fitLen _ _ _
  split
  · exact List.length_replicate
  split
  · exact List.length_replicate
  split <;> exact length_fitLen _ _ _

theorem writePage_cells (p : Nat) (l : List Nat) (s : State) : (writePage p l s).pst.cells =
    tabSet s.pst.cells p (some { bytes := fitLen 252 0 l, check := crc32c (fitLen 252 0 l) }) := rfl

/-- The 12 bytes that a commit gives its page: the offset, the value and the write counter of the register (R202). -/
def commitBytes (v : Variant) (c : Commit) : List Nat :=
  (factoryPage v c.page).take 4 ++ leBytes 4 c.value ++ leBytes 4 c.count

theorem writeCommit_cell (c : Commit) (s : State) : tabGet (writeCommit c s).pst.cells c.page = some
    { bytes := fitLen 252 0 (commitBytes s.part c), check := crc32c (fitLen 252 0 (commitBytes s.part c)) } := by
  rw [writeCommit, writePage_cells, tabGet_tabSet_same, commitBytes]

theorem fitLen_commitBytes (v : Variant) (c : Commit) :
    (fitLen 252 0 (commitBytes v c)).take 4 = (factoryPage v c.page).take 4 ∧
    ((fitLen 252 0 (commitBytes v c)).drop 4).take 8 = leBytes 4 c.value ++ leBytes 4 c.count := by
  have hhead : ((factoryPage v c.page).take 4).length = 4 := by simp [length_factoryPage]
  rw [fitLen_eq_append _ (by simp [commitBytes, hhead, length_leBytes]), commitBytes, List.append_assoc, List.append_assoc]
  refine ⟨List.take_left' hhead, ?_⟩
  rw [List.drop_left' hhead, ← List.append_assoc]
  exact List.take_left' (by simp [length_leBytes])

theorem pageCommit_due {p : Nat} {c : Commit} {q : List Commit} {s : State} (hq : s.pst.queue = c :: q) (hc : c.page = p)
    (hf : s.flt.flushN = 0) : pageCommit p s = writeCommit c { s with pst := { s.pst with queue := q } } := by
  unfold pageCommit
  rw [hq]
  exact if_pos (by simp [hc, hf])

/-! ### Operating time (R208) -/

theorem opTimeCell_cells (s : State) : (opTimeCell s).pst.opCells =
    tabSet s.pst.opCells s.pst.opNext (opCell ((opTimeCell s).opTime / 65536)) := rfl

/-- Settles O32: each event is its definition or takes the branch of its hypotheses; a completion leaves the other slots, which
LOCK_BUSY looks at, alone. -/
theorem storeEvents : Obligations.StoreEvents := by
  refine fun s hs => ⟨fun n hn => ?_, fun v hst hp hseal => ?_, fun v ha => ?_, fun v tag st res head hp hlast => ?_,
    fun page c q hq hc hf => ?_, opTimeCell s, row_next opTimeCell hs, rfl, rfl, ?_, rfl⟩
  · obtain ⟨hnone, hvalid⟩ := endNonce_ends (s.moveTo (s.opTick (n.issued + 900 * 65536)))
    exact ⟨_, row_does rfl hs (nonceExpiry_due hn), hnone, hvalid, rfl⟩
  · refine ⟨_, row_does rfl hs (journalSealed_due hst hp hseal), ?_, ?_, journalWritten_now _ _, journalWritten_locked _ _⟩
    all_goals rw [slot_setSlot_same]
    exact hst
  · exact rowLock_does (f := fun t => compareLocks (lockApplied v t)) rfl hs (congrArg compareLocks (lockApplied_due ha))
  · exact completeVolley_lastProtected tag st res head hp hlast
  · refine ⟨_, row_does rfl hs (pageCommit_due hq hc hf), rfl, ?_⟩
    rw [← hc]
    exact ⟨_, writeCommit_cell _ _, fitLen_commitBytes _ _⟩
  · rw [opTimeCell_cells, tabGet_tabSet_same]

end Sys2Proof.Machine
end

section
/-!
PROOFS. The rails and the always-on island at start-up: the steps of a rail, what follows when it is good or not in time, and the
island once its store is loaded (R205, R385, R393, R395).
-/
namespace Sys2Proof.Machine
open Sys2Proof

/-- While VAUX is valid, what `f` makes of the state is the command's effect. -/
theorem act_does {i : Instr} {g : Grant} {f : State → State} {s u : State} (hi : exec i s = act g f s) (hs : s.awake)
    (hu : f s = u) : exec i s = .next (framed g s u) := by
  rw [hi, ← hu]
  unfold act
  rw [show s.boot.dark = false from hs]
  rfl

/-! ### The rails (R393) -/

theorem railAtPos_lt (k : Nat) : railAtPos k < 5 := by
  unfold railAtPos railOrder
  match k with
  | 0 | 1 | 2 | 3 | 4 => decide
  | _ + 5 => exact Nat.zero_lt_succ _

/-- The stop of a rail leaves alone whatever neither the registers of CTE nor its loop slot touch. -/
theorem railStop_keeps {β : Type} (g : State → β) (r : Nat) (s : State)
    (hput : ∀ t f v i, f.fam.blk = .cte → g (State.put t f v i) = g t)
    (hslot : ∀ t n f, g (State.modCslot t n f) = g t) : g (railStop r s) = g s := by
  have hrun (t : State) : g (setRun (railSlot r) 0 t) = g t := by
    unfold setRun testAbort
    dsimp only
    rw [if_neg (by decide), apply_ite g, hput _ _ _ _ rfl, hput _ _ _ _ rfl, ite_self, hput _ _ _ _ rfl]
  unfold railStop slotStop
  rw [apply_ite g, hslot, hrun, ite_self, hput _ _ _ _ rfl]

@[simp] theorem railStop_now (r : Nat) (s : State) : (railStop r s).now = s.now :=
  railStop_keeps State.now r s (fun _ _ _ _ _ => rfl) (fun _ _ _ => rfl)
@[simp] theorem railStop_boot (r : Nat) (s : State) : (railStop r s).boot = s.boot :=
  railStop_keeps State.boot r s (fun _ _ _ _ _ => rfl) (fun _ _ _ => rfl)

/-- The rail at position k at its next step, 25 µs after the last one. -/
def railStepped (k : Nat) (s : State) : State :=
  { s.moveTo (s.boot.rampAt + 25 * Config.us) with boot := { s.boot with
      step := s.boot.step + 1, rampAt := (s.moveTo (s.boot.rampAt + 25 * Config.us)).now } }.put
    CTE_SLOTSP_SP (railFull (railAtPos k) / 40 * (s.boot.step + 1)) (railSlot (railAtPos k))

/-- The rail at position k has held its voltage for 50 µs. -/
def railHeld (k : Nat) (s : State) : State :=
  { s.moveTo (s.boot.rampAt + 50 * Config.us) with boot := { s.boot with
      good := s.boot.good ++ [railAtPos k], rail := none } }

/-- The rail at position k is not good 2 ms after its ramp: the start stops with its error. -/
def railFailed (k : Nat) (s : State) : State :=
  let u := ((railStop (railAtPos k) (s.moveTo (s.boot.rampAt + 2 * Config.ms))).put GLB_BOOTSTAT_ERR 4).put
    GLB_BOOTSTAT_RAIL (railAtPos k)
  { u with boot := { u.boot with rail := none, failed := true, downAt := some (u.now + Config.ms) } }

section
variable {k : Nat} {s : State} (hk : s.boot.rail = some k) (hl : s.latch = false)
include hk hl

theorem railRampStep_due (hstep : s.boot.step < 40) : railRampStep s = railStepped k s := by
  unfold railRampStep
  rw [hk]
  exact if_neg (by simp [hl, hstep])

variable (hstep : 40 ≤ s.boot.step)
include hstep

/-- A rail is good: CALFAC is loaded after VANA; after the last rail STANDBY follows, after any other the next one. -/
theorem railGood_due : railGood s =
    (let t := if railAtPos k = 2 then loadCalfac (railHeld k s) else railHeld k s
     if k = 4 then standby t else railBegin (k + 1) t) := by
  unfold railGood
  rw [hk]
  exact if_neg (by simp [hl, hstep])

theorem railTimeout_due (hgood : s.boot.good ≠ []) : railTimeout s = railFailed k s := by
  have hkept : (railFailed k s).boot.good ≠ [] := by
    simpa [railFailed] using hgood
  unfold railTimeout
  rw [hk]
  exact (if_neg (by simp [hl, hstep])).trans (if_neg hkept)
end

theorem railFailed_now (k : Nat) (s : State) : (railFailed k s).now = max s.now (s.boot.rampAt + 2 * Config.ms) := by
  simp [railFailed]

theorem railFailed_shows (k : Nat) (s : State) : (railFailed k s).get GLB_BOOTSTAT_ERR = 4 ∧
    (railFailed k s).get GLB_BOOTSTAT_RAIL = railAtPos k := by
  let u := (railStop (railAtPos k) (s.moveTo (s.boot.rampAt + 2 * Config.ms))).put GLB_BOOTSTAT_ERR 4
  have hread (f : Fld) : (railFailed k s).get f = (u.put GLB_BOOTSTAT_RAIL (railAtPos k)).get f := rfl
  rw [hread, hread, get_put_apart _ GLB_BOOTSTAT_RAIL GLB_BOOTSTAT_ERR _ _ _ rfl (by decide) (by decide),
    get_put_same _ _ _ _ _ (by decide), get_put_same _ _ _ _ _ (by decide)]
  exact ⟨rfl, Nat.mod_eq_of_lt ((railAtPos_lt k).trans (by decide))⟩

/-! ### What a power event leaves alone (R385) -/

/-- What `g` reads is nothing of the rings or the registers of HIF and FLT, and of the collector at most whether the page checks
have ended. -/
structure OffCollector {β : Type} (g : State → β) : Prop extends OffRings g where
  fltPut : ∀ t f v i j, f.fam.blk = .flt → g (State.put t f v i j) = g t
  fltSet : ∀ t x, x.pageCheck = t.flt.pageCheck → g { t with flt := x } = g t

section
variable {β : Type} {g : State → β} (h : OffCollector g)
include h

theorem OffCollector.startFlush (s : State) : g (startFlush s) = g s := by
  unfold Machine.startFlush
  split
  · rfl
  split
  · exact h.fltSet _ _ rfl
  split <;> exact h.fltSet _ _ rfl

theorem OffCollector.count (f : Fld) (s : State) (hf : f.fam.blk = .flt) : g (s.count f) = g s := h.fltPut _ _ _ _ _ hf

theorem OffCollector.bufferRecord (r : Report) (conseq : Bool) (p3 : Nat) (s : State) : g (bufferRecord r conseq p3 s) = g s := by
  unfold Machine.bufferRecord
  dsimp only
  split
  · exact h.count _ _ rfl
  split
  · split
    · exact h.count _ _ rfl
    · rw [h.deliver, apply_ite g, h.count _ _ rfl, ite_self]
      exact (h.fltSet _ _ (by rfl)).trans (h.count FLT_SBLOST_LOST s rfl)
  · rw [apply_ite g, h.startFlush, ite_self]
    exact h.fltSet _ _ rfl

theorem OffCollector.powerEvent (k : EvKind) (p0 : Nat) (s : State) : g (powerEvent k p0 s) = g s := by
  unfold Machine.powerEvent
  dsimp only
  rw [h.deliver, h.bufferRecord, apply_ite g, h.count _ _ rfl, ite_self]
end

/-! ### The island (R199, R205, R392) -/

/-- The store with the cells found. -/
def cellsFound (found : List (Nat × List Nat × Nat)) (s : State) : State :=
  forAll found (fun e t => { t with pst := { t.pst with
    cells := tabSet t.pst.cells e.1 (some { bytes := fitLen 252 0 e.2.1, check := e.2.2 }) } }) s

/-- The journal is completed, the pages are checked, and what they hold is in force. -/
def storeLoaded (found : List (Nat × List Nat × Nat)) (s : State) : State :=
  loadPseeds (loadPersist (loadLocks (forAll ((List.range 252).map (fun i => i + 4)) checkPage
    (checkKey 1 (checkKey 0 (replayJournal (cellsFound found s)).2)))))

/-- The island is ready with its store loaded, and firmware load begins; `clear` says whether POWER_UP waits for a clear. -/
def islandUp (clear : Bool) (s : State) : State :=
  ({ s with
    pst := { s.pst with innings := s.pst.innings + 1 }
    flt := { s.flt with pageCheck := false }
    boot := { s.boot with island := true, powerUp := clear, loading := true, loadAt := s.now, fromHost := false } }.put
      GLB_INNINGS_COUNT (s.pst.innings + 1)).put GLB_BOOTSTAT_STAGE 1

/-- POWER_UP is recorded, or a Scorebook clear starts first. -/
def powerUpNoted (clear : Bool) (s : State) : State :=
  if clear then startClear (islandUp clear s) else powerEvent ev_POWER_UP (s.pst.innings + 1) (islandUp clear s)

/-- What the start of the island shows: start-up, the page checks, and the stage of the firmware. -/
def State.startSide (s : State) : Boot × Bool × Nat := (s.boot, s.flt.pageCheck, s.get GLB_BOOTSTAT_STAGE)

theorem startSide_offCollector : OffCollector State.startSide where
  rings _ _ := rfl
  cpl _ _ := rfl
  evt _ _ := rfl
  msi _ _ := rfl
  put t f v i j hf := by
    unfold State.startSide
    rw [get_put_ne _ f GLB_BOOTSTAT_STAGE _ _ _ _ _ (.inl (by rw [hf]; decide))]
    rfl
  fltPut t f v i j hf := by
    unfold State.startSide
    rw [get_put_ne _ f GLB_BOOTSTAT_STAGE _ _ _ _ _ (.inl (by rw [hf]; decide))]
    rfl
  fltSet t x hx := congrArg (fun p => (t.boot, p, t.get GLB_BOOTSTAT_STAGE)) hx

theorem powerUpNoted_startSide (clear : Bool) (s : State) : (powerUpNoted clear s).startSide = (islandUp clear s).startSide := by
  have hclear (t : State) : (startClear t).startSide = t.startSide := startSide_offCollector.fltSet _ _ rfl
  unfold powerUpNoted
  rw [apply_ite State.startSide, startSide_offCollector.powerEvent, hclear, ite_self]

theorem islandUp_stage (clear : Bool) (s : State) : (islandUp clear s).get GLB_BOOTSTAT_STAGE = 1 :=
  get_put_same _ _ _ _ _ (by decide)

theorem powerUpNoted_shows (clear : Bool) (s : State) : (powerUpNoted clear s).boot.island = true ∧ (powerUpNoted clear s).boot.loading = true ∧
    (powerUpNoted clear s).flt.pageCheck = false ∧ (powerUpNoted clear s).get GLB_BOOTSTAT_STAGE = 1 := by
  have h := powerUpNoted_startSide clear s
  simp only [State.startSide, Prod.mk.injEq] at h
  obtain ⟨hboot, hcheck, hstage⟩ := h
  rw [hboot, hcheck, hstage]
  exact ⟨rfl, rfl, rfl, islandUp_stage _ _⟩

/-- The rails start once the island is ready. -/
theorem islandReady_due (found : List (Nat × List Nat × Nat)) {s : State} (h : s.boot.island = false) : ∃ u,
    islandReady found s = startRails (writeProfile u) ∧ u.boot.island = true ∧ u.boot.loading = true ∧
    u.flt.pageCheck = false ∧ u.get GLB_BOOTSTAT_STAGE = 1 :=
  ⟨powerUpNoted (replayJournal (cellsFound found s)).1 (storeLoaded found s), if_neg (ne_true_of_eq_false h),
    powerUpNoted_shows _ _⟩

/-- Settles O52: the island and each event of a rail take the branch of their hypotheses; POWER_UP and a clear leave what the start
shows alone. CALFAC is loaded after VANA (R52, R392). -/
theorem islandAndRailsStart : Obligations.IslandAndRailsStart := by
  refine fun s hs => ⟨fun hi found => ?_, fun k hk hstep hl => ?_, fun k hk hstep hl hk4 hr => ?_, fun k hk hstep hl hk4 hr => ?_,
    fun hk hstep hl => ?_, fun k hk hstep hl hgood => ?_⟩
  · let cells := found.map fun x => (x.1.val, x.2.1.map BitVec.toNat, x.2.2.toNat)
    obtain ⟨u, hready, hshows⟩ := islandReady_due cells hi
    exact ⟨u, act_does (f := fun t => powered (islandReady cells t)) rfl hs (congrArg powered hready), hshows⟩
  · exact ⟨_, rowP_does rfl hs (railRampStep_due hk hl hstep), rfl, rfl, rfl, get_put_same _ _ _ _ _ (by decide)⟩
  · refine ⟨railHeld k s, rfl, rfl, rowP_does rfl hs ((railGood_due hk hl hstep).trans ?_)⟩
    dsimp only
    rw [if_neg hr, if_neg hk4.ne]
  · refine ⟨railHeld k s, rfl, by rw [← hr]; rfl, rowP_does rfl hs ((railGood_due hk hl hstep).trans ?_)⟩
    dsimp only
    rw [if_pos hr, if_neg hk4.ne]
  · refine ⟨railHeld 4 s, rfl, rfl, rowP_does rfl hs ((railGood_due hk hl hstep).trans ?_)⟩
    dsimp only
    rw [if_pos rfl, if_neg (by decide)]
  · obtain ⟨herr, hrail⟩ := railFailed_shows k s
    exact ⟨_, rowP_does rfl hs (railTimeout_due hk hl hstep hgood), railFailed_now k s, rfl, rfl, herr, hrail, rfl⟩

end Sys2Proof.Machine
end

section
/-!
PROOFS. The loss and the return of VAUX: what the dark machine keeps, the commits it still writes, and what the machine starts with
(R204, R208, R248, R392, R397, R398, R405).
-/
namespace Sys2Proof.Machine
open Sys2Proof

/-! ### The loss of VAUX (R204, R398) -/

/-- Commits that are still written leave alone whatever neither their pages nor the bits of PST_PAGEFAIL touch. -/
theorem writeCommits_keeps {β : Type} (g : State → β) (l : List Commit) (s : State)
    (hbit : ∀ t p, g (State.putBit t PST_PAGEFAIL_PAGES p false) = g t)
    (hcells : ∀ t x, g { t with pst := { t.pst with cells := x } } = g t) : g (forAll l writeCommit s) = g s :=
  forAll_keeps g _ _ _ fun _ _ => (hbit _ _).trans (hcells _ _)

/-- The commits kept at the fall of PWRFAIL_N are written, and a bank save is abandoned. -/
def storeAtLoss (s : State) : State := forAll ((dropSave s).pst.queue.filter (fun c => c.kept)) writeCommit (dropSave s)

theorem vauxLoss_keeps (s : State) : (vauxLoss s).pst.cells = (storeAtLoss s).pst.cells ∧
    (vauxLoss s).pst.banks = (dropSave s).pst.banks ∧ (vauxLoss s).flt.cells = (dropSave s).flt.cells :=
  ⟨rfl, writeCommits_keeps (fun t : State => t.pst.banks) _ _ (fun _ _ => rfl) (fun _ _ => rfl),
    writeCommits_keeps (fun t : State => t.flt.cells) _ _ (fun _ _ => rfl) (fun _ _ => rfl)⟩

/-! ### The persistent registers at a start (R202, R203) -/

/-- The load of the persistent registers leaves alone whatever neither these, nor their counters and marks touch. -/
theorem loadPersist_keeps {β : Type} (g : State → β) (s : State)
    (hput : ∀ n f j t w, persistReg n = some (f, j) → g (State.putWord t f w j) = g t)
    (hwarn : ∀ t i b, g (State.putBit t PST_WEARWARN_PAGES i b) = g t)
    (hvol : ∀ t i b, g (State.putBit t PST_VOLATILE_PAGES i b) = g t)
    (hcounts : ∀ t c, g { t with pst := { t.pst with counts := c } } = g t) : g (loadPersist s) = g s := by
  refine forAll_keeps g _ _ _ fun i t => ?_
  split
  next hreg =>
    split
    · exact (hvol _ _ _).trans ((hwarn _ _ _).trans ((hput _ _ _ _ _ hreg).trans (hcounts _ _)))
    · exact (hvol _ _ _).trans ((hwarn _ _ _).trans ((hput _ _ _ _ _ hreg).trans (hcounts _ _)))
  · rfl

/-- The registers of the straps, of PROV_N and of the Innings. -/
def startFams : List RegFam := [QLK_STACKSTAT, GLB_INNINGS, PST_STAT]

/-- None of them is a persistent register. -/
theorem persistReg_ne_startFams : ∀ n < 71, ∀ e ∈ (persistReg n).toList, ∀ f ∈ startFams, regOff f 0 0 ≠ regOff e.1 e.2 0 := by
  decide +kernel

/-- Each of them stands below the marks of the persistent registers. -/
theorem startFams_below_marks : ∀ f ∈ startFams, regOff f 0 0 < PST_WEARWARN.base ∧ regOff f 0 0 < PST_VOLATILE.base := by
  decide

theorem base_le_regOff (f : RegFam) (i j : Nat) : f.base ≤ regOff f i j :=
  (Nat.le_add_right _ _).trans (Nat.le_add_right _ _)

theorem loadPersist_get (s : State) {f : Fld} (hf : f.fam ∈ startFams) : (loadPersist s).get f = s.get f := by
  obtain ⟨hwarn, hvol⟩ := startFams_below_marks _ hf
  refine loadPersist_keeps (State.get · f) s (fun n g j t w hreg => ?_) (fun t i b => ?_) (fun t i b => ?_) (fun _ _ => rfl)
  · exact get_putWord_ne _ _ _ _ _ _ _ _
      (.inr (persistReg_ne_startFams n (lt_of_persistReg hreg) (g, j) (Option.mem_toList.2 hreg) _ hf))
  · exact get_putWord_ne _ _ _ _ _ _ _ _ (.inr (hwarn.trans_le (base_le_regOff _ _ _)).ne)
  · exact get_putWord_ne _ _ _ _ _ _ _ _ (.inr (hvol.trans_le (base_le_regOff _ _ _)).ne)

/-! ### The return of VAUX (R208, R392, R397, R405) -/

/-- The bank of the straps is at a good level. -/
def strapsSeen (f : PowerFound) : Bool := (f.volts.map ioLevel).getD 0 .v33 ≠ .bad

/-- The machine that starts, with the store found, before anything is loaded from it. -/
def vauxUp (f : PowerFound) (s : State) : State :=
  let b := State.blank s.now
  let cells := forAll f.cells (fun e c => tabSet c e.1.val (e.2.map BitVec.toNat)) s.pst.opCells
  { b with
    part := s.part, pending := s.pending, free := s.free
    flt := s.flt
    pst := { s.pst with
      opBase := opResume cells, opAt := opResume cells, opCells := cells
      banks := forAll f.banks (fun e c => tabSet c e.1.val (e.2.map BitVec.toNat)) s.pst.banks }
    hif := { s.hif with hbAt := s.now }
    boot := { secMax := s.boot.secMax, io := f.volts.map ioLevel, perst := !strapsSeen f } }

/-- The straps and PROV_N are sampled, and the registers show the state of the Scorebook and the Innings. -/
def strapsShown (sid : Nat) (side : Bool) (f : PowerFound) (s : State) : State :=
  let t := (sampleStraps (if strapsSeen f then sid else 0) (strapsSeen f && side) s).put PST_STAT_PROV_N
    (bit (!strapsSeen f || f.provN))
  (((t.put FLT_SBSTAT_FULL (bit s.flt.full)).put FLT_SBSTAT_NEAR (bit s.flt.near)).put FLT_SBSTAT_WORN
    (bit (100001 ≤ s.flt.clears))).put GLB_INNINGS_COUNT s.pst.innings

theorem powerOn_dark (sid : Nat) (side : Bool) (f : PowerFound) {s : State} (h : s.boot.dark = true) :
    powerOn sid side f s = loadPersist (strapsShown sid side f (vauxUp f s)) := by
  unfold powerOn
  exact if_neg (by simp [h])

theorem powerOn_awake (sid : Nat) (side : Bool) (f : PowerFound) {s : State} (h : s.awake) : powerOn sid side f s = s := by
  unfold powerOn
  exact if_pos (by simp [show s.boot.dark = false from h])

/-- What a start shows outside the registers: the moments, the banks, the Scorebook, start-up, and the operating time. -/
def State.vauxSide (s : State) : Nat × Nat × Tab (List Nat) × Tab SbRec × Boot × Nat × Tab (List Nat) :=
  (s.now, s.vauxAt, s.pst.banks, s.flt.cells, s.boot, s.pst.opBase, s.pst.opCells)

theorem put_vauxSide (s : State) (f : Fld) (v i j : Nat) : (s.put f v i j).vauxSide = s.vauxSide := (rfl)

theorem loadPersist_vauxSide (s : State) : (loadPersist s).vauxSide = s.vauxSide :=
  loadPersist_keeps State.vauxSide s (fun _ _ _ _ _ _ => rfl) (fun _ _ _ => rfl) (fun _ _ _ => rfl) (fun _ _ => rfl)

theorem strapsShown_vauxSide (sid : Nat) (side : Bool) (f : PowerFound) (s : State) :
    (strapsShown sid side f s).vauxSide = s.vauxSide := by
  simp only [strapsShown, sampleStraps, put_vauxSide]

/-- The machine sees its straps where their bank has found a good level. -/
theorem ioOk_of_boot {f : PowerFound} {s : State} (h : s.boot.io = f.volts.map ioLevel) : s.ioOk 0 = strapsSeen f := by
  rw [State.ioOk, strapsSeen, h]

theorem strapsShown_innings (sid : Nat) (side : Bool) (f : PowerFound) (s : State) :
    (strapsShown sid side f s).get GLB_INNINGS_COUNT = s.pst.innings % 2 ^ 32 := get_put_same _ _ _ _ _ (by decide)

theorem strapsShown_provN (sid : Nat) (side : Bool) (f : PowerFound) (s : State) :
    (strapsShown sid side f s).get PST_STAT_PROV_N = bit (!strapsSeen f || f.provN) := by
  unfold strapsShown
  dsimp only
  rw [get_put_ne _ GLB_INNINGS_COUNT PST_STAT_PROV_N _ _ _ _ _ (.inl (by decide)),
    get_put_ne _ FLT_SBSTAT_WORN PST_STAT_PROV_N _ _ _ _ _ (.inl (by decide)),
    get_put_ne _ FLT_SBSTAT_NEAR PST_STAT_PROV_N _ _ _ _ _ (.inl (by decide)),
    get_put_ne _ FLT_SBSTAT_FULL PST_STAT_PROV_N _ _ _ _ _ (.inl (by decide)), get_put_same _ _ _ _ _ (by decide)]
  exact Nat.mod_eq_of_lt (bit_lt_two _)

theorem sampleStraps_stackId (sid : Nat) (side : Bool) (s : State) :
    (sampleStraps sid side s).get QLK_STACKSTAT_STACK_ID = sid % 4 := by
  unfold sampleStraps
  rw [get_put_apart _ QLK_STACKSTAT_PRESENT QLK_STACKSTAT_STACK_ID _ _ _ rfl (by decide) (by decide),
    get_put_apart _ QLK_STACKSTAT_PAIR_SIDE QLK_STACKSTAT_STACK_ID _ _ _ rfl (by decide) (by decide),
    get_put_same _ _ _ _ _ (by decide)]
  rfl

theorem strapsShown_stackId (sid : Fin 4) (side : Bool) (f : PowerFound) (s : State) :
    (strapsShown sid side f s).get QLK_STACKSTAT_STACK_ID = if strapsSeen f then sid.val else 0 := by
  unfold strapsShown
  dsimp only
  rw [get_put_ne _ GLB_INNINGS_COUNT QLK_STACKSTAT_STACK_ID _ _ _ _ _ (.inl (by decide)),
    get_put_ne _ FLT_SBSTAT_WORN QLK_STACKSTAT_STACK_ID _ _ _ _ _ (.inl (by decide)),
    get_put_ne _ FLT_SBSTAT_NEAR QLK_STACKSTAT_STACK_ID _ _ _ _ _ (.inl (by decide)),
    get_put_ne _ FLT_SBSTAT_FULL QLK_STACKSTAT_STACK_ID _ _ _ _ _ (.inl (by decide)),
    get_put_ne _ PST_STAT_PROV_N QLK_STACKSTAT_STACK_ID _ _ _ _ _ (.inl (by decide)), sampleStraps_stackId]
  split
  · exact Nat.mod_eq_of_lt sid.isLt
  · rfl

/-- The return of VAUX is the one command that acts on the dark machine. -/
theorem powerOn_next (sid : Fin 4) (side : Bool) (f : PowerFound) (s : State) :
    exec (.powerOn sid side f) s = .next (framed { power := true } s (powered (powerOn sid side f s))) := by
  show act { power := true } (fun t => powered (powerOn sid side f t)) s = _
  unfold act
  simp

/-- Settles O51: the dark machine keeps the cells with the kept commits written; its return is `vauxUp` with the straps shown, and the
load of the persistent registers leaves what the statement names alone. -/
theorem vauxLossAndReturn : Obligations.VauxLossAndReturn := by
  refine fun s => ⟨fun hs => ?_, fun hd sid side f => ?_, fun hs sid side f => ?_⟩
  · obtain ⟨hcells, hbanks, hsb⟩ := vauxLoss_keeps s
    exact ⟨vauxLoss s, act_does (f := fun t => powered (vauxLoss t)) rfl hs rfl, rfl, rfl, rfl, rfl, hbanks, hsb, hcells⟩
  · have hside := (loadPersist_vauxSide _).trans (strapsShown_vauxSide sid side f (vauxUp f s))
    simp only [State.vauxSide, Prod.mk.injEq] at hside
    obtain ⟨hnow, hvaux, hbanks, hcells, hboot, hbase, hop⟩ := hside
    have hio : (loadPersist (strapsShown sid side f (vauxUp f s))).boot.io = f.volts.map ioLevel := by rw [hboot]; rfl
    refine ⟨_, by rw [powerOn_next, powerOn_dark _ _ _ hd], by rw [hboot]; rfl, hnow, hvaux, fun hf => ?_, hcells, hio,
      by rw [hbase, hop]; rfl, ?_⟩
    · rw [hbanks, vauxUp, hf]
      rfl
    rw [ioOk_of_boot hio, loadPersist_get _ (by decide), loadPersist_get _ (by decide), loadPersist_get _ (by decide),
      strapsShown_stackId, strapsShown_provN, strapsShown_innings]
    exact ⟨fun hseen => by rw [hseen]; exact ⟨rfl, rfl⟩, fun hunseen => by rw [hunseen]; exact ⟨rfl, rfl⟩, rfl⟩
  · rw [powerOn_next, powerOn_awake _ _ _ hs]

end Sys2Proof.Machine
end

section
/-!
PROOFS. Cascade inputs, reconciliation, the flush, the clear and the window of the Scorebook, and power failure (R204, R374, R378,
R384-R388, R405).
-/
namespace Sys2Proof.Machine
open Sys2Proof

/-! ### Cascade inputs (R374) -/

section
variable (i : Nat) {s : State} (h0 : s.ownSid = 0)
include h0

theorem cascade_latches (hm : bitOf (s.get FLT_CASCADE_MASK) i = true) : cascade i true s =
    (let t := s.put FLT_CASCADE_LEVEL (s.get FLT_CASCADE_LEVEL ||| 2 ^ i)
     emit ev_CASCADE_FAULT 381 (t.put FLT_CASCADE_LATCH (t.get FLT_CASCADE_LATCH ||| 2 ^ i)) .none i) := by
  unfold cascade
  rw [if_neg (not_not.2 h0)]
  exact if_pos (by simp [hm])

theorem cascade_unmasked (hm : bitOf (s.get FLT_CASCADE_MASK) i = false) : cascade i true s =
    s.put FLT_CASCADE_LEVEL (s.get FLT_CASCADE_LEVEL ||| 2 ^ i) := by
  unfold cascade
  rw [if_neg (not_not.2 h0)]
  exact if_neg (by simp [hm])

theorem cascade_high : cascade i false s = s.put FLT_CASCADE_LEVEL (s.get FLT_CASCADE_LEVEL &&& (255 - 2 ^ i)) := by
  unfold cascade
  rw [if_neg (not_not.2 h0)]
  exact if_neg (by simp)
end

/-! ### Reconciliation (R378) -/

theorem reconcile_differs {k i st : Nat} {s : State} (hi : i < reconUnits k) (hst : s.recorded k i ≠ st)
    (hd : k = 4 → hostDomain i = true) : reconcile k i st s =
      react ev_RECONCILE 382 .none (saferState k i st) ((s.moveTo (s.reconAt k)).count FLT_RECON_COUNT) (pack2 k i)
        (s.recorded k i) st := by
  unfold reconcile
  dsimp only
  refine if_neg ?_
  simp only [Bool.or_eq_true, Bool.and_eq_true, decide_eq_true_eq, Bool.not_eq_true', not_or, not_and]
  exact ⟨⟨not_le.2 hi, hst⟩, fun hk => by simp [hd hk]⟩

/-! ### The flush (R384) -/

theorem flushTimer_due {t : Nat} {s : State} (h : s.flt.flushAt = some t) :
    flushTimer s = startFlush { s.moveTo (s.opTick t) with flt := { s.flt with flushAt := none } } := by
  unfold flushTimer
  rw [h]

theorem startFlush_empty {s : State} (h : s.flt.buffer = []) : startFlush s = s := if_pos h

/-! ### The end of a clear (R388) -/

/-- What `g` reads of a register outside HIF no ring traffic changes. -/
theorem offRings_get {f : Fld} (h : f.fam.blk ≠ .hif) : OffRings (State.get · f) where
  rings _ _ := rfl
  cpl _ _ := rfl
  evt _ _ := rfl
  msi _ _ := rfl
  put _ _ _ _ _ hf := get_put_ne _ _ _ _ _ _ _ _ (.inl (by rwa [hf]))

theorem offRings_flt : OffRings State.flt :=
  ⟨fun _ _ => rfl, fun _ _ => rfl, fun _ _ => rfl, fun _ _ => rfl, fun _ _ _ _ _ _ => rfl⟩

theorem offRings_boot : OffRings State.boot :=
  ⟨fun _ _ => rfl, fun _ _ => rfl, fun _ _ => rfl, fun _ _ => rfl, fun _ _ _ _ _ _ => rfl⟩

/-- The marker is sealed, and the Scorebook is neither full nor near it. -/
def markerSealed (s : State) : State :=
  ((State.setCell { s with flt := { s.flt with clearing := false } } 0 { s.sbCell 0 with sealByte := 0x5C }).put
    FLT_SBSTAT_FULL 0).put FLT_SBSTAT_NEAR 0

theorem markerSealed_flt (s : State) : (markerSealed s).flt = { s.flt with
    clearing := false, cells := tabSet s.flt.cells 0 { s.sbCell 0 with sealByte := 0x5C } } := by
  simp only [markerSealed, put_flt, State.setCell]

theorem markerSealed_boot (s : State) : (markerSealed s).boot = s.boot := by
  simp only [markerSealed, put_boot, State.setCell]

/-- SB_CLEARED is delivered. -/
def clearReported (s : State) : State :=
  deliver { src := 379, code := ev_SB_CLEARED.code, cls := ev_SB_CLEARED.cls, p0 := (s.sbCell 0).p0, p1 := (s.sbCell 0).p1
            p2 := (s.sbCell 0).p2 } ((markerSealed s).covered 379) (markerSealed s)

theorem clearReported_flt (s : State) : (clearReported s).flt = { s.flt with
    clearing := false, cells := tabSet s.flt.cells 0 { s.sbCell 0 with sealByte := 0x5C } } := by
  rw [clearReported, offRings_flt.deliver, markerSealed_flt]

theorem clearReported_boot (s : State) : (clearReported s).boot = s.boot := by
  rw [clearReported, offRings_boot.deliver, markerSealed_boot]

theorem clearReported_shows (s : State) : (clearReported s).flt.clearing = false ∧
    ((clearReported s).sbCell 0).sealByte = 0x5C ∧ (clearReported s).get FLT_SBSTAT_FULL = 0 ∧
    (clearReported s).get FLT_SBSTAT_NEAR = 0 := by
  have hget (f : Fld) (hf : f.fam.blk ≠ .hif) : (clearReported s).get f = (markerSealed s).get f :=
    (offRings_get hf).deliver _ _ _
  rw [State.sbCell, clearReported_flt, tabGet_tabSet_same, hget _ (by decide), hget _ (by decide), markerSealed,
    get_put_apart _ FLT_SBSTAT_NEAR FLT_SBSTAT_FULL _ _ _ rfl (by decide) (by decide), get_put_same _ _ _ _ _ (by decide),
    get_put_same _ _ _ _ _ (by decide)]
  exact ⟨rfl, rfl, rfl, rfl⟩

/-- Up to the 100,000th clear nothing else follows while no record waits. -/
theorem clearDone_unworn {s : State} (hc : s.flt.clearing = true) (hn : s.flt.clears < 100001) (hb : s.flt.buffer = []) :
    clearDone s = clearReported s := by
  have hclears : (clearReported s).flt.clears < 100001 := by
    rw [clearReported_flt]
    exact hn
  have hbuffer : (clearReported s).flt.buffer = [] := by
    rw [clearReported_flt]
    exact hb
  unfold clearReported markerSealed at hclears hbuffer ⊢
  unfold clearDone
  rw [if_neg (by simp [hc])]
  dsimp only
  rw [if_neg (not_le.2 hclears), startFlush_empty hbuffer, ite_self]

theorem sbCleared_noPowerUp {s : State} (hc : s.flt.clearing = true) (hn : s.flt.clears < 100001) (hb : s.flt.buffer = [])
    (hp : s.boot.powerUp = false) : sbCleared s = clearReported s := by
  unfold sbCleared
  rw [clearDone_unworn hc hn hb]
  exact if_neg (by simp [clearReported_boot, hp])

/-! ### Power failure (R204, R385) -/

theorem powerWindowEnd_due {t : Nat} {s : State} (h : s.flt.pfWindow = some t) : powerWindowEnd s =
    { s.moveTo t with flt := { s.flt with pfWindow := none, pfClosed := s.pst.lowPf, flushN := 0, flushAgain := false } } := by
  unfold powerWindowEnd
  rw [h]

/-- Recording continues once PWRFAIL_N is high again. -/
def powerReturned (s : State) : State :=
  { s with pst := { s.pst with lowPf := false }, flt := { s.flt with pfWindow := none, pfClosed := false } }

/-- An edge that no pin of bank 0 shows does nothing (R405). -/
theorem pin0_unseen {i : Instr} {f : State → State} {s : State} (hi : exec i s = row (pinIn 0 f) s) (hs : s.awake)
    (hio : s.ioOk 0 = false) : Does i s s := row_does hi hs (pinIn_bad f hio)

theorem pin0_does {i : Instr} {f : State → State} {s u : State} (hi : exec i s = row (pinIn 0 f) s) (hs : s.awake)
    (hio : s.ioOk 0 = true) (hu : f s = u) : Does i s u := row_does hi hs ((pinIn_ok f hio).trans hu)

/-- Settles O50: each event takes the branch of its hypotheses. The end of a clear is R388, and the cascade inputs are R374; P0 and the
moment of a reconciliation are the model's reading (log 71). -/
theorem scorebookAndPowerFailEvents : Obligations.ScorebookAndPowerFailEvents := by
  refine fun s hs => ⟨fun i hio h0 hm => ?_, fun i hio h0 hm => ?_, fun i hio h0 => ?_, fun k i st hi hst hd hc => ?_,
    fun t ht => ?_, fun failed hn => ?_, fun hc hp hn hb _ => ?_, fun hl ha => ?_, fun hio => ?_, fun hio i low => ?_,
    fun hio => ?_, fun t ht => ?_⟩
  · exact pin0_does rfl hs hio (cascade_latches i h0 hm)
  · exact pin0_does rfl hs hio (cascade_unmasked i h0 hm)
  · exact pin0_does rfl hs hio (cascade_high i h0)
  · exact rowP_does rfl hs ((reconcile_differs hi hst hd).trans (react_uncovered _ _ _ _ _ _ _ hc))
  · exact row_does rfl hs (flushTimer_due ht)
  · exact row_does rfl hs (if_neg hn)
  · exact ⟨_, row_does rfl hs (sbCleared_noPowerUp hc hn hb hp), clearReported_shows s⟩
  · refine ⟨_, (hostBell_next sbAutoinc hl).trans (by rw [sbAutoinc, if_pos ha]), ?_⟩
    rw [get_put_same _ _ _ _ _ (by decide)]
    exact Nat.mod_mod _ _
  · exact pin0_does rfl hs hio rfl
  · exact ⟨pin0_unseen rfl hs hio, pin0_unseen rfl hs hio, pin0_unseen rfl hs hio⟩
  · exact ⟨powerReturned s, rfl, rfl, rfl, rfl, pin0_does rfl hs hio rfl⟩
  · exact ⟨_, row_does rfl hs (powerWindowEnd_due ht), rfl, rfl, rfl, rfl⟩

end Sys2Proof.Machine
end

section
/-!
PROOFS. What the machine takes from the host while it is silent: nothing without VAUX, no command under the thermal shutdown latch, and
no write while the PCI Express link is down (R211, R360, R392).
-/
namespace Sys2Proof.Machine
open Sys2Proof

/-- Framing a state with itself grants nothing. -/
theorem framed_self (g : Grant) (s : State) : framed g s s = framed {} s s := by
  have hor (a b : Bool) : (a || (a && b)) = a := sup_inf_self
  simp only [framed, ite_self, hor]

/-- While VAUX is not valid an action that is not its return leaves the machine as it was (R392). -/
theorem act_dark {g : Grant} (f : State → State) {s : State} (hg : g.power = false) (hs : s.boot.dark = true) :
    act g f s = .next (framed {} s s) := by
  rw [act, hs, hg]
  exact congrArg _ (framed_self g s)

/-- A BAR0 write of the dark machine faults beyond BAR0 and does nothing inside it (R417). -/
theorem bar0_dark {c : Prop} [Decidable c] {f : State → State} {s : State} (hs : s.boot.dark = true) :
    (if c then .fault .outsideBar0 else hostAct f s : Out) = .next (framed {} s s) ∨
      (if c then .fault .outsideBar0 else hostAct f s : Out) = .fault .outsideBar0 := by
  split
  · exact .inr rfl
  · exact .inl (act_dark _ rfl hs)

theorem exec_act_dark {i : Instr} {g : Grant} {f : State → State} {s : State} (hi : exec i = act g f) (hg : g.power = false)
    (hs : s.boot.dark = true) : exec i s = .next (framed {} s s) := by
  rw [hi, act_dark f hg hs]

theorem exec_dark {i : Instr} {s : State} (hs : s.boot.dark = true) (hi : ∀ sid side f, i ≠ .powerOn sid side f) :
    exec i s = .next (framed {} s s) ∨ exec i s = .fault .outsideBar0 := by
  cases i with
  | powerOn sid side f => exact absurd rfl (hi sid side f)
  | registerWrite _ _ _ => exact bar0_dark hs
  | counterClear _ _ => exact bar0_dark hs
  | persistentWrite _ _ => exact bar0_dark hs
  | ringEnable _ _ => exact bar0_dark hs
  | ringDisable _ _ => exact bar0_dark hs
  | _ => exact .inl (exec_act_dark rfl rfl hs)

/-- Under the thermal shutdown latch a command of the host has no effect (R360). -/
theorem hostAct_latched (f : State → State) {s : State} (hs : s.awake) (hl : s.latch = true) :
    hostAct f s = .next (framed {} s s) := by
  rw [hostAct, act, show s.boot.dark = false from hs]
  exact congrArg (Host.Outcome.next <| framed {} s ·) (if_pos hl)

theorem registerWrite_latched {s : State} {off : Nat} (n : Fin 9) (v : BitVec 64) (hs : s.awake) (hl : s.latch = true)
    (ho : off < 0x400000) : exec (.registerWrite off n v) s = .next (framed {} s s) :=
  (if_neg (not_le.2 ho)).trans (hostAct_latched _ hs hl)

theorem hostWrite_linkDown {s : State} (f : State → State) (h : s.hif.linkUp = false) : hostWrite f s = s :=
  if_neg (by simp [h])

/-- While the link is down a doorbell does not arrive (R211). -/
theorem hostBell_linkDown {i : Instr} {f : State → State} {s : State} (hi : exec i s = hostBell f s) (hs : s.heard)
    (hu : s.hif.linkUp = false) : Does i s s := by
  unfold Does
  rw [hi, hostBell, hostAct_next _ hs, hostWrite_linkDown _ hu]

theorem registerWrite_linkDown {s : State} (off bytes val : Nat) (hu : s.hif.linkUp = false) :
    registerWrite off bytes val s = s := by
  have hword (o : Nat) (v : Word) : bar0Word o v s = s := hostWrite_linkDown _ hu
  simp only [registerWrite, hword, hostWrite_linkDown _ hu, ite_self]

theorem registerWrite_linkDown_does {s : State} {off : Nat} (n : Fin 9) (v : BitVec 64) (hs : s.heard)
    (hu : s.hif.linkUp = false) (ho : off < 0x400000) : DoesP (.registerWrite off n v) s s := by
  refine ((if_neg (not_le.2 ho)).trans (hostAct_next _ hs)).trans ?_
  rw [registerWrite_linkDown _ _ _ hu]

/-- Settles O6: every command but the return of VAUX is an action the dark machine does not take, every host command listed is one the
latch discards, and what comes over the link does not arrive while it is down. -/
theorem silentMachineTakesNoCommand : Obligations.SilentMachineTakesNoCommand := by
  refine fun i s => ⟨exec_dark, fun hs hl => ?_, fun hs hu => ?_⟩
  · have hlatched {i : Instr} {f : State → State} (hi : exec i = hostAct f) : exec i s = .next (framed {} s s) := by
      rw [hi, hostAct_latched f hs hl]
    exact ⟨fun _ => hlatched rfl, fun _ => hlatched rfl, fun _ _ => hlatched rfl, fun _ _ _ => hlatched rfl,
      fun _ _ _ => hlatched rfl, fun _ => hlatched rfl, fun _ n v ho => registerWrite_latched n v hs hl ho,
      fun _ _ => hlatched rfl, fun _ => hlatched rfl, fun _ => hlatched rfl⟩
  · have hdown {i : Instr} (f : State → State) (hi : exec i s = hostBell f s) : Does i s s := hostBell_linkDown hi hs hu
    exact ⟨fun _ _ => hdown _ rfl, fun _ _ => hdown _ rfl, fun _ _ => hdown _ rfl, fun _ _ _ => hdown _ rfl, fun _ => hdown _ rfl,
      fun _ n v ho => registerWrite_linkDown_does n v hs hu ho⟩

end Sys2Proof.Machine
end

section
/-!
PROOFS. The entries a ring takes: what an interrupt and a new entry leave alone, the completion at the index of its ring, and the event
on the ring of its source, counted, or not delivered (R213, R217, R221, R222, R235, R244).
-/
namespace Sys2Proof.Machine
open Sys2Proof

/-! ### Rings and their indices -/

theorem ring_modRing_same (s : State) (k : RKind) (i : Nat) (f : Ring → Ring) : (s.modRing k i f).ring k i = f (s.ring k i) :=
  tabGet_tabMod_same _ _ _

/-- What a change of one ring keeps of every ring's record. -/
theorem ring_modRing_reads {β : Type} (g : Ring → β) (s : State) (k : RKind) (i : Nat) {f : Ring → Ring} (hf : ∀ r, g (f r) = g r)
    (k' : RKind) (i' : Nat) : g ((s.modRing k i f).ring k' i') = g (s.ring k' i') := by
  unfold State.ring State.modRing
  by_cases h : rkey k' i' = rkey k i
  · dsimp only
    rw [h, tabGet_tabMod_same, hf]
  · exact congrArg g (tabGet_tabMod_ne _ _ h)

theorem fINDEX_lo (k : RKind) : (fINDEX k).lo = 0 := by cases k <;> rfl
theorem fINDEX_width (k : RKind) : (fINDEX k).width = 16 := by cases k <;> rfl

/-- The producer index moves on by one modulo the depth (R221). -/
theorem advance_index {k : RKind} {i : Nat} {s : State} (h : s.depth k i ≤ 65536) :
    (advance k i s).get (fINDEX k) i = (s.get (fINDEX k) i + 1) % s.depth k i := by
  have hpos : 0 < s.depth k i := Nat.two_pow_pos _
  have hlt := Nat.mod_lt (s.get (fINDEX k) i + 1) hpos
  show (s.put (fINDEX k) _ i).get (fINDEX k) i = _
  rw [get_put_same _ _ _ _ _ (by rw [fINDEX_lo, fINDEX_width]; decide), fINDEX_width, Nat.mod_eq_of_lt (by omega)]

/-- The pass counts up as the index wraps (R221). -/
theorem advance_pass (k : RKind) (i : Nat) (s : State) : ((advance k i s).ring k i).pass =
    (s.ring k i).pass + if (s.get (fINDEX k) i + 1) % s.depth k i = 0 then 1 else 0 := by
  unfold advance
  rw [ring_modRing_same]
  dsimp only
  split <;> rfl

theorem advance_part (k : RKind) (i : Nat) (s : State) : (advance k i s).part = s.part :=
  (modRing_part _ _ _ _).trans (put_part _ _ _ _ _)

theorem put_ring (s : State) (f : Fld) (v i j : Nat) (k : RKind) (n : Nat) : (s.put f v i j).ring k n = s.ring k n := (rfl)

/-- Of a ring's record only the pass moves with its index. -/
theorem advance_ring {β : Type} {g : Ring → β} (hg : ∀ r p, g { r with pass := p } = g r) (k : RKind) (i : Nat) (s : State)
    (k' : RKind) (i' : Nat) : g ((advance k i s).ring k' i') = g (s.ring k' i') := by
  unfold advance
  rw [ring_modRing_reads g _ _ _ (fun _ => hg _ _), put_ring]

/-- What host memory holds does not move with an index. -/
theorem advance_hif {β : Type} {g : Hif → β} (hg : ∀ x r, g { x with rings := r } = g x) (k : RKind) (i : Nat) (s : State) :
    g (advance k i s).hif = g s.hif :=
  (hg _ _).trans (congrArg g (put_hif s _ _ _ _))

/-! ### What an interrupt and a new entry leave alone (R213, R244) -/

/-- What `g` reads no issued or pending vector changes. -/
structure OffVectors {β : Type} (g : State → β) : Prop where
  pba : ∀ t v i, g (State.put t MSIX_PBA_PENDING v i) = g t
  msi : ∀ t x, g { t with hif := { t.hif with msi := x } } = g t

theorem OffVectors.issueVector {β : Type} {g : State → β} (h : OffVectors g) (v : Nat) (s : State) : g (issueVector v s) = g s := by
  unfold Machine.issueVector
  split
  · exact h.pba _ _ _
  · exact h.msi _ _

/-- Nor does what it reads depend on which entries of a ring still wait for their interrupt. -/
structure OffSignals {β : Type} (g : State → β) : Prop extends OffVectors g where
  ring : ∀ t k i (u : Ring → Nat) (a : Ring → Option Nat), g (State.modRing t k i (fun r => { r with unsig := u r, sigAt := a r })) = g t

section
variable {β : Type} {g : State → β} (h : OffSignals g)
include h

theorem OffSignals.signalRing (k : RKind) (i : Nat) (s : State) : g (signalRing k i s) = g s :=
  (h.issueVector _ _).trans (h.ring _ _ _ _ _)

theorem OffSignals.noteEntry (k : RKind) (i : Nat) (s : State) : g (noteEntry k i s) = g s := by
  unfold Machine.noteEntry
  dsimp only
  rw [apply_ite g, h.signalRing, ite_self]
  exact h.ring _ _ _ _ _
end

theorem offSignals_part : OffSignals State.part :=
  ⟨⟨fun t v i => put_part t _ v i 0, fun _ _ => rfl⟩, fun _ _ _ _ _ => rfl⟩

/-- What host memory holds. -/
theorem offSignals_memory {β : Type} {g : Hif → β} (hg : ∀ x m r, g { x with msi := m, rings := r } = g x) :
    OffSignals (fun t => g t.hif) where
  pba t v i := congrArg g (put_hif t MSIX_PBA_PENDING v i 0)
  msi t x := hg t.hif x t.hif.rings
  ring t _ _ _ _ := hg t.hif t.hif.msi _

/-- A register of HIF below the pending bits of the vectors. -/
theorem offSignals_get {f : Fld} {i : Nat} (h : regOff f.fam i 0 < MSIX_PBA.base) : OffSignals (State.get · f i) where
  pba _ _ n := get_put_ne _ _ _ _ _ _ _ _ (.inr (h.trans_le (base_le_regOff MSIX_PBA n 0)).ne)
  msi _ _ := rfl
  ring _ _ _ _ _ := rfl

/-- The number of a ring's passes, or of its reserved slots. -/
theorem offSignals_ring {β : Type} {g : Ring → β} (hg : ∀ r u a, g { r with unsig := u, sigAt := a } = g r) (k : RKind) (i : Nat) :
    OffSignals (fun t => g (t.ring k i)) where
  pba t v n := congrArg (fun x : Hif => g (tabGet x.rings (rkey k i))) (put_hif t MSIX_PBA_PENDING v n 0)
  msi _ _ := rfl
  ring _ _ _ _ _ := ring_modRing_reads g _ _ _ (fun _ => hg _ _ _) _ _

/-! ### Completions (R217, R221) -/

theorem length_cplBytes (e : CplEntry) : (cplBytes e).length = 16 := by
  simp only [cplBytes, List.length_append, length_leBytes, List.length_cons, List.length_nil]

/-- The completion stands in the entry at the ring's index, and the slot reserved for it is given back. -/
def cplEntered (c : Nat) (e : CplEntry) (s : State) : State :=
  { releaseSlot c s with
    hif := { (releaseSlot c s).hif with
      cpl := tabSet s.hif.cpl (ekey c (s.get CPL_STAT_INDEX c)) { e with phase := s.phase .cpl c } } }

theorem releaseSlot_phase (c : Nat) (s : State) (k : RKind) (i : Nat) : (releaseSlot c s).phase k i = s.phase k i :=
  ring_modRing_reads (fun r => decide (r.pass % 2 = 0)) _ _ _ (fun _ => by rfl) _ _

theorem writeCpl_live {c : Nat} {s : State} (e : CplEntry) (h : s.ringLive .cpl c = true) :
    writeCpl c e s = hifOnly s (noteEntry .cpl c (advance .cpl c (cplEntered c e s))) := by
  unfold writeCpl cplEntered
  dsimp only
  rw [if_neg (by simp [show (releaseSlot c s).ringLive .cpl c = true from h]), releaseSlot_phase]
  rfl

theorem writeCpl_dead {c : Nat} {s : State} (e : CplEntry) (h : s.ringLive .cpl c = false) : writeCpl c e s = releaseSlot c s :=
  if_pos (by rw [show (releaseSlot c s).ringLive .cpl c = false from h]; rfl)

theorem hifOnly_hif (s t : State) : (hifOnly s t).hif = t.hif := (rfl)
theorem hifOnly_ring (s t : State) (k : RKind) (i : Nat) : (hifOnly s t).ring k i = t.ring k i := (rfl)

theorem hifOnly_get_hif {s t : State} {f : Fld} (i : Nat) (hp : t.part = s.part) (hf : f.fam.blk = .hif) :
    (hifOnly s t).get f i = t.get f i :=
  get_congr_blk f i 0 (by rw [hf]; rfl) hp.symm

section
variable {c : Nat} {s : State} (e : CplEntry) (hlive : s.ringLive .cpl c = true)
include hlive

theorem writeCpl_entry (k : Nat) : tabGet (writeCpl c e s).hif.cpl k =
    tabGet (tabSet s.hif.cpl (ekey c (s.get CPL_STAT_INDEX c)) { e with phase := s.phase .cpl c }) k := by
  rw [writeCpl_live e hlive, hifOnly_hif]
  exact ((offSignals_memory (g := fun x => tabGet x.cpl k) fun _ _ _ => rfl).noteEntry .cpl c _).trans
    (advance_hif (g := fun x => tabGet x.cpl k) (fun _ _ => rfl) .cpl c _)

theorem writeCpl_index (hc : c < 16) (hd : s.get CPL_CFG_LOG2D c ≤ 16) :
    (writeCpl c e s).get CPL_STAT_INDEX c = (s.get CPL_STAT_INDEX c + 1) % s.depth .cpl c := by
  have hdepth : (cplEntered c e s).depth .cpl c ≤ 65536 := Nat.pow_le_pow_right (by decide) hd
  have hbelow : regOff CPL_STAT c 0 < MSIX_PBA.base := by
    show 0x1A120C + 0x20 * c + 4 * 0 < 0x1B8000
    omega
  have hpart : (noteEntry .cpl c (advance .cpl c (cplEntered c e s))).part = s.part :=
    (offSignals_part.noteEntry .cpl c _).trans (advance_part .cpl c _)
  rw [writeCpl_live e hlive, hifOnly_get_hif _ hpart rfl, (offSignals_get hbelow).noteEntry .cpl c]
  exact advance_index hdepth

theorem writeCpl_pass : ((writeCpl c e s).ring .cpl c).pass =
    (s.ring .cpl c).pass + if (s.get CPL_STAT_INDEX c + 1) % s.depth .cpl c = 0 then 1 else 0 := by
  have hrelease : ((cplEntered c e s).ring .cpl c).pass = (s.ring .cpl c).pass :=
    ring_modRing_reads (f := fun r => { r with reserved := r.reserved - 1 }) Ring.pass s .cpl c (fun _ => rfl) .cpl c
  rw [writeCpl_live e hlive, hifOnly_ring, ← hrelease]
  exact ((offSignals_ring (g := Ring.pass) (fun _ _ _ => rfl) .cpl c).noteEntry .cpl c _).trans (advance_pass .cpl c _)

theorem writeCpl_reserved : ((writeCpl c e s).ring .cpl c).reserved = (s.ring .cpl c).reserved - 1 := by
  have hrelease : ((cplEntered c e s).ring .cpl c).reserved = (s.ring .cpl c).reserved - 1 :=
    congrArg Ring.reserved (ring_modRing_same s .cpl c fun r => { r with reserved := r.reserved - 1 })
  rw [writeCpl_live e hlive, hifOnly_ring, ← hrelease]
  exact ((offSignals_ring (g := Ring.reserved) (fun _ _ _ => rfl) .cpl c).noteEntry .cpl c _).trans
    (advance_ring (g := Ring.reserved) (fun _ _ => rfl) .cpl c _ .cpl c)
end

/-- Settles O10: the completion enters at the index, the index and the pass advance, and what is noted for its interrupt leaves all of
them alone. -/
theorem completionsAreWritten : Obligations.CompletionsAreWritten := by
  refine fun s c e => ⟨length_cplBytes e, fun hlive hd => ⟨?_, fun k hk => ?_, writeCpl_index e hlive c.isLt hd,
    writeCpl_pass e hlive, writeCpl_reserved e hlive⟩, fun hdead k => ?_⟩
  · rw [writeCpl_entry e hlive, tabGet_tabSet_same]
    rfl
  · rw [writeCpl_entry e hlive, tabGet_tabSet_ne _ _ hk]
  · rw [writeCpl_dead e hdead]
    rfl

/-! ### Events (R235) -/

/-- A fold whose steps leave the state alone. -/
theorem forAll_fixed {σ α : Type} {l : List α} {f : α → σ → σ} {s : σ} (h : ∀ a ∈ l, f a s = s) : forAll l f s = s := by
  unfold forAll
  induction l with
  | nil => rfl
  | cons a l ih =>
    rw [List.foldl_cons, h a List.mem_cons_self]
    exact ih fun b hb => h b (List.mem_cons_of_mem a hb)

section
variable {r : Report} {s : State} (conseq : Bool)

theorem deliver_disabled (hen : (s.evMap r.src).2 = false) : deliver r conseq s = s := by
  unfold deliver
  dsimp only
  rw [hen]
  rfl

/-- A ring without room takes no summary, and the event is counted. -/
theorem deliver_noRoom (hen : (s.evMap r.src).2 = true) (hroom : s.evtRoom (s.evMap r.src).1 = false) :
    deliver r conseq s = s.count HIF_EVOVF_COUNT r.src := by
  have hsum : summaries (s.evMap r.src).1 s = s := forAll_fixed fun src _ => by simp [summaryOf, hroom]
  unfold deliver
  dsimp only
  rw [hen, hsum, ite_self, hroom]
  rfl

/-- The entry of an event (R222). -/
def State.eventEntry (s : State) (r : Report) (conseq : Bool) : EvtEntry :=
  { code := r.code, src := r.src, flags := r.cls + bit conseq * 4, frac := s.devTime % 2 ^ 32, sec := s.devTime / 2 ^ 32 % 2 ^ 32
    p0 := r.p0, p1 := r.p1, p2 := r.p2, p3 := r.p3 }

/-- A ring that has room and owes no summary takes the event. -/
theorem deliver_written (hen : (s.evMap r.src).2 = true) (hroom : s.evtRoom (s.evMap r.src).1 = true)
    (howes : s.owesSummary (s.evMap r.src).1 = false) :
    deliver r conseq s = writeEvt (s.evMap r.src).1 (s.eventEntry r conseq) s := by
  have hsum : summaries (s.evMap r.src).1 s = s := forAll_fixed fun src hsrc => by
    have hnone := List.any_eq_false.1 howes src hsrc
    exact if_neg fun h => hnone (Bool.and_eq_true_iff.1 h).1
  unfold deliver
  dsimp only
  rw [hen, hsum, ite_self, hroom, howes, if_neg (by decide)]
  exact if_pos rfl
end

theorem writeEvt_entry (e : Nat) (ent : EvtEntry) (s : State) :
    tabGet (writeEvt e ent s).hif.evt (ekey e (s.get EVT_STAT_INDEX e)) = { ent with
      flags := ent.flags % 128 + bit (s.phase .evt e) * 128, seq := (s.ring .evt e).seq % 65536 } :=
  ((offSignals_memory (g := fun x => tabGet x.evt _) fun _ _ _ => rfl).noteEntry .evt e _).trans (tabGet_tabSet_same _ _ _)

theorem evovf_count_same (s : State) (n : Nat) :
    (s.count HIF_EVOVF_COUNT n).get HIF_EVOVF_COUNT n = min (s.get HIF_EVOVF_COUNT n + 1) 65535 := by
  have hlt : s.get HIF_EVOVF_COUNT n < 2 ^ 16 := get_lt _ _ _ _
  unfold State.count
  rw [get_put_same _ _ _ _ _ (by decide)]
  exact Nat.mod_eq_of_lt (by simp only [satAdd, HIF_EVOVF_COUNT]; omega)

theorem evovf_count_ne (s : State) {n m : Nat} (h : m ≠ n) :
    (s.count HIF_EVOVF_COUNT n).get HIF_EVOVF_COUNT m = s.get HIF_EVOVF_COUNT m :=
  get_put_ne _ _ _ _ _ _ _ _ (.inr (regOff_ne 0 (by decide) h))

/-- Settles O11: a ring that is not live or has no free slot has no room, and the three cases are those of the delivery. -/
theorem eventsAreDeliveredOrCounted : Obligations.EventsAreDeliveredOrCounted := by
  refine fun s r c _ => ⟨deliver_disabled c, fun hen hfull => ?_, fun hen hlive howes hfree => ?_⟩
  · have hroom : s.evtRoom (s.evMap r.src).1 = false := by
      unfold State.evtRoom
      obtain h | h := hfull <;> simp [h]
    rw [deliver_noRoom c hen hroom]
    exact ⟨evovf_count_same s r.src, fun x _ hx => evovf_count_ne s hx⟩
  · have hroom : s.evtRoom (s.evMap r.src).1 = true := by simp [State.evtRoom, hlive, hfree]
    dsimp only
    rw [deliver_written c hen hroom howes, writeEvt_entry]
    rfl

end Sys2Proof.Machine
end

section
/-!
PROOFS. What ring traffic, completions and reports leave alone of the rings' own registers: their configuration, their errors and
whether they are stopped (R213-R223, R235-R241, R367-R386).
-/
namespace Sys2Proof.Machine
open Sys2Proof

/-! ### Ring traffic (R213, R221, R222, R235) -/

/-- What `g` reads no ring traffic changes: of the host interface it is at most the Volley slots, and of the registers neither an
index nor an event counter nor a pending vector. -/
structure OffTraffic {β : Type} (g : State → β) : Prop where
  hif : ∀ t x, x.slots = t.hif.slots → g { t with hif := x } = g t
  index : ∀ t k v i, g (State.put t (fINDEX k) v i) = g t
  count : ∀ t v i, g (State.put t HIF_EVOVF_COUNT v i) = g t
  pba : ∀ t v i, g (State.put t MSIX_PBA_PENDING v i) = g t

theorem offTraffic_part : OffTraffic State.part :=
  ⟨fun _ _ _ => rfl, fun t k v i => put_part t (fINDEX k) v i 0, fun t v i => put_part t HIF_EVOVF_COUNT v i 0,
    fun t v i => put_part t MSIX_PBA_PENDING v i 0⟩

section
variable {β : Type} {g : State → β} (h : OffTraffic g)
include h

theorem OffTraffic.offSignals : OffSignals g := ⟨⟨h.pba, fun _ _ => h.hif _ _ rfl⟩, fun _ _ _ _ _ => h.hif _ _ rfl⟩

theorem OffTraffic.modRing (s : State) (k : RKind) (i : Nat) (f : Ring → Ring) : g (s.modRing k i f) = g s := h.hif _ _ rfl

theorem OffTraffic.modExport (s : State) (e : Nat) (f : Export → Export) : g (s.modExport e f) = g s := h.hif _ _ rfl

theorem OffTraffic.noteEntry (k : RKind) (i : Nat) (s : State) : g (noteEntry k i s) = g s := h.offSignals.noteEntry k i s

theorem OffTraffic.advance (k : RKind) (i : Nat) (s : State) : g (advance k i s) = g s :=
  (h.modRing _ _ _ _).trans (h.index _ _ _ _)

theorem OffTraffic.writeEvt (e : Nat) (ent : EvtEntry) (s : State) : g (writeEvt e ent s) = g s := by
  unfold Machine.writeEvt
  dsimp only
  rw [h.noteEntry, h.modRing, h.advance]
  exact h.hif _ _ rfl

theorem OffTraffic.summaries (e : Nat) (s : State) : g (summaries e s) = g s := by
  refine forAll_keeps g _ _ _ fun src t => ?_
  unfold summaryOf
  dsimp only
  rw [apply_ite g, h.writeEvt, h.count, ite_self]

theorem OffTraffic.deliver (r : Report) (conseq : Bool) (s : State) : g (deliver r conseq s) = g s := by
  have hsum : g (if s.ringLive .evt (s.evMap r.src).1 then Machine.summaries (s.evMap r.src).1 s else s) = g s := by
    rw [apply_ite g, h.summaries, ite_self]
  have hcount (t : State) : g (t.count HIF_EVOVF_COUNT r.src) = g t := h.count _ _ _
  unfold Machine.deliver
  dsimp only
  rw [apply_ite g, apply_ite g, h.writeEvt, hcount, hsum, ite_self, ite_self]

/-- Buffers that the host posts enter host memory only (R223). -/
theorem OffTraffic.postBuffers (r : Nat) (l : List (Nat × Nat)) (i : Nat) (s : State) : g (postBuffers r l i s) = g s :=
  forAll_keeps g _ _ _ fun _ _ => h.hif _ _ rfl
end

/-! ### Records handed over (R223, R236-R241) -/

/-- A fold keeps of its state what each of its steps keeps. -/
theorem foldl_snd_keeps {α γ σ β : Type} (g : σ → β) (l : List α) (f : γ × σ → α → γ × σ) (b : γ × σ)
    (hf : ∀ b a, g (f b a).2 = g b.2) : g (l.foldl f b).2 = g b.2 := by
  induction l generalizing b with
  | nil => rfl
  | cons a l ih => exact (ih _).trans (hf _ _)

/-- Nor does a completion change what `g` reads. -/
structure OffCompletions {β : Type} (g : State → β) : Prop extends OffTraffic g where
  hifOnly : ∀ s t, t.part = s.part → g (hifOnly s t) = g t

section
variable {β : Type} {g : State → β} (h : OffCompletions g)
include h

theorem OffCompletions.writeCpl (c : Nat) (e : CplEntry) (s : State) : g (writeCpl c e s) = g s := by
  have hrelease : g (releaseSlot c s) = g s := h.modRing _ _ _ _
  cases hlive : s.ringLive .cpl c with
  | false => rw [writeCpl_dead e hlive, hrelease]
  | true =>
    have hpart : (Machine.noteEntry .cpl c (Machine.advance .cpl c (cplEntered c e s))).part = s.part :=
      (offTraffic_part.noteEntry _ _ _).trans (offTraffic_part.advance _ _ _)
    rw [writeCpl_live e hlive, h.hifOnly _ _ hpart, h.noteEntry, h.advance, ← hrelease]
    exact h.hif _ _ rfl

theorem OffCompletions.fillRing (r kind : Nat) (bytes : List Nat) (n off : Nat) (s : State) :
    g (fillRing r kind bytes n off s).2 = g s := by
  induction n generalizing off s with
  | zero => rfl
  | succ n ih =>
    unfold Machine.fillRing
    split
    · rfl
    · dsimp only
      rw [ih, h.noteEntry, h.advance, h.modRing]
      exact h.hif _ _ rfl

theorem OffCompletions.fillExport (e kind : Nat) (waits : Bool) (bytes : List Nat) (n off : Nat) (s : State) :
    g (fillExport e kind waits bytes n off s).2 = g s := by
  induction n generalizing off s with
  | zero => rfl
  | succ n ih =>
    unfold Machine.fillExport
    dsimp only
    split
    · rfl
    · rw [ih]
      exact h.modExport _ _ _

theorem OffCompletions.pushWaiting (w : Waiting) (s : State) : g (pushWaiting w s).2 = g s := by
  unfold Machine.pushWaiting
  dsimp only
  split
  · split
    · rfl
    · exact h.fillRing _ _ _ _ _ _
  · split
    · exact h.fillExport _ _ _ _ _ _ _
    · rfl

theorem OffCompletions.pump (s : State) : g (pump s) = g s := by
  unfold Machine.pump
  refine (h.hif _ _ (by rfl)).trans (foldl_snd_keeps g _ _ _ fun b w => ?_)
  dsimp only
  split
  · split
    · exact (h.writeCpl _ _ _).trans (h.pushWaiting _ _)
    · exact h.pushWaiting _ _
  · exact h.pushWaiting _ _
end

/-! ### Reports (R367-R386) -/

/-- Nor does a report change what `g` reads: it is nothing of the collector. -/
structure OffReports {β : Type} (g : State → β) : Prop extends OffTraffic g where
  flt : ∀ t x, g { t with flt := x } = g t
  fltWord : ∀ t f w i j, f.blk = .flt → g (State.putWord t f w i j) = g t
  report : ∀ s t, t.part = s.part → g (reportOnly s t) = g t

theorem offReports_part : OffReports State.part where
  toOffTraffic := offTraffic_part
  flt _ _ := rfl
  fltWord t f w i j _ := putWord_part t f w i j
  report _ _ hp := hp.symm

/-- What the collector has made of a report, before all but its own part is put back. -/
def accepted (a : Area) (r : Report) (s : State) : State :=
  let c := s.covered r.src
  let acts := 2 ≤ r.cls && !c
  let kept := if c then withhold a r (s.count FLT_MSGCNT_CONSEQUENT) else s
  let told := deliver r c (recordReport r c (if acts then kept.putBit FLT_PEND_PEND r.src true else kept))
  if acts then openShadow a (startFlush told) else told

theorem accept_eq (a : Area) (r : Report) (s : State) : accept a r s = reportOnly s (accepted a r s) := rfl

section
variable {β : Type} {g : State → β} (h : OffReports g)
include h

theorem OffReports.fltCount (f : Fld) (s : State) (hf : f.fam.blk = .flt) : g (s.count f) = g s := h.fltWord _ _ _ _ _ hf

theorem OffReports.startFlush (s : State) : g (startFlush s) = g s := by
  unfold Machine.startFlush
  simp only [apply_ite g, h.flt, ite_self]

theorem OffReports.bufferRecord (r : Report) (conseq : Bool) (p3 : Nat) (s : State) : g (bufferRecord r conseq p3 s) = g s := by
  have hcount (f : Fld) (t : State) (hf : f.fam.blk = .flt) : g (t.count f) = g t := h.fltCount f t hf
  unfold Machine.bufferRecord
  dsimp only
  simp only [apply_ite g, h.deliver, h.startFlush, h.flt, hcount FLT_SBLOST_REFUSED _ rfl, hcount FLT_SBLOST_LOST _ rfl,
    hcount FLT_MSGCNT_CONSEQUENT _ rfl, ite_self]

theorem OffReports.recordReport (r : Report) (conseq : Bool) (s : State) : g (recordReport r conseq s) = g s := by
  unfold Machine.recordReport
  dsimp only
  simp only [apply_ite g, h.bufferRecord, h.flt, ite_self]

theorem OffReports.accepted (a : Area) (r : Report) (s : State) : g (accepted a r s) = g s := by
  have hkept (t : State) : g (withhold a r t) = g t := by
    unfold withhold
    split
    · rfl
    · exact h.flt _ _
  have hbit (t : State) : g (t.putBit FLT_PEND_PEND r.src true) = g t := h.fltWord _ _ _ _ _ rfl
  unfold Machine.accepted openShadow
  dsimp only
  simp only [apply_ite g, h.flt, h.startFlush, h.deliver, h.recordReport, hbit, hkept,
    h.fltCount FLT_MSGCNT_CONSEQUENT _ rfl, ite_self]

theorem OffReports.accept (a : Area) (r : Report) (s : State) : g (accept a r s) = g s := by
  rw [accept_eq, h.report _ _ (offReports_part.accepted a r s), h.accepted]

theorem OffReports.emit (k : EvKind) (src : Nat) (s : State) (a : Area) (p0 p1 p2 p3 : Nat) :
    g (emit k src s a p0 p1 p2 p3) = g s := h.accept _ _ _
end

/-! ### The registers of a ring -/

/-- Registers of one offset and one reset value read the same word. -/
theorem word_eq_of_offset (s : State) {f g : RegFam} {i j i' j' : Nat} (hb : f.blk = g.blk) (ho : regOff f i j = regOff g i' j')
    (hr : regReset s.part f i = regReset s.part g i') : s.word f i j = s.word g i' j' := by
  unfold State.word regWord
  rw [hb, ho, hr]

theorem regReset_index (v : Variant) (k : RKind) (n : Nat) : regReset v (fINDEX k).fam n = 0#32 := by
  cases k <;> cases v <;> cases n <;> rfl

/-- An index stands in no configuration register. -/
theorem regOff_cfg_ne_index (k k' : RKind) (i n : Nat) : regOff (cfgFam k) i 0 ≠ regOff (fINDEX k').fam n 0 := by
  have hcfg : regOff (cfgFam k) i 0 % 32 = 8 := by
    cases k <;> simp only [cfgFam, regOff, CMD_CFG, CPL_CFG, EVT_CFG, STR_CFG] <;> omega
  have hindex : regOff (fINDEX k').fam n 0 % 32 = 12 := by
    cases k' <;> simp only [fINDEX, regOff, CMD_STAT_INDEX, CPL_STAT_INDEX, EVT_STAT_INDEX, STR_STAT_INDEX, CMD_STAT, CPL_STAT,
      EVT_STAT, STR_STAT] <;> omega
  omega

/-- The index of any ring leaves alone what stands above it in the status of a ring, at whatever offset it is put: all four kinds lay
their status out alike. -/
theorem get_put_index_above (s : State) {k : RKind} {f : Fld} (k' : RKind) (v i n : Nat) (hf : f.fam = (fINDEX k).fam) (hlo : 16 ≤ f.lo) :
    (s.put (fINDEX k') v n).get f i = s.get f i := by
  have hblk (k : RKind) : (fINDEX k).fam.blk = .hif := by cases k <;> rfl
  by_cases ho : regOff f.fam i 0 = regOff (fINDEX k').fam n 0
  · have hread (t : State) : t.get f i = t.get { f with fam := (fINDEX k').fam } n :=
      congrArg (getBits · f.lo f.width) (word_eq_of_offset t (by rw [hf, hblk, hblk]) ho (by rw [hf, regReset_index, regReset_index]))
    rw [hread, hread]
    exact get_put_apart _ _ _ _ _ _ rfl (by rw [fINDEX_lo, fINDEX_width]; decide)
      (.inr (by rw [fINDEX_lo, fINDEX_width]; exact hlo))
  · exact get_put_ne _ _ _ _ _ _ _ _ (.inr ho)

/-- A register below the event counters, of which no index is a part. -/
theorem offTraffic_get {f : Fld} {i : Nat} (hlt : regOff f.fam i 0 < HIF_EVOVF.base)
    (hindex : ∀ t k v n, (State.put t (fINDEX k) v n).get f i = t.get f i) : OffTraffic (State.get · f i) where
  hif _ _ _ := rfl
  index := hindex
  count _ _ n := get_put_ne _ _ _ _ _ _ _ _ (.inr (hlt.trans_le (base_le_regOff HIF_EVOVF n 0)).ne)
  pba _ _ n := get_put_ne _ _ _ _ _ _ _ _
    (.inr ((hlt.trans (by decide : HIF_EVOVF.base < MSIX_PBA.base)).trans_le (base_le_regOff MSIX_PBA n 0)).ne)

section
variable {f : Fld} {i : Nat} (h : OffTraffic (State.get · f i)) (hf : f.fam.blk = .hif)
include h hf

theorem offCompletions_get : OffCompletions (State.get · f i) where
  toOffTraffic := h
  hifOnly _ _ hp := hifOnly_get_hif i hp hf

theorem offReports_get : OffReports (State.get · f i) where
  toOffTraffic := h
  flt _ _ := rfl
  fltWord _ _ _ _ _ hb := get_putWord_ne _ _ _ _ _ _ _ _ (.inl (by rw [hf, hb]; decide))
  report _ _ hp := get_congr_blk f i 0 (by rw [hf]; rfl) hp.symm
end

section
variable {k : RKind} {i : Nat} (hi : i < (cfgFam k).n1)
include hi

/-- A field of a ring's configuration. -/
theorem offTraffic_cfg {f : Fld} (hf : f.fam = cfgFam k) : OffTraffic (State.get · f i) := by
  refine offTraffic_get ?_ fun t k' v n => get_put_ne _ _ _ _ _ _ _ _ (.inr (by rw [hf]; exact regOff_cfg_ne_index k k' i n))
  rw [hf]
  cases k <;> simp only [cfgFam, regOff, HIF_EVOVF, CMD_CFG, CPL_CFG, EVT_CFG, STR_CFG] at hi ⊢ <;> omega

/-- A field of a ring's status above its index. -/
theorem offTraffic_stat {f : Fld} (hf : f.fam = (fINDEX k).fam) (hlo : 16 ≤ f.lo) : OffTraffic (State.get · f i) := by
  refine offTraffic_get ?_ fun t k' v n => get_put_index_above t k' v i n hf hlo
  rw [hf]
  cases k <;> simp only [cfgFam, fINDEX, regOff, HIF_EVOVF, CMD_CFG, CPL_CFG, EVT_CFG, STR_CFG, CMD_STAT_INDEX, CPL_STAT_INDEX,
    EVT_STAT_INDEX, STR_STAT_INDEX, CMD_STAT, CPL_STAT, EVT_STAT, STR_STAT] at hi ⊢ <;> omega
end

end Sys2Proof.Machine
end

section
/-!
PROOFS. Doorbells and the heartbeat (R218, R219, R223, R232, R237).
-/
namespace Sys2Proof.Machine
open Sys2Proof

theorem hostBell_does {i : Instr} {f : State → State} {s u : State} (hi : exec i s = hostBell f s) (hl : s.linked)
    (hu : f s = u) : Does i s u := by
  unfold Does
  rw [hi, hostBell_next f hl, hu]

/-! ### Doorbells (R218, R219) -/

section
variable {k : RKind} {i v : Nat} (off : Nat) (f : State → State) {s : State}

theorem doorbell_disabled (hen : s.flag (fEN k) i = false) : doorbell k i v off f s = discard off true s :=
  if_pos (by rw [hen]; rfl)

variable (hen : s.flag (fEN k) i = true)
include hen

theorem doorbell_stopped (hst : s.flag (fSTOPPED k) i = true) : doorbell k i v off f s = s :=
  (if_neg (by simp [hen])).trans (if_pos hst)

variable (hst : s.flag (fSTOPPED k) i = false)
include hst

theorem doorbell_outOfRange (hv : s.depth k i ≤ v) : doorbell k i v off f s = ringError k i 1 s := by
  unfold doorbell
  rw [if_neg (by simp [hen]), if_neg (by simp [hst])]
  exact if_pos (by simp [hv])

/-- A tail of the host moves anywhere in the ring, a head of it only between its old place and the producer. -/
theorem doorbell_moves (hv : v < s.depth k i) (htail : k = .cmd ∨ k = .str ∨
      used (s.depth k i) (s.ring k i).other v ≤ used (s.depth k i) (s.ring k i).other (s.get (fINDEX k) i)) :
    doorbell k i v off f s = f (s.modRing k i (fun r => { r with other := v })) := by
  unfold doorbell
  rw [if_neg (by simp [hen]), if_neg (by simp [hst])]
  refine if_neg ?_
  cases k <;> simp_all
end

theorem bar2Write_bell {off : Nat} {b : Bell} (v : Word) (bufs : Option (List (Nat × Nat))) (s : State) (h : bellAt off = some b) :
    bar2Write off 4 v bufs s = ring b v bufs s := by
  unfold bar2Write
  rw [h]
  exact if_pos rfl

/-- A narrower write, or one of no doorbell, does nothing (R218). -/
theorem bar2Write_nothing {off n : Nat} (v : Word) (bufs : Option (List (Nat × Nat))) (s : State)
    (h : n ≠ 4 ∨ bellAt off = none) : bar2Write off n v bufs s = s := by
  unfold bar2Write
  split
  next b hb => exact if_neg (h.resolve_right (by simp [hb]))
  next => rfl

theorem bellAt_cmd (r : Fin 16) : bellAt (0x40 * r.val) = some (.cmd r) := by revert r; decide
theorem bellAt_cpl (c : Fin 16) : bellAt (0x400 + 0x40 * c.val) = some (.cpl c) := by revert c; decide
theorem bellAt_evt (e : Fin 8) : bellAt (0x800 + 0x40 * e.val) = some (.evt e) := by revert e; decide
theorem bellAt_str (r : Fin 64) : bellAt (0xA00 + 0x40 * r.val) = some (.str r) := by revert r; decide

/-- A doorbell acts as the one its offset addresses. -/
theorem bell_does {i : Instr} {off : Nat} {b : Bell} {v : Word} {bufs : Option (List (Nat × Nat))} {s u : State}
    (hi : exec i s = hostBell (bar2Write off 4 v bufs) s) (hl : s.linked) (hb : bellAt off = some b) (hu : ring b v bufs s = u) :
    Does i s u :=
  hostBell_does hi hl ((bar2Write_bell v bufs s hb).trans hu)

/-! ### Ring errors (R219) -/

theorem fERR_fam (k : RKind) : (fERR k).fam = (fINDEX k).fam := by cases k <;> rfl
theorem fERR_lo (k : RKind) : (fERR k).lo = 16 := by cases k <;> rfl
theorem fERR_width (k : RKind) : (fERR k).width = 3 := by cases k <;> rfl
theorem fSTOPPED_fam (k : RKind) : (fSTOPPED k).fam = (fINDEX k).fam := by cases k <;> rfl
theorem fSTOPPED_lo (k : RKind) : (fSTOPPED k).lo = 19 := by cases k <;> rfl
theorem fSTOPPED_width (k : RKind) : (fSTOPPED k).width = 1 := by cases k <;> rfl

/-- An error whose source is not covered stops the ring and shows why. -/
theorem ringError_shows {k : RKind} {err : Nat} (i : Nat) {s : State} (he : err < 8)
    (hc : s.covered (if k = .cmd then 192 + i else 208) = false) :
    (ringError k i err s).flag (fSTOPPED k) i = true ∧ (ringError k i err s).get (fERR k) i = err := by
  unfold ringError
  dsimp only
  rw [react_uncovered _ _ _ _ _ _ _ hc, State.flag, get_put_same _ _ _ _ _ (by rw [fSTOPPED_lo, fSTOPPED_width]; decide),
    get_put_apart _ _ _ _ _ _ (by rw [fERR_fam, fSTOPPED_fam]) (by rw [fSTOPPED_lo, fSTOPPED_width]; decide)
      (.inl (by rw [fERR_lo, fERR_width, fSTOPPED_lo])),
    get_put_same _ _ _ _ _ (by rw [fERR_lo, fERR_width]; decide), fERR_width, fSTOPPED_width]
  exact ⟨rfl, Nat.mod_eq_of_lt he⟩

/-! ### The tail of a stream ring (R223, R237) -/

theorem afterTail_running {r : Nat} {s t : State} (h : t.flag STR_STAT_STOPPED r = s.flag STR_STAT_STOPPED r) :
    afterTail r s t = t := if_neg (by simp [h])

theorem afterTail_stopped {r : Nat} {s t : State} (hs : s.flag STR_STAT_STOPPED r = false)
    (ht : t.flag STR_STAT_STOPPED r = true) : afterTail r s t = closeDest true r t := if_pos (by simp [hs, ht])

section
variable {r v : Nat} {l : List (Nat × Nat)} {s : State} (hen : s.flag STR_CFG_EN r = true)
  (hst : s.flag STR_STAT_STOPPED r = false)
include hen hst

/-- Buffers of 4,096 bytes and more are posted, and the records that wait move on; none of it stops the ring. -/
theorem streamTail_posts (hr : r < 64) (hv : v < s.depth .str r) (hl : ∀ b ∈ l, 4096 ≤ b.2) : streamTail r v (some l) s =
    pump (postBuffers r (l.take (used (s.depth .str r) (s.ring .str r).other v)) (s.ring .str r).other
      (s.modRing .str r (fun x => { x with other := v }))) := by
  have hkeeps : OffCompletions (State.get · STR_STAT_STOPPED r) :=
    offCompletions_get (offTraffic_stat (k := .str) hr rfl (by decide)) rfl
  have hsmall (n : Nat) : (l.take n).any (fun b => b.2 < 4096) = false :=
    List.any_eq_false.2 fun b hb => by simpa using hl b (List.mem_of_mem_take hb)
  unfold streamTail
  dsimp only
  rw [doorbell_moves (k := .str) _ _ hen hst hv (.inr (.inl rfl))]
  rw [hsmall, if_neg (by decide)]
  refine afterTail_running (congrArg (fun n => decide (n = 1)) ?_)
  exact (hkeeps.pump _).trans (hkeeps.postBuffers _ _ _ _)

/-- An index out of range, and a first buffer below 4,096 bytes, stop the ring and close the destination. -/
theorem streamTail_error (hc : s.covered 208 = false) (h : v < s.depth .str r →
      used (s.depth .str r) (s.ring .str r).other v ≠ 0 ∧ ∃ b, l.head? = some b ∧ b.2 < 4096) :
    ∃ w, w.covered 208 = false ∧ streamTail r v (some l) s = closeDest true r (ringError .str r 1 w) := by
  have hclose (w : State) (hw : w.covered 208 = false) : afterTail r s (ringError .str r 1 w) = closeDest true r (ringError .str r 1 w) :=
    afterTail_stopped hst (ringError_shows (k := .str) r (by decide) hw).1
  unfold streamTail
  dsimp only
  obtain hv | hv := Nat.lt_or_ge v (s.depth .str r)
  · obtain ⟨hused, b, hb, hsmall⟩ := h hv
    have hany : (l.take (used (s.depth .str r) (s.ring .str r).other v)).any (fun b => b.2 < 4096) = true := by
      obtain ⟨l', rfl⟩ := List.head?_eq_some_iff.1 hb
      obtain ⟨n, hn⟩ := Nat.exists_eq_succ_of_ne_zero hused
      rw [hn]
      simp [hsmall]
    refine ⟨s.modRing .str r (fun x => { x with other := v }), hc, ?_⟩
    rw [doorbell_moves (k := .str) _ _ hen hst hv (.inr (.inl rfl))]
    rw [show (s.modRing .str r fun x => { x with other := v }).depth .str r = s.depth .str r from rfl, hany, if_pos rfl]
    exact hclose _ hc
  · refine ⟨s, hc, ?_⟩
    rw [doorbell_outOfRange (k := .str) _ _ hen hst hv]
    exact hclose s hc
end

/-! ### The heartbeat (R232, R233) -/

/-- Supervision is armed, and where the host was lost a heartbeat has come since. -/
def heartbeatSeen (s : State) : State :=
  { s with hif := { s.hif with armed := true, hbAt := s.now, beatSince := s.hif.lost } }

theorem heartbeat_plain {s : State} (h : s.hif.lost = false ∨ s.hif.beatSince = true) : heartbeat s = heartbeatSeen s :=
  if_neg (by obtain h | h := h <;> simp [h])

theorem heartbeat_resumes {s : State} (hl : s.hif.lost = true) (hb : s.hif.beatSince = false) :
    heartbeat s = emit ev_HOST_RESUMED 209 (heartbeatSeen s) := if_pos (by simp [hl, hb])

/-- Settles O34: a doorbell takes the branch its conditions name, and the command of each kind is the doorbell at its offset. -/
theorem doorbellsAndHeartbeat : Obligations.DoorbellsAndHeartbeat := by
  refine fun s hl => ⟨fun k i v off f => ⟨doorbell_disabled off f, doorbell_stopped off f, doorbell_outOfRange off f,
      fun hen hst hv hk => doorbell_moves off f hen hst hv (hk.imp_right .inl),
      fun hen hst hv hu => doorbell_moves off f hen hst hv (.inr (.inr hu))⟩,
    fun r v hen hst hv => ?_, fun c v hen hst hv hu => ?_, fun e v hen hst hv hu => ?_, fun r v l hen hst hv hlen => ?_,
    fun v h => ?_, fun v hlost hbeat => ?_, fun r v b => ?_, fun r v l hen hst hc h => ?_, fun off n v b h => ?_⟩
  · exact bell_does rfl hl (bellAt_cmd r) (doorbell_moves (k := .cmd) (0x40 * r.val) (fun t => t) hen hst hv (.inl rfl))
  · exact bell_does rfl hl (bellAt_cpl c) (doorbell_moves (k := .cpl) (0x400 + 0x40 * c.val) (fun t => t) hen hst hv (.inr (.inr hu)))
  · exact bell_does rfl hl (bellAt_evt e) (doorbell_moves (k := .evt) (0x800 + 0x40 * e.val) (fun t => t) hen hst hv (.inr (.inr hu)))
  · exact ⟨_, bell_does rfl hl (bellAt_str r) (streamTail_posts hen hst r.isLt hv hlen), rfl⟩
  · exact bell_does rfl hl (b := .heartbeat) rfl (heartbeat_plain h)
  · refine bell_does rfl hl (b := .heartbeat) rfl ((heartbeat_resumes hlost hbeat).trans ?_)
    rw [heartbeatSeen, hlost]
  · have hbell (b : Option (List (Nat × Nat))) := bar2Write_bell v b s (bellAt_cmd r)
    exact ⟨hbell b, hostBell_does rfl hl ((hbell none).trans (hbell b).symm)⟩
  · obtain ⟨w, hw, htail⟩ := streamTail_error hen hst hc h
    exact ⟨_, w, bell_does rfl hl (bellAt_str r) htail, rfl, ringError_shows (k := .str) r (by decide) hw⟩
  · exact ⟨bar2Write_nothing v b s h, rfl⟩

end Sys2Proof.Machine
end

section
/-!
PROOFS. Writes of a ring's configuration (R215, R227, R247).
-/
namespace Sys2Proof.Machine
open Sys2Proof

/-! ### The configuration registers and the write that reaches them -/

theorem cfgFam_blk (k : RKind) : (cfgFam k).blk = .hif := by cases k <;> rfl
theorem fEN_fam (k : RKind) : (fEN k).fam = cfgFam k := by cases k <;> rfl
theorem fEN_lo (k : RKind) : (fEN k).lo = 0 := by cases k <;> rfl
theorem fEN_width (k : RKind) : (fEN k).width = 1 := by cases k <;> rfl
theorem fLOG2D_fam (k : RKind) : (fLOG2D k).fam = cfgFam k := by cases k <;> rfl

/-- None of them is staged, locked, persistent or a counter, and the offset of each leads to its ring. -/
theorem cfgFam_decode (k : RKind) : (cfgFam k).rws = 0 ∧ (cfgFam k).rwl = 0 ∧ cfgFam k ∉ counterFams ∧
    ∀ i < (cfgFam k).n1, persistIdx (regOff (cfgFam k) i 0) = none ∧ blkOf (regOff (cfgFam k) i 0) = some .hif ∧
      findFam (famsOf .hif) (regOff (cfgFam k) i 0) = some (cfgFam k, i, 0) ∧ ringAt (regOff (cfgFam k) i 0) = some (k, i) ∧
      regOff (cfgFam k) i 0 < 0x400000 := by
  cases k <;> decide +kernel

theorem blockWrite_cfg (k : RKind) (i j : Nat) (v : Word) (s : State) :
    blockWrite (cfgFam k) i j v s = cfgWrite (regOff (cfgFam k) i j) v s := by
  have hbase : baseOf (cfgFam k) = none := by cases k <;> decide
  have hplace : cfgFam k ≠ HIF_HBSTAT ∧
      (cfgFam k = CMD_CFG || cfgFam k = CPL_CFG || cfgFam k = EVT_CFG || cfgFam k = STR_CFG) = true := by cases k <;> decide
  unfold blockWrite
  rw [cfgFam_blk]
  show hifWrite (cfgFam k) i j v s = _
  unfold hifWrite
  rw [hbase]
  exact (if_neg hplace.1).trans (if_pos hplace.2)

/-- While the firmware runs, bit 0 of the value tells enabling from disabling. -/
theorem wordWrite_cfg {k : RKind} {i : Nat} (v : Word) {s : State} (hi : i < (cfgFam k).n1) (hr : s.running = true) :
    wordWrite (regOff (cfgFam k) i 0) v s =
      if getBits v 0 1 = 1 then ringEnable k i (regOff (cfgFam k) i 0) v s else ringDisable k i v s := by
  obtain ⟨hrws, hrwl, hcnt, hdec⟩ := cfgFam_decode k
  obtain ⟨hpersist, hblk, hfind, hring, -⟩ := hdec i hi
  have hblock : wordWrite (regOff (cfgFam k) i 0) v s = blockWrite (cfgFam k) i 0 v s := by
    simp [wordWrite, famWrite, hr, hblk, hfind, hrws, hrwl, hcnt, hpersist]
  rw [hblock, blockWrite_cfg]
  unfold cfgWrite
  rw [hring]

/-- What the write makes of the ring is the command's own effect. -/
theorem cfg_does {c : Instr} {k : RKind} {i : Nat} {v : Word} {s u : State}
    (hc : exec c s = if 0x400000 ≤ regOff (cfgFam k) i 0 then .fault .outsideBar0 else hostReg (regOff (cfgFam k) i 0) v s)
    (hl : s.linked) (hr : s.running = true) (hi : i < (cfgFam k).n1)
    (hu : (if getBits v 0 1 = 1 then ringEnable k i (regOff (cfgFam k) i 0) v s else ringDisable k i v s) = u) : DoesP c s u := by
  obtain ⟨-, -, -, -, hlt⟩ := (cfgFam_decode k).2.2.2 i hi
  unfold DoesP
  rw [hc, if_neg (by omega), hostReg_next _ _ hl, wordWrite_cfg v hi hr, hu]

/-! ### What the configuration then holds -/

theorem putCfg_ring (k : RKind) (i : Nat) (v : Word) (s : State) : (putCfg k i v s).ring k i = s.ring k i := rfl

/-- EN is writable in every kind of ring. -/
theorem putCfg_EN (k : RKind) (i : Nat) (v : Word) (s : State) : (putCfg k i v s).get (fEN k) i = getBits v 0 1 := by
  have hodd : (BitVec.ofNat 32 (cfgFam k).rw).toNat % 2 = 1 := by cases k <;> rfl
  unfold State.get putCfg
  rw [fEN_fam, fEN_lo, fEN_width, word_putWord_same]
  unfold getBits
  rw [BitVec.toNat_and, pow_zero, Nat.div_one, Nat.div_one, Nat.and_mod_two_pow, pow_one, hodd, Nat.and_one_is_mod, Nat.mod_mod]

/-- A field of the status of a ring stands outside its configuration. -/
theorem get_cfg_put_stat (s : State) (k : RKind) {f g : Fld} (v i : Nat) (hf : f.fam = cfgFam k) (hg : g.fam = (fINDEX k).fam) :
    (s.put g v i).get f i = s.get f i :=
  get_put_ne _ _ _ _ _ _ _ _ (.inr (by rw [hf, hg]; exact regOff_cfg_ne_index k k i i))

section
variable {k : RKind} {i : Nat} (hi : i < (cfgFam k).n1)
include hi

theorem badConfig_cfg {f : Fld} (s : State) (hf : f.fam = cfgFam k) :
    (badConfig k i s).get f i = (s.put (fEN k) 0 i).get f i :=
  ((offReports_get (offTraffic_cfg hi hf) (by rw [hf, cfgFam_blk])).emit _ _ _ _ _ _ _ _).trans
    (get_cfg_put_stat _ _ _ _ hf (fERR_fam k))

theorem badConfig_EN (s : State) : (badConfig k i s).get (fEN k) i = 0 :=
  (badConfig_cfg hi s (fEN_fam k)).trans (get_put_same _ _ _ _ _ (by rw [fEN_lo, fEN_width]; decide))

theorem badConfig_LOG2D (s : State) : (badConfig k i s).get (fLOG2D k) i = s.get (fLOG2D k) i :=
  (badConfig_cfg hi s (fLOG2D_fam k)).trans
    (get_put_apart _ _ _ _ _ _ (by rw [fLOG2D_fam, fEN_fam]) (by rw [fEN_lo, fEN_width]; decide) (.inr (by cases k <;> decide)))

theorem badConfig_ERR (s : State) : (badConfig k i s).get (fERR k) i = 3 := by
  have hblk : (fERR k).fam.blk = .hif := by cases k <;> rfl
  refine ((offReports_get (offTraffic_stat hi (fERR_fam k) (fERR_lo k).ge) hblk).emit _ _ _ _ _ _ _ _).trans ?_
  rw [get_put_same _ _ _ _ _ (by rw [fERR_lo, fERR_width]; decide), fERR_width]
  rfl
end

/-! ### Enabling and disabling (R215) -/

/-- The ring of a good configuration, at index 0 and without an error. -/
def startedRing (k : RKind) (i : Nat) (t : State) : State :=
  (((t.put (fINDEX k) 0 i).put (fERR k) 0 i).put (fSTOPPED k) 0 i).modRing k i (fun r =>
    { r with other := 0, pass := 0, unsig := 0, sigAt := none, servedAt := t.now, held := false, drain := none })

section
variable {k : RKind} {i off : Nat} {v : Word} {s : State}

theorem ringEnable_enabled (h : s.flag (fEN k) i = true) : ringEnable k i off v s = discard off false s := if_pos h

variable (h : s.flag (fEN k) i = false)
include h

theorem ringEnable_bad (hbad : (putCfg k i v s).get (fLOG2D k) i < 4 ∨ 16 < (putCfg k i v s).get (fLOG2D k) i ∨
      (s.ring k i).badBase = true) : ringEnable k i off v s = badConfig k i (putCfg k i v s) := by
  unfold ringEnable
  rw [if_neg (by simp [h])]
  exact if_pos (by simpa [putCfg_ring, or_assoc] using hbad)

theorem ringEnable_good (h4 : 4 ≤ (putCfg k i v s).get (fLOG2D k) i) (h16 : (putCfg k i v s).get (fLOG2D k) i ≤ 16)
    (hbase : (s.ring k i).badBase = false) : ringEnable k i off v s = startedRing k i (putCfg k i v s) := by
  unfold ringEnable
  rw [if_neg (by simp [h])]
  exact if_neg (by simp [putCfg_ring, hbase, h4, h16])
end

theorem get_modRing (s : State) (k : RKind) (i : Nat) (r : Ring → Ring) (f : Fld) (a b : Nat) :
    (s.modRing k i r).get f a b = s.get f a b := rfl

theorem startedRing_cfg (k : RKind) (i : Nat) (t : State) {f : Fld} (hf : f.fam = cfgFam k) :
    (startedRing k i t).get f i = t.get f i := by
  unfold startedRing
  rw [get_modRing, get_cfg_put_stat _ _ _ _ hf (fSTOPPED_fam k), get_cfg_put_stat _ _ _ _ hf (fERR_fam k),
    get_cfg_put_stat _ _ _ _ hf rfl]

/-- Both indices, the pass and the error of a started ring are 0. -/
theorem startedRing_zero (k : RKind) (i : Nat) (t : State) : (startedRing k i t).get (fINDEX k) i = 0 ∧
    (startedRing k i t).get (fERR k) i = 0 ∧ ((startedRing k i t).ring k i).other = 0 ∧ ((startedRing k i t).ring k i).pass = 0 := by
  have hstopped {f : Fld} (u : State) (hf : f.fam = (fINDEX k).fam) (hle : f.lo + f.width ≤ 19) :
      (u.put (fSTOPPED k) 0 i).get f i = u.get f i :=
    get_put_apart _ _ _ _ _ _ (by rw [hf, fSTOPPED_fam]) (by rw [fSTOPPED_lo, fSTOPPED_width]; decide)
      (.inl (by rw [fSTOPPED_lo]; exact hle))
  unfold startedRing
  rw [get_modRing, get_modRing, ring_modRing_same, hstopped _ rfl (by rw [fINDEX_lo, fINDEX_width]; decide),
    hstopped _ (fERR_fam k) (by rw [fERR_lo, fERR_width])]
  refine ⟨?_, ?_, rfl, rfl⟩
  · rw [get_put_apart _ _ _ _ _ _ (fERR_fam k).symm (by rw [fERR_lo, fERR_width]; decide)
        (.inl (by rw [fINDEX_lo, fINDEX_width, fERR_lo])),
      get_put_same _ _ _ _ _ (by rw [fINDEX_lo, fINDEX_width]; decide), Nat.zero_mod]
  · rw [get_put_same _ _ _ _ _ (by rw [fERR_lo, fERR_width]; decide), Nat.zero_mod]

theorem ringDisable_EN (k : RKind) (i : Nat) (v : Word) (s : State) : (ringDisable k i v s).get (fEN k) i = getBits v 0 1 :=
  (get_modRing _ _ _ _ _ _ _).trans (putCfg_EN k i v _)

/-- Settles O35: the write reaches its ring by its offset; the configuration it leaves says whether the ring starts or is bad. -/
theorem ringConfigurationWrites : Obligations.RingConfigurationWrites := by
  refine fun s k i v hl hr hi => ⟨fun hv => cfg_does rfl hl hr hi (if_pos hv),
    fun hv => cfg_does rfl hl hr hi (if_neg (by omega)), ringEnable_enabled, fun hen hv hbase h4 h16 => ?_,
    fun hen hbase => ?_, fun hv => ?_⟩
  · by_cases hgood : 4 ≤ (putCfg k i v s).get (fLOG2D k) i ∧ (putCfg k i v s).get (fLOG2D k) i ≤ 16
    · rw [ringEnable_good hen hgood.1 hgood.2 hbase]
      exact ⟨decide_eq_true ((startedRing_cfg _ _ _ (fEN_fam k)).trans ((putCfg_EN _ _ _ _).trans hv)), startedRing_zero k i _⟩
    · rw [ringEnable_bad hen (by omega), badConfig_LOG2D hi] at h4 h16
      exact absurd ⟨h4, h16⟩ hgood
  · have hbad := ringEnable_bad (off := regOff (cfgFam k) i 0) (v := v) hen (.inr (.inr hbase))
    rw [hbad]
    exact ⟨rfl, by rw [State.flag, badConfig_EN hi]; rfl, badConfig_ERR hi _⟩
  · rw [State.flag, ringDisable_EN, hv]
    rfl

end Sys2Proof.Machine
end

section
/-!
PROOFS. BEGIN, members, COMMIT and ABORT on the ring served next (R216, R224-R227).
-/
namespace Sys2Proof.Machine
open Sys2Proof

/-! ### A descriptor of the ring served next -/

theorem hostCmd_does {i : Instr} {d : Desc} {f : State → State} {s u : State} (hi : exec i s = hostCmd d f s) (h : s.heard)
    (hd : d.lost = false) (hu : f s = u) : Does i s u := by
  unfold Does
  rw [hi, hostCmd_next d f h hd, hu]

theorem lostDesc_does {i : Instr} {d : Desc} {f : State → State} {s : State} (hi : exec i s = hostCmd d f s) (h : s.heard)
    (hnext : s.nextRing = some d.ring.val) (hd : d.lost = true) : Does i s (ringError .cmd d.ring 2 s) := by
  unfold Does
  rw [hi, hostCmd_lost d f h hd, fetchFails, if_neg (by simp [hnext])]

section
variable {r : Nat} {s : State} (hnext : s.nextRing = some r)
include hnext

theorem commitVolley_held (tag : Nat) (bad : Bool) (op : CommitOp) (hval : s.validatingOn r = true)
    (hopen : (s.openOn r).isSome = true) :
    commitVolley r tag bad op s = s.modRing .cmd r (fun x => { x with held := true }) := by
  unfold commitVolley
  rw [if_neg (by simp [hnext]), if_pos (by simp [hval, hopen])]

variable (hdrain : (fetch r s).draining r = false)
include hdrain

theorem descriptor_fetched (k : State → State) : descriptor r k s = k (fetch r s) := by
  unfold descriptor
  rw [if_neg (by simp [hnext])]
  exact if_neg (by simp [hdrain])

/-! ### BEGIN (R225, R227) -/

/-- The slot as BEGIN leaves it. -/
def openedSlot (r tag flags : Nat) (bad : Bool) (t : State) : Slot :=
  { st := .opened, ring := r, cpl := t.get CMD_CFG_CPL r, tag := tag, stack := bitOf flags 0, prot := bitOf flags 1
    flagErr := bad || 4 ≤ flags }

theorem beginVolley_opens {v : Nat} (tag flags : Nat) (bad : Bool) (hopen : (fetch r s).openOn r = none)
    (hfree : (List.range 4).find? (fun v => ((fetch r s).slot v).st = .free) = some v) :
    beginVolley r tag flags bad s = (fetch r s).setSlot v (openedSlot r tag flags bad (fetch r s)) := by
  unfold beginVolley
  rw [descriptor_fetched hnext hdrain, hopen]
  dsimp only
  rw [hfree]
  rfl

theorem beginVolley_drains (tag flags : Nat) (bad : Bool) (hopen : (fetch r s).openOn r = none)
    (hfree : (List.range 4).find? (fun v => ((fetch r s).slot v).st = .free) = none) :
    beginVolley r tag flags bad s = (fetch r s).modRing .cmd r (fun x => { x with drain := some tag }) := by
  unfold beginVolley
  rw [descriptor_fetched hnext hdrain, hopen]
  dsimp only
  rw [hfree]

/-! ### Members (R217, R224, R225) -/

section
variable {v : Nat} (hopen : (fetch r s).openOn r = some v)
include hopen

theorem addMember_appends {size : Nat} (tag : Nat) (m : Member) (hsmall : ((fetch r s).slot v).tooLarge = false)
    (hlen : ((fetch r s).slot v).members.length < 4096) (hbytes : ((fetch r s).slot v).bytes + size ≤ 262144) :
    addMember r tag size (some m) s = (releaseSlot ((fetch r s).get CMD_CFG_CPL r) (fetch r s)).setSlot v
      { (fetch r s).slot v with
        members := ((fetch r s).slot v).members ++ [m], bytes := ((fetch r s).slot v).bytes + size } := by
  unfold addMember
  rw [descriptor_fetched hnext hdrain, hopen]
  dsimp only
  rw [if_neg (by simp [hsmall]), if_neg (by simp [hlen, hbytes])]

/-- A member that fits joins the Volley with its bytes. -/
theorem member_does {i : Instr} {d : Desc} {size : Nat} {m : Member} (hr : r = d.ring.val)
    (hi : exec i s = memberCmd d size (some m) s) (h : s.heard)
    (hd : d.lost = false) (hsmall : ((fetch r s).slot v).tooLarge = false)
    (hlen : ((fetch r s).slot v).members.length < 4096) (hbytes : ((fetch r s).slot v).bytes + size ≤ 262144) :
    ∃ u, Does i s u ∧ (u.slot v).bytes = ((fetch r s).slot v).bytes + size ∧
      (u.slot v).members = ((fetch r s).slot v).members ++ [m] := by
  subst hr
  refine ⟨_, hostCmd_does hi h hd (addMember_appends hnext hdrain hopen d.tag.toNat m hsmall hlen hbytes), ?_⟩
  rw [slot_setSlot_same]
  exact ⟨rfl, rfl⟩

/-! ### COMMIT (R226, R227) -/

/-- The Volley of an unprotected slot goes to validation, next in order. -/
theorem commitVolley_validates (tag : Nat) (bad : Bool) (op : CommitOp) (hprot : ((fetch r s).slot v).prot = false)
    (hval : s.validatingOn r = false) :
    let u := commitVolley r tag bad op s
    (u.slot v).st = .validating ∧ (u.slot v).cTag = tag ∧ (u.slot v).order = s.hif.orderNext ∧
      (u.slot v).members = ((fetch r s).slot v).members ∧ u.hif.orderNext = s.hif.orderNext + 1 := by
  unfold commitVolley
  rw [if_neg (by simp [hnext]), if_neg (by simp [hval])]
  dsimp only
  rw [if_neg (by simp [hdrain]), hopen]
  dsimp only
  rw [if_neg (by simp [hprot]), slot_setSlot_same]
  exact ⟨rfl, rfl, rfl, rfl, rfl⟩
end

/-! ### ABORT (R227) -/

theorem abortVolley_open {v : Nat} (tag slot : Nat) (hopen : (fetch r s).openOn r = some v) :
    abortVolley r tag false true slot s = completeCmd r tag stSUCCESS (endOpen v stABORTED (fetch r s)) ∧
    abortVolley r tag false false slot s = completeCmd r tag stWRONG_STATE (endOpen v stINVALID_FIELD (fetch r s)) := by
  unfold abortVolley
  rw [descriptor_fetched hnext hdrain, descriptor_fetched hnext hdrain, hopen]
  exact ⟨rfl, rfl⟩

section
variable (hopen : (fetch r s).openOn r = none)
include hopen

theorem abortVolley_noneOpen (tag slot : Nat) :
    abortVolley r tag false true slot s = completeCmd r tag stWRONG_STATE (fetch r s) := by
  unfold abortVolley
  rw [descriptor_fetched hnext hdrain, hopen]
  rfl

theorem abortVolley_staged (tag : Nat) {slot : Nat}
    (hlast : ((fetch r s).stagedOrder.filter (fun w => w < 4)).getLast? = some slot)
    (hprot : ((fetch r s).slot slot).prot = false) (hstack : ((fetch r s).slot slot).stack = false)
    (hbeat : (fetch r s).beatNow + 2 < ((fetch r s).slot slot).beat) :
    abortVolley r tag false false slot s =
      completeCmd r tag stSUCCESS (completeVolley slot ((fetch r s).slot slot).cTag stABORTED (fetch r s)) := by
  unfold abortVolley
  rw [descriptor_fetched hnext hdrain, hopen]
  dsimp only
  rw [if_neg (by decide), if_pos (by simp [hlast, hprot, hstack, hbeat])]
end
end

/-- Settles O36: each command on the ring served next takes the branch its conditions name. -/
theorem volleysOpenGrowCommitAndAbort : Obligations.VolleysOpenGrowCommitAndAbort := by
  refine ⟨fun s d h hnext => ⟨fun hd op off val => ?_, fun hd hval hopen op => ?_, fun hd hdrain => ?_⟩,
    fun s d slot h hnext hdrain hbad hd => ?_⟩
  · exact ⟨lostDesc_does rfl h hnext hd, lostDesc_does rfl h hnext hd, lostDesc_does rfl h hnext hd, lostDesc_does rfl h hnext hd⟩
  · exact hostCmd_does rfl h hd (commitVolley_held hnext _ _ op hval hopen)
  · refine ⟨fun v hopen hfree => ?_, fun hopen hfree => ?_, fun v off val hopen hsmall hlen hbytes => ?_,
      fun v off count l hopen hsmall hlen hbytes => ?_, fun v len l hopen hsmall hlen hbytes => ?_, fun v op hopen hprot hval => ?_⟩
    · refine ⟨_, hostCmd_does rfl h hd (beginVolley_opens hnext hdrain _ _ _ hopen hfree), ?_⟩
      rw [slot_setSlot_same]
      exact ⟨rfl, rfl, rfl, rfl, rfl, rfl⟩
    · exact hostCmd_does rfl h hd (beginVolley_drains hnext hdrain _ _ _ hopen hfree)
    · obtain ⟨u, hdoes, hb, hm⟩ := member_does hnext hdrain hopen rfl (i := .write32 d off val) rfl h hd hsmall hlen hbytes
      refine ⟨u, hdoes, hb, hm.trans ?_⟩
      rw [memberOf, Bool.or_false]
    · exact member_does hnext hdrain hopen rfl rfl h hd hsmall hlen hbytes
    · exact member_does hnext hdrain hopen rfl rfl h hd hsmall hlen hbytes
    · exact ⟨_, hostCmd_does rfl h hd rfl, commitVolley_validates hnext hdrain hopen _ _ op hprot hval⟩
  · have abort_does {opened : Bool} {u : State} (hu : abortVolley d.ring d.tag.toNat false opened slot s = u) :
        Does (.abort d slot opened) s u := hostCmd_does rfl h hd (by rw [hbad]; exact hu)
    exact ⟨fun v hopen => abort_does (abortVolley_open hnext hdrain _ _ hopen).1,
      fun v hopen => abort_does (abortVolley_open hnext hdrain _ _ hopen).2,
      fun hopen hlast hprot hstack hbeat => abort_does (abortVolley_staged hnext hdrain hopen _ hlast hprot hstack hbeat),
      fun hopen => abort_does (abortVolley_noneOpen hnext hdrain hopen _ _)⟩

end Sys2Proof.Machine
end

section
/-!
PROOFS. The parts of a stack Volley (R231).
-/
namespace Sys2Proof.Machine
open Sys2Proof

/-! ### What messages and reports leave alone -/

theorem sendMsg_now (l : Nat) (kind : QKind) (data : List Nat) (s : State) : (sendMsg l kind data s).now = s.now := by
  unfold sendMsg
  split <;> rfl

theorem offReports_slot (v : Nat) : OffReports (State.slot · v) where
  hif _ _ hx := congrArg (tabGet · v) hx
  index _ _ _ _ := congrArg (fun x : Hif => tabGet x.slots v) (put_hif _ _ _ _ _)
  count _ _ _ := congrArg (fun x : Hif => tabGet x.slots v) (put_hif _ _ _ _ _)
  pba _ _ _ := congrArg (fun x : Hif => tabGet x.slots v) (put_hif _ _ _ _ _)
  flt _ _ := rfl
  fltWord _ _ _ _ _ _ := congrArg (fun x : Hif => tabGet x.slots v) (putWord_hif _ _ _ _ _)
  report _ _ _ := rfl

/-! ### PREPARE at a member -/

/-- The part of a Volley as PREPARE hands it over. -/
def preparedPart (s : State) (beat : Nat) (mode : Fin 3) (given : Nat) (offs : List (Word × Word)) (dest : List (Nat × Nat × Nat)) :
    Slot :=
  { st := .validating, stack := true, beat := beat, given := given, send := dest, order := s.hif.orderNext
    members := offs.map (fun e => { sid := s.ownSid, off := e.1.toNat, words := [e.2] })
    mode := if mode = 1 then .beat else if mode = 2 then .time else .earliest
    answers := tabSet [] s.ownSid (some 0) }

/-- What row 6 finds of the part is the answer, and a good part is held. -/
def answerPrepare (slot : Nat) (part : Slot) (dest : List (Nat × Nat × Nat)) (s : State) : State :=
  match blockChecks s (part.writesFor s.ownSid) true dest with
  | some (st, i) => sendMsg (s.linkTo 0) .ready [slot, s.ownSid, st, i] s
  | none =>
    sendMsg (s.linkTo 0) .ready [slot, s.ownSid, 0, 0]
      ({ s with hif := { s.hif with orderNext := s.hif.orderNext + 1 } }.setSlot (4 + slot) part)

theorem stackPrepare_eq {s : State} (slot beat : Nat) (mode : Fin 3) (given : Nat) (offs : List (Word × Word))
    (dest : List (Nat × Nat × Nat)) (h : s.ownSid ≠ 0) :
    stackPrepare slot beat mode given (offs.map (fun x => (x.1.toNat, x.2))) dest s =
      answerPrepare slot (preparedPart s beat mode given offs dest) dest s := by
  unfold stackPrepare
  dsimp only
  rw [if_neg h, List.map_map]
  fin_cases mode <;> rfl

section
variable {slot : Nat} {part : Slot} {dest : List (Nat × Nat × Nat)} {s : State}

theorem answerPrepare_ready (h : blockChecks s (part.writesFor s.ownSid) true dest = none) : answerPrepare slot part dest s =
    sendMsg (s.linkTo 0) .ready [slot, s.ownSid, 0, 0]
      ({ s with hif := { s.hif with orderNext := s.hif.orderNext + 1 } }.setSlot (4 + slot) part) := by
  unfold answerPrepare
  rw [h]

theorem answerPrepare_refused {st i : Nat} (h : blockChecks s (part.writesFor s.ownSid) true dest = some (st, i)) :
    answerPrepare slot part dest s = sendMsg (s.linkTo 0) .ready [slot, s.ownSid, st, i] s := by
  unfold answerPrepare
  rw [h]
end

/-! ### READY, GO and the acknowledgements at the master -/

section
variable {v : Nat} {s : State}

section
variable (hst : (s.slot v).st = .validating) (hstack : (s.slot v).stack = true) (hans : (s.slot v).answers ≠ [])
include hst hstack hans

theorem stackReady_kept {sid : Nat} (status index : Nat) (hsid : sid ∈ (s.slot v).named) :
    stackReady v sid status index s = s.setSlot v { s.slot v with
      answers := tabSet (s.slot v).answers sid (some (status + 65536 * index)) } :=
  if_neg (by simp [hst, hstack, hans, hsid])

/-- With every answer good the Volley is staged and GO sent, two beats ahead. -/
theorem stackGoDecision_go (hgood : ∀ j ∈ (s.slot v).named, tabGet (s.slot v).answers j = some 0) :
    ((stackGoDecision v s).slot v).st = .staged ∧ ((stackGoDecision v s).slot v).goSent = true ∧
      (stackGoDecision v s).now = max s.now (s.beatTick ((s.slot v).beat - 2)) := by
  have hnone : (s.slot v).named.find? (fun j => (tabGet (s.slot v).answers j : Option Nat) ≠ some 0) = none :=
    List.find?_eq_none.2 fun j hj => by simp [hgood j hj]
  unfold stackGoDecision
  rw [if_neg (by simp [hst, hstack, hans])]
  dsimp only
  rw [hnone]
  dsimp only
  rw [slot_setSlot_same]
  exact ⟨rfl, rfl, forAll_keeps State.now _ _ _ fun j t => sendMsg_now _ _ _ t⟩
end

theorem stackAck_kept (sid : Nat) (h : (s.slot v).goSent = true) :
    stackAck v sid s = s.setSlot v { s.slot v with acks := tabSet (s.slot v).acks sid true } :=
  if_neg (by simp [h])

section
variable (happ : (s.slot v).applied = true) (hstack : (s.slot v).stack = true)
include happ hstack

theorem stackCompletion_success (h : ∀ j ∈ (s.slot v).named, tabGet (s.slot v).acks j = true) :
    stackCompletion v s = completeVolley v (s.slot v).cTag stSUCCESS s ((s.slot v).beat % 2 ^ 32) := by
  unfold stackCompletion
  rw [if_neg (by simp [happ, hstack])]
  exact if_pos (List.all_eq_true.2 h)

theorem stackCompletion_split (h : ∃ j ∈ (s.slot v).named, tabGet (s.slot v).acks j = false) :
    stackCompletion v s = emit ev_VOLLEY_SPLIT 210 (completeVolley v (s.slot v).cTag stSPLIT
      (s.moveTo (s.beatTick ((s.slot v).beat + 1))) (bitsOf 4 (fun j => tabGet (s.slot v).acks j))) := by
  obtain ⟨j, hj, hack⟩ := h
  unfold stackCompletion
  rw [if_neg (by simp [happ, hstack])]
  exact if_neg fun hall => by simpa [hack] using List.all_eq_true.1 hall j hj
end
end

/-! ### GO, ABORT and the missing GO at a member -/

section
variable {slot : Nat} {s : State} (hst : (s.slot (4 + slot)).st = .validating)
include hst

theorem stackGo_stages (h : s.now < s.beatTick ((s.slot (4 + slot)).beat - 1)) : stackGo slot s =
    sendMsg (s.linkTo 0) .ack [slot, s.ownSid] (s.setSlot (4 + slot) { s.slot (4 + slot) with st := .staged }) :=
  if_neg (by simp [hst, h])

theorem stackAbort_frees : stackAbort slot s = s.setSlot (4 + slot) {} := if_pos hst

theorem stackDiscard_frees : stackDiscard slot s = emit ev_STACK_VOLLEY_DISCARD 210
    ((s.moveTo (s.beatTick ((s.slot (4 + slot)).beat - 1))).setSlot (4 + slot) {}) :=
  if_neg (by simp [hst])
end

/-- Settles O38: each message and each deadline of a stack Volley takes the branch its conditions name. -/
theorem stackVolleyProtocol : Obligations.StackVolleyProtocol := by
  refine fun s hs => ⟨fun slot beat mode given offs sends hsid => ⟨fun hc => ?_, fun st i hc => ?_⟩,
    fun v sid st i hst hstack hans hnamed => ?_, fun v hst hstack hans hgood => ?_, fun slot hst hgo => ?_, fun slot hst => ?_,
    fun slot hst => ?_, fun v sid hgo => ?_, fun v happ hstack hall => ?_, fun v happ hstack hmiss => ?_⟩
  · exact row_does rfl hs ((stackPrepare_eq slot beat mode given offs _ hsid).trans (answerPrepare_ready hc))
  · exact row_does rfl hs ((stackPrepare_eq slot beat mode given offs _ hsid).trans (answerPrepare_refused hc))
  · refine ⟨_, row_does rfl hs (stackReady_kept hst hstack hans _ _ hnamed), ?_⟩
    rw [slot_setSlot_same]
    dsimp only
    exact tabGet_tabSet_same _ _ _
  · exact ⟨_, row_does rfl hs rfl, stackGoDecision_go hst hstack hans hgood⟩
  · exact row_does rfl hs (stackGo_stages hst hgo)
  · exact ⟨_, row_does rfl hs (stackAbort_frees hst), slot_setSlot_same _ _ _⟩
  · refine ⟨_, row_does rfl hs (stackDiscard_frees hst), emit_now _ _ _ _ _ _ _ _, ?_⟩
    rw [(offReports_slot (4 + slot.val)).emit, slot_setSlot_same]
  · refine ⟨_, row_does rfl hs (stackAck_kept _ hgo), ?_⟩
    rw [slot_setSlot_same]
    dsimp only
    exact tabGet_tabSet_same _ _ _
  · exact row_does rfl hs (stackCompletion_success happ hstack hall)
  · exact row_does rfl hs (stackCompletion_split happ hstack hmiss)

end Sys2Proof.Machine
end

section
/-!
PROOFS. Host loss, waiting records, Export ports, interrupts and the PCI Express link (R211, R213, R232-R241, R244, R392).
-/
namespace Sys2Proof.Machine
open Sys2Proof

/-! ### Host loss and waiting records (R232, R233, R236) -/

/-- Supervision that is armed sees the loss at the next point of its grid of 100 µs. -/
theorem heartbeatMissed_armed {s : State} (harmed : s.hif.armed = true) (hlost : s.hif.lost = false) : heartbeatMissed s =
    hostLoss (s.moveTo (s.vauxAt + ((s.hif.hbAt + s.hbInterval * Config.ms - s.vauxAt) / (100 * Config.us) + 1) * (100 * Config.us))) :=
  if_neg (by simp [harmed, hlost])

/-- A record that no command and no snapshot waits for is dropped. -/
theorem recordTimeout_drops {s : State} {idx : Nat} {w : Waiting} (hw : s.hif.waiting[idx]? = some w) (hdone : w.done < w.bytes.length)
    (hslot : w.slot = none) (hcmd : w.cmd = none) :
    recordTimeout idx s = dropWaiting w { s.moveTo (w.since + 100 * Config.ms) with
      hif := { s.hif with waiting := s.hif.waiting.eraseIdx idx } } := by
  unfold recordTimeout
  rw [hw]
  dsimp only
  rw [if_neg (by omega), hslot, hcmd]
  rfl

/-! ### Export ports (R237-R241) -/

section
variable {e : Nat} {s : State}

theorem exportPort_modExport (s : State) (e : Nat) (f : Export → Export) : (s.modExport e f).exportPort e = f (s.exportPort e) :=
  tabGet_tabMod_same _ _ _

theorem exportLink_up (h : (s.exportPort e).link = false) : exportLink e true s =
    pump (emit ev_EXPORT_LINK (212 + e) (s.modExport e (fun x => { x with link := true }))) :=
  if_neg (by simp [h])

theorem exportLink_down (h : (s.exportPort e).link = true) : exportLink e false s =
    closeDest false e (emit ev_EXPORT_LINK (212 + e) (s.modExport e (fun x => { x with link := false }))) :=
  if_neg (by simp [h])

theorem exportTransmit_sends {f : List Nat} {rest : List (List Nat)} (hq : (s.exportPort e).queue = f :: rest)
    (hopen : s.exportOpen e = true) (hpfc : (s.flag EXP_CFG_PFC_EN e && (s.exportPort e).paused) = false) : exportTransmit e s =
    pump (s.modExport e (fun y => { y with queue := rest, wire := f, sent := y.sent + 1 })) := by
  unfold exportTransmit
  dsimp only
  rw [hq]
  exact if_neg (by simp [hopen, hpfc])

theorem pfcPause_pauses (p : Bool) (hpfc : s.flag EXP_CFG_PFC_EN e = true) (hvlan : s.flag EXP_CFG_VLAN e = true) :
    pfcPause e p s = s.modExport e (fun x => { x with paused := p }) := if_pos (by simp [hpfc, hvlan])
end

/-! ### The interrupt timer (R244) -/

theorem offVectors_now : OffVectors State.now := ⟨fun t v i => put_now t MSIX_PBA_PENDING v i 0, fun _ _ => rfl⟩

theorem offVectors_ring (k : RKind) (i : Nat) : OffVectors (State.ring · k i) :=
  ⟨fun t v j => congrArg (fun x : Hif => tabGet x.rings (rkey k i)) (put_hif t MSIX_PBA_PENDING v j 0), fun _ _ => rfl⟩

/-- At its time the timer signals what has not been signalled. -/
theorem interruptTimer_signals {k : RKind} {i t : Nat} {s : State} (h : (s.ring k i).sigAt = some t) :
    (interruptTimer k i s).now = max s.now t ∧ ((interruptTimer k i s).ring k i).unsig = 0 ∧
      ((interruptTimer k i s).ring k i).sigAt = none := by
  have hsignal : interruptTimer k i s = signalRing k i (s.moveTo t) := by
    unfold interruptTimer
    rw [h]
  rw [hsignal]
  unfold signalRing
  rw [offVectors_now.issueVector, (offVectors_ring k i).issueVector, ring_modRing_same]
  exact ⟨rfl, rfl, rfl⟩

/-! ### The PCI Express link (R211, R213, R392) -/

theorem pcieUp_trains {s : State} (g : Fin 7) {w : Nat} (hready : s.hif.linkReady = true) (hperst : s.boot.perst = true)
    (hdom : s.domainOn 68 = true) (hg : g ≠ 0) (hw : w ∈ [1, 2, 4, 8, 16]) :
    pcieUp g w s = { s with hif := { s.hif with linkUp := true, gen := g, width := w } } := by
  have hgen : g.val ≠ 0 ∧ ¬ Config.pciFunction.maxGen < g.val := by revert g; decide
  have hwidth : w ∈ linkWidths := hw
  exact if_neg (by simp [hready, hperst, hdom, hgen.1, hgen.2, hwidth])

/-- Without supervision the loss of the link is not the loss of the host. -/
theorem pcieDown_unarmed {s : State} (hup : s.hif.linkUp = true) (harmed : s.hif.armed = false) : pcieDown s =
    { s with hif := { s.hif with linkUp := false, gen := 0, width := 0, masterEn := false } } :=
  (if_neg (by simp [hup])).trans (if_neg (by simp [harmed]))

theorem linkTrainingReady_ready {s : State} (hrails : s.railsGood = true) (hstate : 1 ≤ s.rstate 16) (hlatch : s.latch = false) :
    linkTrainingReady s = { s with hif := { s.hif with linkReady := true } } := if_pos (by simp [hrails, hstate, hlatch])

/-- Settles O39: each event of the host's link takes the branch its conditions name. -/
theorem hostLinkEvents : Obligations.HostLinkEvents := by
  refine fun s hs => ⟨fun harmed hlost => ?_, fun idx w hw hdone hslot hcmd => ?_, fun e hlink => ?_, fun e hlink => ?_,
    fun e f rest hq hopen hpfc => ?_, fun e p hpfc hvlan => ?_, fun k i t ht => ?_, fun g w hready hperst hdom hg hw => ?_,
    fun hup harmed => ?_, fun hrails hstate hlatch => ?_, fun on hl => ?_⟩
  · exact row_does rfl hs (heartbeatMissed_armed harmed hlost)
  · exact row_does rfl hs (recordTimeout_drops hw hdone hslot hcmd)
  · exact row_does rfl hs (exportLink_up hlink)
  · exact row_does rfl hs (exportLink_down hlink)
  · exact row_does rfl hs (exportTransmit_sends hq hopen hpfc)
  · refine ⟨_, row_does rfl hs (f := exportReceive e (.pfc p)) (pfcPause_pauses p hpfc hvlan), ?_⟩
    rw [exportPort_modExport]
  · exact ⟨_, row_does rfl hs rfl, interruptTimer_signals ht⟩
  · exact ⟨_, row_does rfl hs (pcieUp_trains g hready hperst hdom hg hw), rfl, rfl, rfl⟩
  · exact ⟨_, row_does rfl hs (pcieDown_unarmed hup harmed), rfl, rfl, rfl, rfl⟩
  · exact ⟨_, row_does rfl hs (linkTrainingReady_ready hrails hstate hlatch), rfl⟩
  · exact hostBell_does rfl hl rfl

end Sys2Proof.Machine
end

section
/-!
PROOFS. The Quirov links (R250-R256, R276): what their registers and the data beside them read after a change, the ways up and
down, flits that fail their check, and credits.
-/
namespace Sys2Proof.Machine
open Sys2Proof

/-! ### Registers side by side, and the data of a link -/

/-- A field put leaves alone the register of the same indices in a family of another base with the same strides. -/
theorem get_put_base (s : State) (f g : Fld) (v i j : Nat) (h1 : g.fam.s1 = f.fam.s1) (h2 : g.fam.s2 = f.fam.s2)
    (hb : g.fam.base ≠ f.fam.base) : (s.put f v i j).get g i j = s.get g i j := by
  refine get_put_ne _ _ _ _ _ _ _ _ (.inr fun h => hb ?_)
  unfold regOff at h
  rw [h1, h2] at h
  omega

@[simp] theorem ql_modQl_same (s : State) (l : Nat) (f : QLink → QLink) : (s.modQl l f).ql l = f (s.ql l) :=
  tabGet_tabMod_same _ _ _
/-- A change of a link is what it makes of the link as it is. -/
theorem modQl_congr {s : State} {l : Nat} {f g : QLink → QLink} (h : f (s.ql l) = g (s.ql l)) : s.modQl l f = s.modQl l g := by
  unfold State.modQl tabMod
  rw [show f (tabGet s.qlk.links l) = g (tabGet s.qlk.links l) from h]

@[simp] theorem modQl_get (s : State) (l : Nat) (q : QLink → QLink) (f : Fld) (i j : Nat) :
    (s.modQl l q).get f i j = s.get f i j := (rfl)
@[simp] theorem modQl_linkSt (s : State) (l k : Nat) (q : QLink → QLink) : (s.modQl l q).linkSt k = s.linkSt k := (rfl)
@[simp] theorem modQl_now (s : State) (l : Nat) (q : QLink → QLink) : (s.modQl l q).now = s.now := (rfl)
@[simp] theorem modQl_fab (s : State) (l : Nat) (q : QLink → QLink) : (s.modQl l q).fab = s.fab := (rfl)
@[simp] theorem put_ql (s : State) (f : Fld) (v i j l : Nat) : (s.put f v i j).ql l = s.ql l := (rfl)
@[simp] theorem count_ql (s : State) (f : Fld) (i j n l : Nat) : (s.count f i j n).ql l = s.ql l := (rfl)
@[simp] theorem emit_ql (k : EvKind) (src : Nat) (s : State) (a : Area) (p0 p1 p2 p3 l : Nat) :
    (emit k src s a p0 p1 p2 p3).ql l = s.ql l := (rfl)

theorem put_linkSt (s : State) (l : Nat) {st : Nat} (h : st < 8) : (s.put QLK_LINKSTAT_STATE st l).linkSt l = st :=
  (get_put_same _ _ _ _ _ (by decide)).trans (Nat.mod_eq_of_lt h)

/-! ### Training and alignment (R250, R255, R256) -/

section
variable {l : Nat} {s : State}

/-- A DOWN link that is enabled and waits for no retry trains for 100 ms. -/
theorem linkTrain_starts (hen : s.flag QLK_LINKCFG_EN l = true) (hst : s.linkSt l = 0) (hretry : (s.ql l).retry = none) :
    linkTrain l s = (s.put QLK_LINKSTAT_STATE 1 l).modQl l (fun q => { q with timer := some (s.now + 100 * Config.ms) }) :=
  if_neg (by simp [hen, hst, hretry])

theorem linkTrain_reads (hen : s.flag QLK_LINKCFG_EN l = true) (hst : s.linkSt l = 0) (hretry : (s.ql l).retry = none) :
    (linkTrain l s).linkSt l = 1 ∧ ((linkTrain l s).ql l).timer = some (s.now + 100 * Config.ms) ∧
      ((linkTrain l s).ql l).retry = none ∧ (linkTrain l s).now = s.now := by
  rw [linkTrain_starts hen hst hretry, ql_modQl_same, modQl_linkSt, put_linkSt _ _ (by decide), put_ql, modQl_now, put_now]
  exact ⟨rfl, rfl, hretry, rfl⟩

theorem linkTimeout_retries {t : Nat} (ht : (s.ql l).timer = some t) (hst : s.linkSt l = 1) : linkTimeout l s =
    ((s.moveTo t).put QLK_LINKSTAT_STATE 0 l).modQl l (fun q =>
      { q with timer := none, retry := some ((s.moveTo t).now + 10 * Config.ms) }) := by
  unfold linkTimeout
  rw [ht]
  exact if_neg (by simp [hst])

theorem linkRetry_trains {t : Nat} (ht : (s.ql l).retry = some t) :
    linkRetry l s = linkTrain l ((s.moveTo t).modQl l (fun q => { q with retry := none })) := by
  unfold linkRetry
  rw [ht]

/-- A link whose peer and delay are known, and whether the peer is the one R249 names. -/
def peerNoted (l sid : Nat) (side : Bool) (delay : Nat) (ok : Bool) (s : State) : State :=
  let s1 := ((s.put QLK_LINKSTAT_STATE 2 l).put QLK_LINKSTAT_PEER_SID sid l).put QLK_LINKSTAT_PEER_SIDE (bit side) l
  ((s1.put QLK_LINKDLY_D (min delay 65535) l).modQl l (fun q =>
    { q with timer := none, transit := 12 + (delay + 24) / 25 })).put QLK_LINKSTAT_MISMATCH (bit (!ok)) l

theorem peerNoted_reads {sid delay : Nat} (side ok : Bool) (hsid : sid < 4) :
    let u := peerNoted l sid side delay ok s
    u.linkSt l = 2 ∧ u.get QLK_LINKSTAT_PEER_SID l = sid ∧ u.get QLK_LINKSTAT_PEER_SIDE l = bit side ∧
      u.get QLK_LINKDLY_D l = min delay 65535 ∧ u.get QLK_LINKSTAT_MISMATCH l = bit (!ok) := by
  unfold peerNoted State.linkSt
  simp (disch := decide) only [get_put_same, get_put_apart, get_put_base, modQl_get]
  exact ⟨rfl, Nat.mod_eq_of_lt hsid, Nat.mod_eq_of_lt (bit_lt_two _),
    Nat.mod_eq_of_lt ((min_le_right _ _).trans_lt (by decide)), Nat.mod_eq_of_lt (bit_lt_two _)⟩

/-- A peer other than the one R249 names is reported, and the registers of the links are the same. -/
theorem linkAligning_get {sid link delay : Nat} {side : Bool} (hst : s.linkSt l = 1) (f : Fld) (hf : f.fam.blk = .qlk) :
    (linkAligning l sid side link delay s).get f l = (peerNoted l sid side delay (s.peerOk l sid side link) s).get f l := by
  have hsay (t : State) : (sayIdentity l t).get f l = t.get f l := rfl
  unfold linkAligning peerNoted
  rw [if_neg (by simp [hst])]
  dsimp only
  rw [apply_ite (State.get · f l), emit_get (by rw [hf]; decide), hsay, ite_self]

theorem linkAligning_reads {sid link delay : Nat} {side : Bool} (hsid : sid < 4) (hst : s.linkSt l = 1) :
    let u := linkAligning l sid side link delay s
    u.linkSt l = 2 ∧ u.get QLK_LINKSTAT_PEER_SID l = sid ∧ u.get QLK_LINKSTAT_PEER_SIDE l = bit side ∧
      u.get QLK_LINKDLY_D l = min delay 65535 ∧ u.get QLK_LINKSTAT_MISMATCH l = bit (!s.peerOk l sid side link) := by
  have hget (f : Fld) (hf : f.fam.blk = .qlk) :=
    linkAligning_get (sid := sid) (link := link) (delay := delay) (side := side) hst f hf
  dsimp only
  rw [State.linkSt, hget _ rfl, hget _ rfl, hget _ rfl, hget _ rfl, hget _ rfl]
  exact peerNoted_reads side _ hsid

/-! ### Up and down (R253, R255, R269) -/

/-- Link l UP at a beat boundary, with all its credits in hand, and the fact reported. -/
def linkRaised (l : Nat) (s : State) : State :=
  let s1 := s.moveTo s.beatCeil
  let s2 := ((s1.put QLK_LINKSTAT_STATE 3 l).put QLK_LINKSTAT_TRANSIT (s1.ql l).transit l).modQl l (fun q =>
    { q with fails := 0, wait := [], sent := [], wire := [], stalled := false, hand := (List.range 3).filterMap (fun p =>
        if poolSize l p = 0 then none else some (p, poolSize l p)) })
  emit ev_LINK_UP (224 + l) s2

theorem linkRaised_now (l : Nat) (s : State) : (linkRaised l s).now = max s.now s.beatCeil := emit_now ..

theorem linkRaised_linkSt (l : Nat) (s : State) : (linkRaised l s).linkSt l = 3 := by
  unfold linkRaised State.linkSt
  dsimp only
  rw [emit_get (by decide)]
  simp (disch := decide) only [get_put_same, get_put_apart, modQl_get]
  rfl

section
variable (role : Nat) (locks : List Word) (hst : s.linkSt l = 2) (hpeer : s.flag QLK_LINKSTAT_MISMATCH l = false)
  (hdly : s.get QLK_LINKDLY_D l ≤ 500)
include hst hpeer hdly

theorem linkUp_mesh (hl : l ≠ 3) : linkUp l role locks s = (let t := linkRaised l s
    lossAgain l (pathLatencies
      (if t.ownSid = 0 then t.put QLK_STACKSTAT_PRESENT (t.get QLK_STACKSTAT_PRESENT ||| 2 ^ t.get QLK_LINKSTAT_PEER_SID l)
       else if t.get QLK_LINKSTAT_PEER_SID l = 0 then { t with qlk := { t.qlk with tokenAt := t.now, orphan := false } } else t))) :=
  (if_neg (by simp [hst, hpeer, hdly])).trans (if_neg hl)

theorem linkUp_pair (hl : l = 3) : linkUp l role locks s = (let t := linkRaised l s
    compareLocks (firstRole role
      ({ t with qlk := { t.qlk with peerLocks := some locks, downAt := none } }.put QLK_PAIRSTAT_PEER_UP 1))) :=
  (if_neg (by simp [hst, hpeer, hdly])).trans (if_pos hl)
end

/-- A link that has not come UP goes down without loss. -/
theorem linkDown_early (h0 : s.linkSt l ≠ 0) (h3 : s.linkSt l ≠ 3) : linkDown l s =
    (((s.put QLK_LINKSTAT_STATE 0 l).put QLK_LINKSTAT_TRANSIT 0 l).modQl l (fun q => { transit := q.transit })).put
      QLK_LINKSTAT_MISMATCH 0 l :=
  (if_neg h0).trans (if_pos h3)

theorem linkDown_early_reads (h0 : s.linkSt l ≠ 0) (h3 : s.linkSt l ≠ 3) : (linkDown l s).linkSt l = 0 ∧
    (linkDown l s).get QLK_LINKSTAT_TRANSIT l = 0 ∧ (linkDown l s).get QLK_LINKSTAT_MISMATCH l = 0 := by
  rw [linkDown_early h0 h3]
  unfold State.linkSt
  simp (disch := decide) only [get_put_same, get_put_apart, modQl_get, Nat.zero_mod, and_self]

/-! ### Flits that fail their check (R254) -/

/-- One more flit in a row has failed; the failure is counted and reported. -/
def crcFailed (l : Nat) (s : State) : State :=
  emit ev_LINK_CRC (224 + l) ((s.count QLK_LINKCRC_FLITS l).modQl l (fun q => { q with fails := q.fails + 1 }))

/-- The state without the samples of a stream flit, if it was one that failed. -/
def flitLost (stream : Option (Nat × Nat × Nat × Nat)) (s : State) : State :=
  match stream with
  | some x => dropFlit x s
  | none => s

theorem flitLost_ql (stream : Option (Nat × Nat × Nat × Nat)) (s : State) (k : Nat) : (flitLost stream s).ql k = s.ql k := by
  cases stream <;> rfl
theorem flitLost_get (stream : Option (Nat × Nat × Nat × Nat)) (s : State) (f : Fld) (i j : Nat) :
    (flitLost stream s).get f i j = s.get f i j := by
  cases stream <;> rfl

theorem linkCrc_up (stream : Option (Nat × Nat × Nat × Nat)) (hst : s.linkSt l = 3) : linkCrc l stream s =
    if 7 ≤ (s.ql l).fails then linkDown l (crcFailed l (flitLost stream s)) else crcFailed l (flitLost stream s) := by
  have hmod (t : State) : (t.count QLK_LINKCRC_FLITS l).modQl l (fun q => { q with fails := (t.ql l).fails + 1 }) =
      (t.count QLK_LINKCRC_FLITS l).modQl l (fun q => { q with fails := q.fails + 1 }) :=
    modQl_congr (by rw [count_ql])
  have hlost : linkCrc l stream s = if 8 ≤ ((flitLost stream s).ql l).fails + 1 then linkDown l (crcFailed l (flitLost stream s))
      else crcFailed l (flitLost stream s) := by
    unfold linkCrc crcFailed
    rw [if_neg (by simp [hst]), ← hmod]
    rfl
  rw [hlost, flitLost_ql]
  simp only [Nat.reduceLeDiff]

theorem crcFailed_reads (l : Nat) (s : State) : (crcFailed l s).linkSt l = s.linkSt l ∧
    ((crcFailed l s).ql l).fails = (s.ql l).fails + 1 ∧
    (crcFailed l s).get QLK_LINKCRC_FLITS l = min (s.get QLK_LINKCRC_FLITS l + 1) (2 ^ QLK_LINKCRC_FLITS.width - 1) := by
  unfold crcFailed State.linkSt
  rw [emit_get (by decide), emit_get (by decide), emit_ql, ql_modQl_same, modQl_get, modQl_get, count_ql]
  unfold State.count
  simp (disch := decide) only [get_put_base, get_put_same, true_and]
  exact Nat.mod_eq_of_lt ((min_le_right _ _).trans_lt (by decide))

theorem crcFailed_fab (l : Nat) (s : State) : (crcFailed l s).fab = s.fab := by
  unfold crcFailed
  rw [emit_fab, modQl_fab, count_fab]

theorem dropFlit_remote (sid port k first : Nat) (s : State) :
    (tabGet (dropFlit (sid, port, k, first) s).fab.remote (skey (sid * 96 + port) k) : List (Nat × Smp)) =
      (tabGet s.fab.remote (skey (sid * 96 + port) k) : List (Nat × Smp)).filter
        (fun e => e.1 < first || first + 52 ≤ e.1) :=
  tabGet_tabMod_same s.fab.remote _ (List.filter _)

/-- No sample of the lost flit is left of its stream (R98). -/
theorem crcFailed_dropped {sid port k first m : Nat} (h1 : first ≤ m) (h2 : m < first + 52) :
    ∀ e ∈ (tabGet (crcFailed l (dropFlit (sid, port, k, first) s)).fab.remote (skey (sid * 96 + port) k) : List (Nat × Smp)),
      e.1 ≠ m := by
  intro e he
  rw [crcFailed_fab, dropFlit_remote] at he
  have hout : e.1 < first ∨ first + 52 ≤ e.1 := by simpa using (List.mem_filter.1 he).2
  omega

/-! ### Credits (R253) -/

theorem creditStall_reported (hl : l ≠ 3) (hst : s.linkSt l = 3) (hstall : (s.ql l).stalled = true) : creditStall l s =
    emit ev_LINK_CREDIT_STALL (224 + l) (s.modQl l (fun q => { q with stalled := false })) (.qlink l) :=
  if_neg (by simp [hl, hst, hstall])

/-- What waits in a pool goes as far as the credits in hand reach. -/
def QLink.drained (pool : Nat) (q : QLink) : QLink :=
  let h : Nat := tabGet q.hand pool
  let go := ((q.waiting pool).take h).zipIdx.map (fun e => { e.1 with seq := q.seqAfter e.2 })
  { q with
    hand := tabSet q.hand pool (h - go.length), wait := tabSet q.wait pool ((q.waiting pool).drop h)
    seq := q.seqAfter go.length, sent := q.sent ++ go, wire := q.wire ++ go }

theorem drainPool_ql (l pool : Nat) (s : State) : (drainPool l pool s).ql l = (s.ql l).drained pool := by
  have hout (t : State) (o : List QMsg) : ({ t with qlk := { t.qlk with out := o } } : State).ql l = t.ql l := rfl
  unfold drainPool QLink.drained
  dsimp only
  rw [hout, ql_modQl_same]

theorem drained_hand_le (pool : Nat) (q : QLink) : (tabGet (q.drained pool).hand pool : Nat) ≤ (tabGet q.hand pool : Nat) := by
  unfold QLink.drained
  dsimp only
  rw [tabGet_tabSet_same]
  exact Nat.sub_le _ _

theorem drained_waiting (pool : Nat) (q : QLink) :
    (q.drained pool).waiting pool = (q.waiting pool).drop (tabGet q.hand pool) := tabGet_tabSet_same _ _ _

/-- The link after a good flit that returns n credits of a pool with room for `room`. -/
def QLink.credited (room pool n : Nat) (q : QLink) : QLink :=
  { q with fails := 0, hand := tabSet q.hand pool (min room ((tabGet q.hand pool : Nat) + n)) }

theorem credited_hand (room pool n : Nat) (q : QLink) :
    (tabGet (q.credited room pool n).hand pool : Nat) = min room ((tabGet q.hand pool : Nat) + n) := tabGet_tabSet_same _ _ _

/-- The acknowledgement that a good flit may carry changes neither the credits in hand nor what waits for them. -/
theorem creditsReturned_ql {pool n : Nat} (flit : Option CtlFlit) (hst : s.linkSt l = 3) : ∃ q : QLink,
    q.hand = (s.ql l).hand ∧ q.wait = (s.ql l).wait ∧
      (creditsReturned l pool n flit s).ql l = (q.credited (poolSize l pool) pool n).drained pool := by
  cases flit with
  | none =>
    have hu : creditsReturned l pool n none s = drainPool l pool (s.modQl l (QLink.credited (poolSize l pool) pool n)) :=
      if_neg (by simp [hst])
    exact ⟨s.ql l, rfl, rfl, by rw [hu, drainPool_ql, ql_modQl_same]⟩
  | some f =>
    let t := noteAck l f.seq.toNat f.ack.toNat f.again s
    have hu : creditsReturned l pool n (some f) s = drainPool l pool (t.modQl l (QLink.credited (poolSize l pool) pool n)) :=
      if_neg (by simp [hst])
    have hack : t.ql l = _ := ql_modQl_same _ _ _
    exact ⟨t.ql l, by rw [hack], by rw [hack], by rw [hu, drainPool_ql, ql_modQl_same]⟩

theorem creditsReturned_reads {pool n : Nat} (flit : Option CtlFlit) (hst : s.linkSt l = 3) :
    let u := (creditsReturned l pool n flit s).ql l
    u.fails = 0 ∧ tabGet u.hand pool ≤ poolSize l pool ∧
      u.waiting pool = ((s.ql l).waiting pool).drop (min (poolSize l pool) (tabGet (s.ql l).hand pool + n)) := by
  obtain ⟨q, hhand, hwait, hu⟩ := creditsReturned_ql (pool := pool) (n := n) flit hst
  have hle := drained_hand_le pool (q.credited (poolSize l pool) pool n)
  have hleft : (q.credited (poolSize l pool) pool n).waiting pool = (s.ql l).waiting pool := congrArg (tabGet · pool) hwait
  rw [credited_hand] at hle
  dsimp only
  rw [hu, drained_waiting, credited_hand, hleft, hhand]
  exact ⟨rfl, hle.trans (min_le_left _ _), rfl⟩
end

/-- Settles O40: each event of a link takes the branch its conditions name, and the registers put there read back. How a failed
stream flit names its samples is the model's reading (log 151). -/
theorem linkTrainingStates : Obligations.LinkTrainingStates := by
  refine fun s l hs => ⟨fun hen hst hretry => ?_, fun sid side pl delay hst => ?_, fun t ht hst => ?_, fun t ht hen hst => ?_,
    fun role locks hst hpeer hdly => ?_, fun h0 h3 => ?_, fun hst => ?_, fun c hst hf => ?_, fun hst hf => ?_,
    fun sid port k first m hst hf h1 h2 => ?_, fun hl hst hstall => ?_, fun pool given hst => ?_⟩
  · obtain ⟨hup, htimer, -, -⟩ := linkTrain_reads hen hst hretry
    exact ⟨_, row_does rfl hs rfl, hup, htimer⟩
  · exact ⟨_, row_does rfl hs rfl, linkAligning_reads sid.isLt hst⟩
  · refine ⟨_, row_does rfl hs (linkTimeout_retries ht hst), ?_⟩
    rw [ql_modQl_same, modQl_linkSt, put_linkSt _ _ (by decide), modQl_now, put_now]
    exact ⟨rfl, rfl, rfl, rfl⟩
  · let v := (s.moveTo t).modQl l (fun q => { q with retry := none })
    have hnone : (v.ql l).retry = none := congrArg QLink.retry (ql_modQl_same _ _ _)
    obtain ⟨hup, htimer, hretry, hnow⟩ := linkTrain_reads (s := v) hen hst hnone
    exact ⟨_, row_does rfl hs (linkRetry_trains ht), hnow, hup, hretry, hnow ▸ htimer⟩
  · exact ⟨linkRaised l s, linkRaised_now _ _, linkRaised_linkSt _ _,
      fun hl => row_does rfl hs (linkUp_mesh _ _ hst hpeer hdly (Fin.val_ne_of_ne hl)),
      fun hl => row_does rfl hs (linkUp_pair _ _ hst hpeer hdly (congrArg Fin.val hl))⟩
  · exact ⟨_, row_does rfl hs rfl, linkDown_early_reads h0 h3⟩
  · exact row_does rfl hs rfl
  · obtain ⟨hup, hfails, hcount⟩ := crcFailed_reads l (flitLost (c.map fun x => (x.1.val, x.2.1.val, x.2.2.1.val, x.2.2.2)) s)
    rw [flitLost_ql] at hfails
    rw [flitLost_get] at hcount
    exact ⟨_, row_does rfl hs ((linkCrc_up _ hst).trans (if_neg (not_le.2 hf))),
      hup.trans ((flitLost_get _ _ _ _ _).trans hst), hfails, hcount⟩
  · exact row_does rfl hs ((linkCrc_up none hst).trans (if_pos hf))
  · exact ⟨_, row_does rfl hs ((linkCrc_up _ hst).trans (if_neg (not_le.2 hf))), crcFailed_dropped h1 h2⟩
  · exact row_does rfl hs (creditStall_reported (Fin.val_ne_of_ne hl) hst hstall)
  · exact ⟨_, row_does rfl hs rfl, creditsReturned_reads given.flit hst⟩

end Sys2Proof.Machine
end

section
/-!
PROOFS. Stacks (R257-R269): the grid and the time a waiting member takes from a mark, the beat token of the master, and what follows
when the master or a member is lost.
-/
namespace Sys2Proof.Machine
open Sys2Proof

/-! ### The grid mark (R257, R258) -/

/-- An alignment at beat b of the new grid sets grid and sample index, and not the count of device time. -/
theorem alignNow_grid (s : State) (b : Nat) : (alignNow s b).align = s.now - b * Config.beat ∧
    (alignNow s b).fab.sampN = 1024 * b ∧ (alignNow s b).tim = s.tim := by
  let v := setTAlign s.devTime (driveAlign 40 (pinAll (s.now - b * Config.beat) (alignUnits b (alignWatch b s))))
  have hgrid : (alignNow s b).gridSide = v.gridSide := by
    have hemit (k : EvKind) (src : Nat) (t : State) : (emit k src t).gridSide = t.gridSide := by simp [State.gridSide]
    unfold alignNow
    rw [hemit, alignVolleys_gridSide]
  simp only [State.gridSide, Prod.mk.injEq] at hgrid
  obtain ⟨-, halign, hfab, -⟩ := hgrid
  refine ⟨halign, ?_, congrArg PowerSide.tim (alignNow_powerSide s b)⟩
  rw [hfab]
  rfl

theorem gridMark_waiting {s : State} (b time : Nat) (hm : s.isMaster = false) (hw : s.qlk.waits = true) : gridMark b time s =
    joined (alignNow { s with tim := { s.tim with run := true, base := time, since := s.now } } b) :=
  if_neg (by simp [hm, hw])

/-! ### The beat token (R260, R265, R266, R269) -/

/-- A member that has taken time and validity from a beat token. -/
def tokenTaken (time : Nat) (valid : Bool) (s : State) : State :=
  let at_ := s.beatTick s.beatNow
  let old := { s with now := at_ }.devTime
  let ta := (s.tAlignReg + time + (2 ^ 80 - old % 2 ^ 80)) % 2 ^ 80
  let s1 := if time ≤ old + 1 && old ≤ time + 1 then s else setTAlign ta s
  let s2 := { s1 with
    qlk := { s1.qlk with tokenAt := s.now, orphan := false }
    tim := { s1.tim with run := true, base := time, since := at_ } }
  ((s2.put QLK_STACKSTAT_MASTER_OK 1).put TIM_STAT_VALID (bit valid)).modQl (s.linkTo 0) (fun q => { q with fails := 0 })

theorem beatToken_member {s : State} (time : Nat) (token : Token) (h : s.ownSid ≠ 0) : beatToken time token s =
    (let v := followPromotion token.promo (followRole token.role (tokenTaken time token.valid s))
     if token.resync && v.role = 1 then sendConfig v else v) := if_neg h

section
variable (time : Nat) (valid : Bool) (s : State)

theorem tokenTaken_qlk : (tokenTaken time valid s).qlk.tokenAt = s.now ∧ (tokenTaken time valid s).qlk.orphan = false :=
  ⟨rfl, rfl⟩

theorem tokenTaken_tim : (tokenTaken time valid s).tim.base = time ∧
    (tokenTaken time valid s).tim.since = s.beatTick s.beatNow := ⟨rfl, rfl⟩

theorem tokenTaken_shows : (tokenTaken time valid s).get QLK_STACKSTAT_MASTER_OK = 1 ∧
    (tokenTaken time valid s).get TIM_STAT_VALID = bit valid := by
  unfold tokenTaken
  simp (disch := decide) only [modQl_get, get_put_ne, get_put_same]
  exact ⟨rfl, Nat.mod_eq_of_lt (bit_lt_two _)⟩

theorem setTAlign_role (t : Nat) : (setTAlign t s).role = s.role := by
  unfold setTAlign State.role
  simp (disch := decide) only [get_put_ne]

theorem tokenTaken_role : (tokenTaken time valid s).role = s.role := by
  have hrecords (t : State) (x : Qlk) (y : Tim) : ({ t with qlk := x, tim := y } : State).get QLK_PAIRSTAT_ROLE = t.role := rfl
  unfold tokenTaken State.role
  simp (disch := decide) only [modQl_get, get_put_ne]
  rw [hrecords, apply_ite State.role, setTAlign_role, ite_self]
  rfl
end

/-- A member whose role is that of its stack keeps it. -/
theorem followRole_same {s : State} {role : Nat} (h0 : s.role ≠ 0) (h : role = s.role % 5) : followRole role s = s := by
  have hyields : ¬(s.role = 1 && (role = 2 || role = 4)) = true := by
    simp only [Bool.and_eq_true, Bool.or_eq_true, decide_eq_true_eq]
    omega
  have hjoins : ¬(s.role = 2 && role = 1 && s.qlk.promoAt.isNone) = true := by
    simp only [Bool.and_eq_true, decide_eq_true_eq]
    omega
  unfold followRole
  rw [if_neg h0, if_neg hyields, if_neg hjoins]

/-- A token that asks for nothing is taken, and that is all. -/
theorem beatToken_plain {s : State} {time : Nat} {token : Token} (hsid : s.ownSid ≠ 0) (h0 : s.role ≠ 0)
    (hpromo : token.promo = none) (hresync : token.resync = false) (hrole : token.role = Fin.ofNat 5 s.role) :
    beatToken time token s = tokenTaken time token.valid s := by
  have hrole' : token.role.val = (tokenTaken time token.valid s).role % 5 := by
    rw [tokenTaken_role, hrole]
    rfl
  rw [beatToken_member time token hsid, hpromo, hresync, followRole_same (by rwa [tokenTaken_role]) hrole']
  rfl

/-! ### Lost masters and members (R266, R267) -/

section
variable {s : State}

theorem tokenTimeout_lost (hsid : s.ownSid ≠ 0) (hup : s.linkSt (s.linkTo 0) = 3) (hor : s.qlk.orphan = false) :
    tokenTimeout s = masterLost (s.moveTo (s.qlk.tokenAt + 4 * Config.beat)) := if_neg (by simp [hsid, hup, hor])

theorem dugoutMsg_member (hsid : s.ownSid ≠ 0) : dugoutMsg s = raise ev_STACK_MASTER_LOST 228 s := if_neg hsid

theorem memberLost_present {sid : Nat} (hown : s.ownSid = 0) (hsid : sid ≠ 0)
    (hp : bitOf (s.get QLK_STACKSTAT_PRESENT) sid = true) : memberLost sid s =
      remoteLost (s.linkTo sid) (emit ev_STACK_MEMBER_LOST 228
        (s.put QLK_STACKSTAT_PRESENT (s.get QLK_STACKSTAT_PRESENT - 2 ^ sid)) .none 0 sid) :=
  if_neg (by simp [hown, hsid, hp])
end

/-- Settles O41: a mark, a token and a loss each take the branch their conditions name. That a token carries the role of its stack,
the promotion and the resync is the model's design choice (log 163); that its time is for the receiver's latest beat boundary is
deduced (log 165). -/
theorem stackEvents : Obligations.StackEvents := by
  refine fun s hs => ⟨fun b time hm hw => ?_, fun time token hsid h0 hpromo hresync hrole => ?_, fun time token hsid => ?_,
    fun hsid hup hor => ?_, fun hsid => ?_, fun sid hown hsid hp => ?_⟩
  · obtain ⟨halign, hsamp, htim⟩ := alignNow_grid { s with tim := { s.tim with run := true, base := time, since := s.now } } b
    exact ⟨_, halign, hsamp, by rw [htim], by rw [htim], by rw [htim], row_does rfl hs (gridMark_waiting b time hm hw)⟩
  · obtain ⟨hat, hor⟩ := tokenTaken_qlk time token.valid s
    obtain ⟨hbase, hsince⟩ := tokenTaken_tim time token.valid s
    exact ⟨_, row_does rfl hs (beatToken_plain hsid h0 hpromo hresync hrole), hat, hor, hbase, hsince, tokenTaken_shows _ _ _⟩
  · obtain ⟨hbase, -⟩ := tokenTaken_tim time token.valid s
    exact ⟨tokenTaken time token.valid s, row_does rfl hs (beatToken_member time token hsid), tokenTaken_role _ _ _, hbase⟩
  · exact row_does rfl hs (tokenTimeout_lost hsid hup hor)
  · exact row_does rfl hs (dugoutMsg_member hsid)
  · exact row_does rfl hs (memberLost_present hown (Fin.val_ne_of_ne hsid) hp)

end Sys2Proof.Machine
end

section
/-!
PROOFS. Device time (R260-R265): the latched read, the set that was armed, the pulse per second and the Sync messages of PTP.
-/
namespace Sys2Proof.Machine
open Sys2Proof

/-- Another record of device time; everything else stands. -/
def State.withTim (s : State) (x : Tim) : State := { s with tim := x }

theorem withTim_tim (s : State) (x : Tim) : (s.withTim x).tim = x := (rfl)
theorem withTim_now (s : State) (x : Tim) : (s.withTim x).now = s.now := (rfl)
theorem withTim_get (s : State) (x : Tim) (f : Fld) (i j : Nat) : (s.withTim x).get f i j = s.get f i j := (rfl)

/-! ### Reading and setting (R261, R262) -/

theorem timFracRead_latches (s : State) : (timFracRead s).get TIM_FRAC_FRAC = s.devTime % 2 ^ 32 ∧
    (timFracRead s).get TIM_SEC_LO_SEC = s.devTime / 2 ^ 32 % 2 ^ 32 ∧
    (timFracRead s).get TIM_SEC_HI_SEC = s.devTime / 2 ^ 64 % 65536 := by
  unfold timFracRead
  dsimp only
  simp (disch := decide) only [get_put_ne, get_put_same]
  exact ⟨Nat.mod_mod _ _, Nat.mod_mod _ _, Nat.mod_mod _ _⟩

theorem setTAlign_tim (t : Nat) (s : State) : (setTAlign t s).tim = s.tim := congrArg PowerSide.tim (setTAlign_powerSide t s)

theorem setTAlign_now (t : Nat) (s : State) : (setTAlign t s).now = s.now := by
  unfold setTAlign
  rw [put_now, put_now, put_now]

theorem setTime_tim (t : Nat) (s : State) : (setTime t s).tim = { s.tim with run := true, base := t, since := s.now } := by
  unfold setTime
  dsimp only
  rw [emit_tim, put_tim, setTAlign_tim]

theorem setTime_now (t : Nat) (s : State) : (setTime t s).now = s.now := by
  unfold setTime
  dsimp only
  rw [emit_now, put_now, setTAlign_now]

theorem setTime_valid (t : Nat) (s : State) : (setTime t s).get TIM_STAT_VALID = 1 := by
  unfold setTime
  dsimp only
  rw [emit_get (by decide), get_put_same _ _ _ _ _ (by decide)]
  rfl

/-- An armed set has applied: device time is the one written, from this moment on. -/
theorem armDone_setTime (t : Nat) (s : State) : let u := armDone (setTime t s)
    u.tim = { s.tim with run := true, base := t, since := s.now, armed := none } ∧ u.now = s.now ∧ u.get TIM_STAT_VALID = 1 := by
  dsimp only
  unfold armDone
  refine ⟨?_, (putWord_now _ _ _ _ _).trans (setTime_now t s), ?_⟩
  · rw [putWord_tim]
    dsimp only
    rw [setTime_tim]
  · rw [get_putWord_ne _ _ _ _ _ _ _ _ (.inr (by decide))]
    exact setTime_valid t s

theorem put_devTime (s : State) (f : Fld) (v i j : Nat) : (s.put f v i j).devTime = s.devTime := by
  unfold State.devTime
  rw [put_tim, put_now]

/-- At the moment its count starts device time is the base. -/
theorem devTime_since {s : State} (hrun : s.tim.run = true) (hnow : s.tim.since = s.now) : s.devTime = s.tim.base := by
  unfold State.devTime
  rw [if_pos hrun, hnow]
  simp

theorem timeSet_applies {s : State} {t : Nat} (ha : s.tim.armed = some t) (hn : s.tim.setNow = true) : timeSet s =
    armDone (setTime t (s.moveTo (s.beatTick ((s.tim.armAt - s.align) / Config.beat + 1)))) := by
  unfold timeSet
  rw [ha]
  exact if_pos hn

/-! ### The pulse per second (R263) -/

/-- The time of an edge is kept until the next one. -/
def edgeNoted (s : State) : State := s.withTim { s.tim with pps := some (s.now, s.devTime) }

/-- An edge answers a set or a PTP step that waits for it (R262, R264). -/
def edgeAnswered (s : State) : State :=
  match s.tim.armed with
  | some v =>
    if s.tim.setNow then s
    else if s.now < s.tim.armAt + Config.beat then s.put TIM_STAT_SET_LATE 1
    else armDone (setTime v s)
  | none =>
    match s.tim.step with
    | some d => if s.tim.stepNow then s else ptpStep d s
    | none => s

/-- An edge shows its error and whether it is steady, answers what waits for it, and is noted. -/
theorem ppsEdge_answered (s : State) : ∃ e ok,
    ppsEdge s = edgeNoted (edgeAnswered ((s.put TIM_PPSERR_ERR e).put TIM_STAT_PPS_OK ok)) := by
  unfold ppsEdge
  exact ⟨_, _, rfl⟩

theorem edgeAnswered_none {s : State} (ha : s.tim.armed = none) (hstep : s.tim.step = none) : edgeAnswered s = s := by
  unfold edgeAnswered
  rw [ha, hstep]

/-- An armed set applies at the first edge a beat or more after it was armed (R262). -/
theorem edgeAnswered_set {s : State} {t : Nat} (ha : s.tim.armed = some t) (hn : s.tim.setNow = false)
    (hdue : s.tim.armAt + Config.beat ≤ s.now) : edgeAnswered s = armDone (setTime t s) := by
  unfold edgeAnswered
  rw [ha, hn]
  dsimp only
  rw [if_neg Bool.false_ne_true, if_neg (not_lt.2 hdue)]

theorem ppsLost_due {s : State} {t v : Nat} (h : s.tim.pps = some (t, v)) : ppsLost s =
    (let x := s.moveTo (t + 1100 * Config.ms)
     emit ev_PPS_LOST 229 ({ x with tim := { x.tim with pps := none } }.put TIM_STAT_PPS_OK 0)) := by
  unfold ppsLost
  rw [h]

theorem ppsLost_reads {s : State} {t v : Nat} (h : s.tim.pps = some (t, v)) : (ppsLost s).now = max s.now (t + 1100 * Config.ms) ∧
    (ppsLost s).tim.pps = none ∧ (ppsLost s).get TIM_STAT_PPS_OK = 0 := by
  rw [ppsLost_due h]
  dsimp only
  rw [emit_now, emit_tim, emit_get (by decide), get_put_same _ _ _ _ _ (by decide)]
  exact ⟨rfl, rfl, rfl⟩

/-- The output rises at the next whole second, for 100 ms. -/
theorem ppsOut_rises {s : State} (hm : s.isMaster = true) (hen : s.flag TIM_CFG_PPS_OUT_EN = true) (hrun : s.tim.run = true) :
    ∃ t : Nat, let v := s.moveTo t
      ppsOut s = { v with tim := { v.tim with outTill := v.now + 100 * Config.ms } } :=
  ⟨_, if_neg (by simp [hm, hen, hrun])⟩

/-! ### PTP (R264) -/

theorem codeOf_lt (n : Nat) (i : Int) : codeOf n i < 2 ^ n := by
  have hpos : (0 : Int) < ((2 ^ n : Nat) : Int) := by positivity
  have hlt := Int.emod_lt_of_pos i hpos
  have hge := Int.emod_nonneg i hpos.ne'
  unfold codeOf
  omega

/-- A Sync of the domain in use has given its offset. -/
def ptpNoted (port : Nat) (offset : Int) (s : State) : State :=
  ((s.put TIM_PTPOFS_OFS (codeOf 32 (clampI (-2147483648) 2147483647 offset))).put TIM_STAT_PTP_LOCK 1).put TIM_STAT_PTP_PORT port

theorem ptpNoted_shows {port : Nat} (offset : Int) (s : State) (h : port < 2) :
    (ptpNoted port offset s).get TIM_STAT_PTP_LOCK = 1 ∧ (ptpNoted port offset s).get TIM_STAT_PTP_PORT = port ∧
      (ptpNoted port offset s).get TIM_PTPOFS_OFS = codeOf 32 (clampI (-2147483648) 2147483647 offset) := by
  unfold ptpNoted
  simp (disch := decide) only [get_put_same, get_put_apart, get_put_ne]
  exact ⟨rfl, Nat.mod_eq_of_lt h, Nat.mod_eq_of_lt (codeOf_lt _ _)⟩

/-- A choice between two records of device time. -/
theorem ite_withTim (c : Bool) (s : State) (x y : Tim) :
    (if c then { s with tim := x } else { s with tim := y }) = s.withTim (if c then x else y) := by
  cases c <;> rfl

/-- The first Sync asks for a step by its offset; after it, an offset of at most 1 µs asks for none. -/
theorem ptpSync_taken {s : State} {port domain : Nat} (o : Int) (hm : s.isMaster = true) (hsrc : s.flag TIM_CFG_SRC = true)
    (hen : s.flag (if port = 0 then TIM_CFG_PTP0_EN else TIM_CFG_PTP1_EN) = true) (hd : domain = s.get TIM_CFG_DOMAIN) :
    ∃ y : Tim, ptpSync port domain o s = (ptpNoted port o s).withTim y ∧
      (s.flag TIM_STAT_PTP_LOCK = false → y.step = some o) ∧
      (s.flag TIM_STAT_PTP_LOCK = true → o.natAbs ≤ 1000 → y.step = s.tim.step) := by
  refine ⟨_, (if_neg (by simp [hm, hsrc, hen, hd])).trans (ite_withTim _ _ _ _), fun hl => ?_, fun hl hsmall => ?_⟩
  · simp [hl]
  · simp [hl, not_lt.2 hsmall]

/-- Settles O42: each event of device time takes the branch its conditions name, and what it puts reads back. What the PTP clock
has taken comes with the Sync (log 166), and its offset is own minus master (log 93). -/
theorem deviceTimeEvents : Obligations.DeviceTimeEvents := by
  refine fun s => ⟨fun hl => ?_, fun hs t ha hn => ?_, fun hs hio ha hstep => ?_, fun hs hio t ha hn hdue => ?_,
    fun hs t v hp => ?_, fun hs hm hen hrun => ?_, fun hs p domain o hm hsrc hen hd => ?_⟩
  · exact ⟨_, hostBell_does rfl hl rfl, timFracRead_latches s⟩
  · obtain ⟨htim, hnow, hvalid⟩ := armDone_setTime t (s.moveTo (s.beatTick ((s.tim.armAt - s.align) / Config.beat + 1)))
    refine ⟨_, row_does rfl hs (timeSet_applies ha hn), ?_⟩
    rw [devTime_since (by rw [htim]) (by rw [htim, hnow]), htim]
    exact ⟨rfl, rfl, hnow.symm, rfl, hvalid, hnow⟩
  · obtain ⟨e, ok, hu⟩ := ppsEdge_answered s
    rw [edgeAnswered_none (by rw [put_tim, put_tim, ha]) (by rw [put_tim, put_tim, hstep])] at hu
    refine ⟨_, row_does rfl hs ((pinIn_ok _ hio).trans hu), ?_⟩
    rw [edgeNoted, withTim_tim, withTim_now, put_devTime, put_devTime, put_now, put_now]
    exact ⟨rfl, rfl⟩
  · obtain ⟨e, ok, hu⟩ := ppsEdge_answered s
    rw [edgeAnswered_set (by rw [put_tim, put_tim, ha]) (by rw [put_tim, put_tim, hn])
      (by rw [put_tim, put_tim, put_now, put_now]; exact hdue)] at hu
    obtain ⟨htim, -, hvalid⟩ := armDone_setTime t ((s.put TIM_PPSERR_ERR e).put TIM_STAT_PPS_OK ok)
    refine ⟨_, row_does rfl hs ((pinIn_ok _ hio).trans hu), ?_⟩
    rw [edgeNoted, withTim_get, withTim_tim, htim, put_now, put_now]
    exact ⟨rfl, rfl, rfl, hvalid⟩
  · exact ⟨_, row_does rfl hs rfl, ppsLost_reads hp⟩
  · obtain ⟨t, hu⟩ := ppsOut_rises hm hen hrun
    exact ⟨_, row_does rfl hs hu, rfl⟩
  · have hport : (if p.val = 0 then TIM_CFG_PTP0_EN else TIM_CFG_PTP1_EN) = if p = 0 then TIM_CFG_PTP0_EN else TIM_CFG_PTP1_EN :=
      if_congr Fin.val_eq_zero_iff rfl rfl
    obtain ⟨y, hu, hfirst, hlater⟩ := ptpSync_taken (port := p.val) o hm hsrc (by rw [hport]; exact hen) hd
    obtain ⟨hlock, hshown, hofs⟩ := ptpNoted_shows o s p.isLt
    refine ⟨_, row_does rfl hs hu, ?_⟩
    rw [withTim_get, withTim_get, withTim_get, withTim_tim]
    exact ⟨hlock, hshown, hofs, hfirst, hlater⟩

end Sys2Proof.Machine
end

section
/-!
PROOFS. The Bullpen pair (R269-R276): mirrors and epochs, promotion, and the exchange of roles.
-/
namespace Sys2Proof.Machine
open Sys2Proof

section
variable {s : State}

/-! ### Mirrors and the resynchronisation (R271, R276) -/

theorem mirrorReceive_kept {seq : Nat} {regs : List (Nat × Word)} (hr : s.role = 2) (hne : regs ≠ []) :
    mirrorReceive seq true regs s = { s with qlk := { s.qlk with mirrors := s.qlk.mirrors ++ [(seq, regs)] } } := by
  unfold mirrorReceive
  rw [if_neg (by simp [hne]), if_neg (by simp [hr])]

/-- A mirror cut short is discarded. -/
theorem mirrorReceive_short (seq : Nat) (regs : List (Nat × Word)) : mirrorReceive seq false regs s = s := by
  unfold mirrorReceive
  rw [if_neg (by simp), if_pos (by simp)]

theorem mirrorApply_waiting (h : s.qlk.mirrors ≠ []) : mirrorApply s =
    (let t := s.moveTo s.beatCeil
     forAll s.qlk.mirrors applyMirror { t with qlk := { t.qlk with mirrors := [] } }) := if_neg h

theorem resyncApply_reads {seq : Nat} (regs : List (Nat × Word)) (hr : s.role = 2) (hseq : seq < 2 ^ 32) :
    (resyncApply seq regs s).get QLK_MIRRORSEQ_SEQ = seq ∧ (resyncApply seq regs s).get QLK_PAIRSTAT_MIRROR_SYNC = 1 := by
  unfold resyncApply
  rw [if_neg (by simp [hr])]
  dsimp only
  simp (disch := decide) only [get_put_ne, get_put_same]
  exact ⟨Nat.mod_eq_of_lt hseq, rfl⟩

/-! ### Epochs (R272) -/

theorem epochTake_periodic {t : Nat} (hr : s.role = 1) (ht : s.qlk.epochAt = some t) (hswap : s.qlk.swap = none) :
    epochTake s = takeEpoch (s.moveTo (t + 3906 * Config.beat)) := by
  unfold epochTake
  rw [if_neg (by simp [hr]), hswap, ht]

theorem epochReceive_kept (n : Nat) (e : Epoch) (hr : s.role = 2) : epochReceive n (some e) s =
    (({ s with qlk := { s.qlk with held := some e } } : State).put QLK_EPOCH_NUMBER n).put QLK_PAIRSTAT_EPOCH_VALID 1 :=
  if_neg (by simp [hr])

theorem epochReceive_reads {n : Nat} (e : Epoch) (hr : s.role = 2) (hn : n < 2 ^ 32) :
    (epochReceive n (some e) s).qlk.held = some e ∧ (epochReceive n (some e) s).get QLK_EPOCH_NUMBER = n ∧
      (epochReceive n (some e) s).get QLK_PAIRSTAT_EPOCH_VALID = 1 := by
  rw [epochReceive_kept n e hr, put_qlk, put_qlk]
  simp (disch := decide) only [get_put_ne, get_put_same]
  exact ⟨trivial, Nat.mod_eq_of_lt hn, rfl⟩

/-- An epoch cut short or failing its check is discarded. -/
theorem epochReceive_bad (n : Nat) (hr : s.role = 2) : epochReceive n none s = emit ev_EPOCH_DISCARD 231 s := if_neg (by simp [hr])

/-! ### Triggers (R269, R273-R275) -/

theorem promote_schedules (hr : s.role = 2) (hp : s.qlk.promoAt = none) : promote s =
    { s with qlk := { s.qlk with promoAt := some (s.beatTick (s.beatAt (s.now + 2 * Config.beat))) } } := if_neg (by simp [hr, hp])

theorem relinquish_promotes (hr : s.role = 2) (hm : s.isMaster = true) (hp : s.qlk.promoAt = none) (hswap : s.qlk.swap = none) :
    relinquish s = promote s := by
  have hswap' : (promote s).qlk.swap = none := by rw [promote_schedules hr hp]; exact hswap
  unfold relinquish
  rw [if_neg (by simp [hr]), if_neg (by simp [hr]), if_neg (by simp [hm])]
  dsimp only
  rw [hswap']

theorem relinquish_passedOn (hr : s.role = 2) (hm : s.isMaster = false) : relinquish s = sendMsg (s.linkTo 0) .relinquish [] s := by
  unfold relinquish
  rw [if_neg (by simp [hr]), if_neg (by simp [hr]), if_pos (by simp [hm])]

theorem relinquish_yields (hr : s.role = 1) (hm : s.isMaster = true) : relinquish s = setRole 4 s := if_pos (by simp [hr, hm])

/-- The timer of link 3 has run out. -/
def lossTimed (t : Nat) (s : State) : State :=
  let x := s.moveTo (t + Config.ms)
  { x with qlk := { x.qlk with downAt := none } }

theorem lossTimed_isMaster (t : Nat) (s : State) : (lossTimed t s).isMaster = s.isMaster := (rfl)
theorem lossTimed_role (t : Nat) (s : State) : (lossTimed t s).role = s.role := (rfl)
theorem lossTimed_linkTo (t j : Nat) (s : State) : (lossTimed t s).linkTo j = s.linkTo j := (rfl)

/-- What a device does when it takes its counterpart for lost. -/
def lossAnswered (s : State) : State :=
  if !s.isMaster then sendMsg (s.linkTo 0) .relinquish [] s
  else if s.role = 2 then promote s else if s.role = 1 then setRole 4 s else s

theorem link3Timer_due {t : Nat} (ht : s.qlk.downAt = some t) (hauto : s.flag QLK_PAIRCFG_AUTO_LINKLOSS = true) :
    link3Timer s = lossAnswered (lossTimed t s) := by
  unfold link3Timer
  rw [ht]
  exact if_neg (by simp [hauto])

theorem lossAnswered_member (hm : s.isMaster = false) : lossAnswered s = sendMsg (s.linkTo 0) .relinquish [] s :=
  if_pos (by simp [hm])
theorem lossAnswered_bullpen (hm : s.isMaster = true) (hr : s.role = 2) : lossAnswered s = promote s :=
  (if_neg (by simp [hm])).trans (if_pos hr)
theorem lossAnswered_active (hm : s.isMaster = true) (hr : s.role = 1) : lossAnswered s = setRole 4 s :=
  (if_neg (by simp [hm])).trans ((if_neg (by simp [hr])).trans (if_pos hr))

theorem swapRequest_collides {d : Defer} (hm : s.isMaster = true) (hswap : s.qlk.swap = some d) : swapRequest s =
    emit ev_SWAP_COLLIDED 230 (completeDefer d stSWAP_COLLIDED { s with qlk := { s.qlk with swap := none } }) := by
  unfold swapRequest
  rw [if_neg (by simp [hm]), hswap]

theorem swapRequest_yields (hm : s.isMaster = true) (hswap : s.qlk.swap = none) (hr : s.role = 1) :
    swapRequest s = setRole 4 (sendMsg 3 .relinquish [] (takeEpoch s)) := by
  unfold swapRequest
  rw [if_neg (by simp [hm]), hswap]
  exact if_pos hr

/-! ### Promotion (R274) -/

/-- Beat P has come, and the cap is lifted 100 µs later. -/
def beatP (p : Nat) (s : State) : State :=
  let x := s.moveTo p
  { x with qlk := { x.qlk with promoAt := none, liftAt := some (p + 100 * Config.us), mirrors := [] } }

theorem promotionBeat_empty {p : Nat} (hp : s.qlk.promoAt = some p) (hh : s.qlk.held = none) :
    promotionBeat s = setRole 3 (beatP p s) := by
  unfold promotionBeat beatP
  rw [hp]
  dsimp only
  rw [moveTo_qlk, hh]

theorem promotionBeat_epoch {p : Nat} {e : Epoch} (hp : s.qlk.promoAt = some p) (hh : s.qlk.held = some e) : promotionBeat s =
    setRole 3 (takeHistories e { beatP p s with pst := { (beatP p s).pst with epochSeeds := e.links.map (epochSeed e) } }) := by
  unfold promotionBeat beatP
  rw [hp]
  dsimp only
  rw [moveTo_qlk, hh]

theorem promotionLift_due {t : Nat} (h : s.qlk.liftAt = some t) : promotionLift s = (let x := s.moveTo t
    kickRadio { x with qlk := { x.qlk with liftAt := none }, radio := { x.radio with promoteCap := false } }) := by
  unfold promotionLift
  rw [h]

end

/-- Settles O43: each message, moment and trigger of a pair takes the branch its conditions name. What a member passes on and an
ACTIVE master does with it is the model's design choice (log 163); the peer's AUTO_LINKLOSS is taken as its own (log 94). -/
theorem pairEvents : Obligations.PairEvents := by
  refine fun s hs => ⟨fun seq ms hr hne => ?_, fun seq ms hr => ?_, fun hne => ?_, fun t hr ht hswap => ?_, fun n e hr => ?_,
    fun n hr => ?_, fun hr hm hp hswap => ?_, fun hr hm => ?_, fun hr hm => ?_, fun t ht hauto => ?_, fun p hp hh => ?_,
    fun p e hp hh => ?_, fun t ht => ?_, fun d hm hswap => ?_, fun hm hswap hr => ?_, fun seq regs hr => ?_⟩
  · exact ⟨_, row_does rfl hs (mirrorReceive_kept hr (by simpa using hne)), rfl⟩
  · exact row_does rfl hs (mirrorReceive_short _ _)
  · exact row_does rfl hs (mirrorApply_waiting hne)
  · exact row_does rfl hs (epochTake_periodic hr ht hswap)
  · exact ⟨_, row_does rfl hs rfl, epochReceive_reads e hr n.isLt⟩
  · exact row_does rfl hs (epochReceive_bad _ hr)
  · refine ⟨_, row_does rfl hs ((relinquish_promotes hr hm hp hswap).trans (promote_schedules hr hp)), rfl⟩
  · exact row_does rfl hs (relinquish_passedOn hr hm)
  · exact row_does rfl hs (relinquish_yields hr hm)
  · have hdue := link3Timer_due ht hauto
    refine ⟨fun hm => ?_, fun hm hr => ?_, fun hm hr => ?_⟩
    · rw [lossAnswered_member ((lossTimed_isMaster t s).trans hm), lossTimed_linkTo] at hdue
      exact row_does rfl hs hdue
    · exact row_does rfl hs (hdue.trans (lossAnswered_bullpen ((lossTimed_isMaster t s).trans hm) ((lossTimed_role t s).trans hr)))
    · exact row_does rfl hs (hdue.trans (lossAnswered_active ((lossTimed_isMaster t s).trans hm) ((lossTimed_role t s).trans hr)))
  · exact ⟨beatP p s, rfl, rfl, rfl, rfl, row_does rfl hs (promotionBeat_empty hp hh)⟩
  · exact ⟨_, rfl, rfl, rfl, rfl, row_does rfl hs (promotionBeat_epoch hp hh)⟩
  · exact ⟨_, row_does rfl hs (promotionLift_due ht), rfl, rfl, rfl⟩
  · refine ⟨_, row_does rfl hs (swapRequest_collides hm hswap), ?_⟩
    rw [emit_qlk, completeDefer, writeCpl_qlk]
  · exact row_does rfl hs (swapRequest_yields hm hswap hr)
  · exact ⟨_, row_does rfl hs rfl, resyncApply_reads _ hr seq.isLt⟩

end Sys2Proof.Machine
end

section
/-!
PROOFS. The step, Dugout, the pending bits and FAULT_N: what the record and the delivery of a report leave alone, the one bit of
FLT_PEND a report sets, and a write of 1 to it (R369-R386).
-/
namespace Sys2Proof.Machine
open Sys2Proof

/-! ### The step (log 11, log 16) -/

theorem step_front (c : Instr) (rest : List Instr) (s : State) :
    step { s with pending := c :: rest } = exec c { s with pending := rest } := rfl

theorem step_idle {s : State} (h : s.pending = []) : step s = .next s := by
  unfold step
  rw [h]

theorem withFetchWord_none (n w : Nat) (s : State) : s.withFetchWord n w = s := rfl

/-- Settles O1: the queue decides the branch of the step (log 16), and no word spells a command (log 11). -/
theorem stepRunsTheFrontCommand : Obligations.StepRunsTheFrontCommand :=
  fun c rest s => ⟨step_front c rest s, step_idle, fun n w => withFetchWord_none n w s⟩

/-! ### Dugout (R381) -/

/-- The commands whose frame lets Dugout end. -/
theorem grantOf_dugout {i : Instr} (h : (grantOf i).dugout = true) : i = .resetAction ∨ i = .vauxLoss := by
  cases i with
  | resetAction => exact .inl rfl
  | vauxLoss => exact .inr rfl
  | _ => exact absurd h Bool.false_ne_true

/-- Settles O5: the frame of every command keeps Dugout, but for those whose grant lets it end. -/
theorem onlyAResetLeavesDugout : Obligations.OnlyAResetLeavesDugout := by
  intro i s t ht hs hend
  obtain ⟨u, rfl⟩ := exec_keeps i s t ht
  rw [framed_dugout, hs, Bool.true_and, Bool.or_eq_false_iff] at hend
  exact grantOf_dugout (by simpa using hend.2)

/-! ### What the record of a report leaves alone (R372-R386) -/

/-- What `g` reads is nothing of the rings and the registers of HIF, and of the collector at most Dugout, whether the page checks
have ended, and registers that count neither messages nor lost records. -/
structure OffRecords {β : Type} (g : State → β) : Prop extends OffRings g where
  fltSet : ∀ t x, x.dugout = t.flt.dugout → x.pageCheck = t.flt.pageCheck → g { t with flt := x } = g t
  conseqCount : ∀ t, g (State.count t FLT_MSGCNT_CONSEQUENT) = g t
  lostCount : ∀ t f, f.fam = FLT_SBLOST → g (State.count t f) = g t

section
variable {β : Type} {g : State → β} (h : OffRecords g)
include h

theorem OffRecords.startFlush (s : State) : g (startFlush s) = g s := by
  unfold Machine.startFlush
  split
  · rfl
  split
  · exact h.fltSet _ _ rfl rfl
  split <;> exact h.fltSet _ _ rfl rfl

theorem OffRecords.bufferRecord (r : Report) (conseq : Bool) (p3 : Nat) (s : State) : g (bufferRecord r conseq p3 s) = g s := by
  unfold Machine.bufferRecord
  dsimp only
  split
  · exact h.lostCount _ _ rfl
  split
  · split
    · exact h.lostCount _ _ rfl
    · rw [h.deliver, apply_ite g, h.conseqCount, ite_self]
      exact (h.fltSet _ _ (by rfl) (by rfl)).trans (h.lostCount s FLT_SBLOST_LOST rfl)
  · rw [apply_ite g, h.startFlush, ite_self]
    exact h.fltSet _ _ rfl rfl

theorem OffRecords.recordReport (r : Report) (conseq : Bool) (s : State) : g (recordReport r conseq s) = g s := by
  unfold Machine.recordReport
  dsimp only
  have hlog (x : Tab SrcLog) : g { s with flt := { s.flt with srcs := x } } = g s := h.fltSet _ _ rfl rfl
  simp only [apply_ite g, h.bufferRecord, hlog, ite_self]

theorem OffRecords.withhold (a : Area) (r : Report) (s : State) : g (withhold a r s) = g s := by
  unfold Machine.withhold
  split
  · rfl
  · exact h.fltSet _ _ rfl rfl

theorem OffRecords.openShadow (a : Area) (s : State) : g (openShadow a s) = g s := by
  unfold Machine.openShadow
  dsimp only
  split
  · rfl
  · exact h.fltSet _ _ rfl rfl

/-- A report that is CONTAINED or FATAL and not CONSEQUENT sets its pending bit; that is all of it `g` can read. -/
theorem OffRecords.accepted_acts {a : Area} {r : Report} {s : State} (hcls : 2 ≤ r.cls) (hcov : s.covered r.src = false) :
    g (accepted a r s) = g (s.putBit FLT_PEND_PEND r.src true) := by
  unfold accepted
  simp only [hcls, hcov, decide_true, Bool.not_false, Bool.and_true, Bool.false_eq_true, if_true, if_false]
  rw [h.openShadow, h.startFlush, h.deliver, h.recordReport]

/-- Any other report changes nothing `g` can read. -/
theorem OffRecords.accepted_idle {a : Area} {r : Report} {s : State} (hr : r.cls < 2 ∨ s.covered r.src = true) :
    g (accepted a r s) = g s := by
  have hacts : (decide (2 ≤ r.cls) && !s.covered r.src) = false := by
    rcases hr with hr | hr
    · simp [not_le.2 hr]
    · simp [hr]
  unfold accepted
  simp only [hacts, Bool.false_eq_true, if_false]
  rw [h.deliver, h.recordReport, apply_ite g, h.withhold, h.conseqCount, ite_self]
end

/-- A count field at the head of FLT stands in another register than FLT_PEND. -/
theorem get_count_pend (s : State) (f : Fld) (k : Nat) (hf : f.fam.base ≠ FLT_PEND.base + 4 * k) :
    (s.count f).get FLT_PEND_PEND k = s.get FLT_PEND_PEND k := by
  refine get_put_ne _ _ _ _ _ _ _ _ (.inr ?_)
  simpa [regOff, FLT_PEND_PEND, FLT_PEND] using hf.symm

/-- FLT_PEND counts neither messages nor lost records. -/
theorem offRecords_pend {k : Nat} (hk : k < 12) : OffRecords (State.get · FLT_PEND_PEND k) where
  toOffRings := ⟨fun _ _ => rfl, fun _ _ => rfl, fun _ _ => rfl, fun _ _ => rfl,
    fun _ _ _ _ _ hf => get_put_ne _ _ _ _ _ _ _ _ (.inl (by rw [hf]; decide))⟩
  fltSet _ _ _ _ := rfl
  conseqCount t := get_count_pend t _ k (by show 0x280010 ≠ 0x280040 + 4 * k; omega)
  lostCount t f hf := get_count_pend t f k (by rw [hf]; show 0x280104 ≠ 0x280040 + 4 * k; omega)

theorem offRecords_dugout : OffRecords (fun s : State => s.flt.dugout) :=
  ⟨⟨fun _ _ => rfl, fun _ _ => rfl, fun _ _ => rfl, fun _ _ => rfl, fun _ _ _ _ _ _ => rfl⟩, fun _ _ hd _ => hd,
    fun t => congrArg Flt.dugout (count_flt t _ _ _ _), fun t _ _ => congrArg Flt.dugout (count_flt t _ _ _ _)⟩

theorem offRecords_pageCheck : OffRecords (fun s : State => s.flt.pageCheck) :=
  ⟨⟨fun _ _ => rfl, fun _ _ => rfl, fun _ _ => rfl, fun _ _ => rfl, fun _ _ _ _ _ _ => rfl⟩, fun _ _ _ hp => hp,
    fun t => congrArg Flt.pageCheck (count_flt t _ _ _ _), fun t _ _ => congrArg Flt.pageCheck (count_flt t _ _ _ _)⟩

/-! ### The pending bits (R372) -/

theorem accept_pend (a : Area) (r : Report) (s : State) (k : Nat) :
    (accept a r s).get FLT_PEND_PEND k = (accepted a r s).get FLT_PEND_PEND k :=
  get_congr_blk _ _ _ rfl (offReports_part.accepted a r s).symm

theorem accept_pend_acts {a : Area} {r : Report} {s : State} {k : Nat} (hk : k < 12) (hcls : 2 ≤ r.cls)
    (hcov : s.covered r.src = false) :
    (accept a r s).get FLT_PEND_PEND k = (s.putBit FLT_PEND_PEND r.src true).get FLT_PEND_PEND k := by
  rw [accept_pend, (offRecords_pend hk).accepted_acts hcls hcov]

theorem accept_pend_idle {a : Area} {r : Report} {s : State} {k : Nat} (hk : k < 12) (hr : r.cls < 2 ∨ s.covered r.src = true) :
    (accept a r s).get FLT_PEND_PEND k = s.get FLT_PEND_PEND k := by
  rw [accept_pend, (offRecords_pend hk).accepted_idle hr]

/-- The field holds the words of a bitmap, a whole register each. -/
def IsBitmap (f : Fld) : Prop := f.lo = 0 ∧ f.width = 32 ∧ f.fam.s1 ≠ 0

/-- A bit of a whole word is a field of width 1. -/
theorem bitOf_word (w : Word) (k : Nat) : bitOf (getBits w 0 32) k = decide (getBits w k 1 = 1) := by
  simp [bitOf, getBits, Nat.mod_eq_of_lt w.isLt]

section
variable {f : Fld} (hf : IsBitmap f)
include hf

theorem bitAt_eq (s : State) (x : Nat) :
    s.bitAt f x = decide (getBits (s.word f.fam (x / 32) 0) (x % 32) 1 = 1) := by
  obtain ⟨hlo, hwidth, -⟩ := hf
  unfold State.bitAt State.get
  rw [hlo, hwidth, bitOf_word]

theorem word_putBit (s : State) (x : Nat) (b : Bool) (k : Nat) : (s.putBit f x b).word f.fam k 0 =
    if k = x / 32 then setBits (s.word f.fam (x / 32) 0) (x % 32) 1 (bit b) else s.word f.fam k 0 := by
  obtain ⟨-, -, hstride⟩ := hf
  unfold State.putBit
  split
  · next hk => rw [hk, word_putWord_same]
  · next hk => exact word_putWord_ne _ _ _ _ _ _ _ _ (.inr (regOff_ne 0 hstride hk))

theorem bitAt_putBit_same (s : State) (x : Nat) (b : Bool) : (s.putBit f x b).bitAt f x = b := by
  rw [bitAt_eq hf, word_putBit hf, if_pos rfl, getBits_setBits_same _ _ _ _ (by omega)]
  cases b <;> rfl

theorem bitAt_putBit_ne (s : State) {x y : Nat} (b : Bool) (h : y ≠ x) : (s.putBit f x b).bitAt f y = s.bitAt f y := by
  rw [bitAt_eq hf, bitAt_eq hf, word_putBit hf]
  split
  · next hw => rw [hw, getBits_setBits_apart _ _ _ _ _ _ (by omega) (by omega)]
  · rfl
end

theorem bitAt_congr {s t : State} {f : Fld} {x : Nat} (h : t.get f (x / 32) = s.get f (x / 32)) : t.bitAt f x = s.bitAt f x := by
  unfold State.bitAt
  rw [h]

theorem isBitmap_pend : IsBitmap FLT_PEND_PEND := ⟨rfl, rfl, by decide⟩

/-! ### A write of FLT_PEND (R372) -/

/-- FLT_PEND is neither staged, locked, persistent nor a counter, and the offset of each of its registers leads to it. -/
theorem pend_decode : ∀ i < 12, persistIdx (regOff FLT_PEND i 0) = none ∧ blkOf (regOff FLT_PEND i 0) = some .flt ∧
    findFam (famsOf .flt) (regOff FLT_PEND i 0) = some (FLT_PEND, i, 0) := by
  decide +kernel

theorem wordWrite_pend {i : Nat} (v : Word) {s : State} (hi : i < 12) (hr : s.running = true) :
    wordWrite (regOff FLT_PEND i 0) v s = pendClear i v.toNat s := by
  obtain ⟨hpersist, hblk, hfind⟩ := pend_decode i hi
  have hcnt : FLT_PEND ∉ counterFams := by decide
  have hfam : wordWrite (regOff FLT_PEND i 0) v s = blockWrite FLT_PEND i 0 v s := by
    have hacc : FLT_PEND.rws = 0 ∧ FLT_PEND.rwl = 0 := by decide
    simp [wordWrite, famWrite, hr, hblk, hfind, hacc, hcnt, hpersist]
  rw [hfam]
  show fltWrite FLT_PEND i 0 v s = _
  exact if_pos rfl

theorem pendClear_eq (i : Nat) (v : Word) (s : State) : pendClear i v.toNat s =
    s.put FLT_PEND_PEND (s.get FLT_PEND_PEND i &&& (2 ^ 32 - 1 - v.toNat)) i := by
  unfold pendClear
  rw [Nat.mod_eq_of_lt v.isLt]

/-- A bit of a word and-ed with the complement of another: set there, and clear in the other. -/
theorem bitOf_and_compl (a : Nat) {v k : Nat} (hv : v < 2 ^ 32) (hk : k < 32) :
    bitOf (a &&& (2 ^ 32 - 1 - v)) k = (bitOf a k && !bitOf v k) := by
  have hcompl : 2 ^ 32 - 1 - v = 2 ^ 32 - (v + 1) := by omega
  rw [bitOf_eq_testBit, bitOf_eq_testBit, bitOf_eq_testBit, Nat.testBit_and, hcompl, Nat.testBit_two_pow_sub_succ hv]
  simp [hk]

/-- Settles O8: of what a report changes only one bit is in FLT_PEND, and a write of FLT_PEND is an and with the complement. -/
theorem pendingBitsSetAndAcknowledged : Obligations.PendingBitsSetAndAcknowledged := by
  refine fun s => ⟨fun a r hr => ⟨fun hcls hcov => ?_, fun hidle => ?_, fun x hx hne => ?_⟩, fun i v hl hrun => ⟨?_, fun k hk => ?_⟩⟩
  · rw [bitAt_congr (accept_pend_acts (by omega) hcls hcov), bitAt_putBit_same isBitmap_pend]
  · exact bitAt_congr (accept_pend_idle (by omega) hidle)
  · by_cases hact : 2 ≤ r.cls ∧ s.covered r.src = false
    · rw [bitAt_congr (accept_pend_acts (by omega) hact.1 hact.2), bitAt_putBit_ne isBitmap_pend _ _ hne]
    · refine bitAt_congr (accept_pend_idle (by omega) ?_)
      rwa [not_and_or, not_le, Bool.not_eq_false] at hact
  · show exec _ _ = _
    rw [show exec (.fltPendClear i v) s = hostReg (regOff FLT_PEND i 0) v s from rfl, hostReg_next _ _ hl,
      wordWrite_pend v i.isLt hrun, pendClear_eq]
  · have hdiv : (32 * i.val + k) / 32 = i.val := by omega
    have hmod : (32 * i.val + k) % 32 = k := by omega
    unfold State.bitAt
    rw [hdiv, hmod, get_put_same _ _ _ _ _ (by decide), Nat.mod_eq_of_lt, bitOf_and_compl _ v.isLt hk]
    exact lt_of_le_of_lt Nat.and_le_left (get_lt s FLT_PEND_PEND i 0)

/-! ### FAULT_N (R373) -/

theorem faultLow_iff (s : State) : s.faultLow = true ↔
    (∃ i < 12, s.get FLT_PEND_PEND i ≠ 0) ∨ s.flt.dugout = true ∨ s.flt.pageCheck = true := by
  simp only [State.faultLow, Bool.or_eq_true, List.any_eq_true, List.mem_range, decide_eq_true_eq, Nat.pos_iff_ne_zero]
  rw [or_comm]

theorem faultLow_congr {s t : State} (hp : ∀ k < 12, t.get FLT_PEND_PEND k = s.get FLT_PEND_PEND k)
    (hd : t.flt.dugout = s.flt.dugout) (hc : t.flt.pageCheck = s.flt.pageCheck) : t.faultLow = s.faultLow := by
  rw [Bool.eq_iff_iff, faultLow_iff, faultLow_iff, hd, hc]
  exact or_congr_left (exists_congr fun k => and_congr_right fun hk => by rw [hp k hk])

/-- CORRECTED and informational reports never drive FAULT_N. -/
theorem accept_faultLow {a : Area} {r : Report} {s : State} (hr : r.cls < 2) : (accept a r s).faultLow = s.faultLow :=
  faultLow_congr (fun _ hk => accept_pend_idle hk (.inl hr)) (offRecords_dugout.accepted_idle (.inl hr))
    (offRecords_pageCheck.accepted_idle (.inl hr))

theorem put_cascade_faultLow (s : State) (f : Fld) (v : Nat) (hf : f.fam = FLT_CASCADE) : (s.put f v).faultLow = s.faultLow := by
  refine faultLow_congr (fun k hk => get_put_ne _ _ _ _ _ _ _ _ (.inr ?_)) rfl rfl
  rw [hf]
  show 0x280040 + 4 * k + 4 * 0 ≠ 0x28000C
  omega

theorem cascade_faultLow (i : Nat) (low : Bool) (s : State) : (cascade i low s).faultLow = s.faultLow := by
  have hemit (t : State) : (emit ev_CASCADE_FAULT 381 t .none i).faultLow = t.faultLow := accept_faultLow (show ev_CASCADE_FAULT.cls < 2 by decide)
  unfold cascade
  dsimp only
  split
  · rfl
  split
  · rw [hemit, put_cascade_faultLow _ _ _ rfl, put_cascade_faultLow _ _ _ rfl]
  · exact put_cascade_faultLow _ _ _ rfl

/-- Settles O9: no report below CONTAINED and no cascade input touches a cause of FAULT_N. -/
theorem faultLineFollowsItsCauses : Obligations.FaultLineFollowsItsCauses :=
  fun s => ⟨faultLow_iff s, fun _ _ hr => accept_faultLow hr, fun i low _ => cascade_faultLow i low s⟩

end Sys2Proof.Machine
end

section
/-!
PROOFS. The firmware image: what its header spells, the branches of its read and its verification, and the writes of GLB that load
an image or reset the machine (R394, R397, R400, R401, R424).
-/
namespace Sys2Proof.Machine
open Sys2Proof

/-! ### The header of an image (R394) -/

theorem ofLe_leBytes (n v : Nat) : ofLe (leBytes n v) = v % 2 ^ (8 * n) := by
  induction n generalizing v with
  | zero => simp [leBytes, ofLe, Nat.mod_one]
  | succ n ih =>
    have hpow : 2 ^ (8 * (n + 1)) = 256 * 2 ^ (8 * n) := by rw [Nat.mul_succ, pow_add, Nat.mul_comm]; rfl
    rw [leBytes, ofLe, ih, hpow, Nat.mod_mul]

theorem fitLen_of_length {n : Nat} (d : Nat) {l : List Nat} (h : l.length = n) : fitLen n d l = l := by
  rw [fitLen_eq_append d h.le, h, Nat.sub_self]
  exact List.append_nil l

/-- The 16 bytes of a header of version 1. -/
def fwHeader (len sec : Nat) : List Nat := [0x4D, 0x51, 0x46, 0x57, 0x01, 0, 0, 0] ++ leBytes 4 len ++ leBytes 4 sec

theorem fitLen_fwHeader (len sec : Nat) : fitLen 16 0 (fwHeader len sec) = fwHeader len sec := fitLen_of_length 0 rfl

/-- Bytes padded with 0 spell "MQFW" only where the bytes themselves do: no 0 stands in it. -/
theorem take_four_of_fitLen {l : List Nat} (h : (fitLen 16 0 l).take 4 = [0x4D, 0x51, 0x46, 0x57]) :
    l.take 4 = [0x4D, 0x51, 0x46, 0x57] := by
  match l with
  | [] => exact absurd h (by decide)
  | [_] | [_, _] | [_, _, _] => simp [fitLen, List.replicate] at h
  | _ :: _ :: _ :: _ :: _ => simpa [fitLen] using h

section
variable {s : State}

theorem fwImageRead_unread {h : List Nat} (hl : s.boot.loading = true) :
    fwImageRead false h s = fwRefuse (if s.boot.fromHost then 5 else 1) s := by
  unfold fwImageRead
  rw [hl]
  rfl

/-- A header without "MQFW" is refused. -/
theorem fwImageRead_noMagic {h : List Nat} (hl : s.boot.loading = true) (hh : h.take 4 ≠ [0x4D, 0x51, 0x46, 0x57]) :
    fwImageRead true h s = fwRefuse 1 s := by
  have hb : (fitLen 16 0 h).take 5 ≠ [0x4D, 0x51, 0x46, 0x57, 0x01] := by
    intro hb
    refine hh (take_four_of_fitLen ?_)
    have := congrArg (List.take 4) hb
    rwa [List.take_take] at this
  unfold fwImageRead
  simp [hl, hb]

/-- A good header of an image on BOOT_SPI: its bytes have come at 50 MB/s, and it is to be verified. -/
theorem fwImageRead_good {len sec : Nat} (hl : s.boot.loading = true) (hf : s.boot.fromHost = false) (h4 : len % 4 = 0)
    (hmin : 112 ≤ len) (hmax : len ≤ 4194304) (hsec : sec < 2 ^ 32) : fwImageRead true (fwHeader len sec) s =
      (let t := s.moveTo (s.boot.loadAt + len * 20 * Config.ticksPerNs)
       { t with boot := { t.boot with loading := false, image := true, loadAt := t.now, sec := sec } }) := by
  have hmagic : (fwHeader len sec).take 5 = [0x4D, 0x51, 0x46, 0x57, 0x01] := rfl
  have hlen : ofLe (((fwHeader len sec).drop 8).take 4) = len :=
    (ofLe_leBytes 4 len).trans (Nat.mod_eq_of_lt (lt_of_le_of_lt hmax (by decide)))
  have hver : ofLe ((fwHeader len sec).drop 12) = sec := (ofLe_leBytes 4 sec).trans (Nat.mod_eq_of_lt hsec)
  unfold fwImageRead
  rw [fitLen_fwHeader]
  dsimp only
  rw [hmagic, hlen, hver]
  simp [hl, hf, h4, hmin, hmax]

/-! ### Verification (R394, R400; log 112) -/

/-- The moment verification ends. -/
def verified (s : State) : State := s.moveTo (s.boot.loadAt + 3 * Config.ms)

theorem fwVerifyDone_bad (hi : s.boot.image = true) : fwVerifyDone false s = fwRefuse 2 (verified s) := by
  unfold fwVerifyDone
  rw [hi]
  rfl

theorem fwVerifyDone_older (hi : s.boot.image = true) (hsec : s.boot.sec < s.boot.secMax) :
    fwVerifyDone true s = fwRefuse 3 (verified s) := by
  unfold fwVerifyDone
  rw [hi]
  exact if_pos hsec

/-- The firmware runs: the stage, the error and the source of the image are shown, and its version is the highest accepted. -/
def fwRuns (s : State) : State :=
  let t := { s with
    boot := { s.boot with image := false, secMax := s.boot.sec }
    rps := { s.rps with enabling := s.rps.enabling || (s.flag RPS_CFG_EN && s.get RPS_STAT_STATE = 0) } }
  ((t.put GLB_BOOTSTAT_STAGE 3).put GLB_BOOTSTAT_ERR 0).put GLB_BOOTSTAT_SRC (bit s.boot.fromHost)

theorem fwVerifyDone_good (hi : s.boot.image = true) (hsec : s.boot.secMax ≤ s.boot.sec) :
    fwVerifyDone true s = fwRuns (verified s) := by
  unfold fwVerifyDone
  rw [hi]
  exact if_neg (not_lt.2 hsec)
end

theorem fwRuns_shows (s : State) : (fwRuns s).running = true ∧ (fwRuns s).get GLB_BOOTSTAT_ERR = 0 ∧
    (fwRuns s).get GLB_BOOTSTAT_SRC = bit s.boot.fromHost := by
  unfold fwRuns State.running
  dsimp only
  refine ⟨?_, ?_, ?_⟩
  · rw [get_put_apart _ GLB_BOOTSTAT_SRC GLB_BOOTSTAT_STAGE _ _ _ rfl (by decide) (by decide),
      get_put_apart _ GLB_BOOTSTAT_ERR GLB_BOOTSTAT_STAGE _ _ _ rfl (by decide) (by decide), get_put_same _ _ _ _ _ (by decide)]
    rfl
  · rw [get_put_apart _ GLB_BOOTSTAT_SRC GLB_BOOTSTAT_ERR _ _ _ rfl (by decide) (by decide), get_put_same _ _ _ _ _ (by decide)]
    rfl
  · rw [get_put_same _ _ _ _ _ (by decide)]
    exact Nat.mod_eq_of_lt (bit_lt_two _)

theorem fwRuns_boot (s : State) : (fwRuns s).boot = { s.boot with image := false, secMax := s.boot.sec } := by
  simp only [fwRuns, put_boot]

theorem fwRuns_now (s : State) : (fwRuns s).now = s.now := by
  simp only [fwRuns, put_now]

/-! ### Refusals and loads (R394, R401) -/

theorem fwRefuse_shows {err : Nat} (s : State) (h : err < 8) : (fwRefuse err s).get GLB_BOOTSTAT_STAGE = 4 ∧
    (fwRefuse err s).get GLB_BOOTSTAT_ERR = err ∧ (fwRefuse err s).boot.loading = false := by
  unfold fwRefuse
  rw [get_put_apart _ GLB_BOOTSTAT_ERR GLB_BOOTSTAT_STAGE _ _ _ rfl (by decide) (by decide), get_put_same _ _ _ _ _ (by decide),
    get_put_same _ _ _ _ _ (by decide), put_boot, put_boot]
  exact ⟨rfl, Nat.mod_eq_of_lt h, rfl⟩

theorem fwLoad_waiting {s : State} (h : s.get GLB_BOOTSTAT_STAGE = 4) : fwLoad s =
    { s with boot := { s.boot with loading := true, fromHost := true, loadAt := s.now } }.put GLB_BOOTSTAT_STAGE 2 :=
  if_neg (not_not.2 h)

/-! ### Writes of GLB (R397, R401, R424) -/

/-- In GLB a write acts before the firmware runs too. -/
theorem wordWrite_bootctl (v : Word) {s : State} (hm : s.mapLocked 0 = false) :
    wordWrite (regOff GLB_BOOTCTL 0 0) v s = bootctlWrite v s := by
  have hlow : ¬0x10000 ≤ regOff GLB_BOOTCTL 0 0 := by decide
  have hblk : blkOf (regOff GLB_BOOTCTL 0 0) = some .glb := by decide +kernel
  have hfind : findFam (famsOf .glb) (regOff GLB_BOOTCTL 0 0) = some (GLB_BOOTCTL, 0, 0) := by decide +kernel
  have hacc : GLB_BOOTCTL.rws = 0 ∧ GLB_BOOTCTL.rwl = 0 ∧ GLB_BOOTCTL ∉ counterFams := by decide
  have hidx : persistIdx (regOff GLB_BOOTCTL 0 0) = some 0 := by decide +kernel
  simp [wordWrite, famWrite, persistDispatch, hlow, hblk, hfind, hacc, hidx, hm]

theorem wordWrite_reset (v : Word) (s : State) : wordWrite (regOff GLB_RESET 0 0) v s = glbReset v.toNat s := by
  have hlow : ¬0x10000 ≤ regOff GLB_RESET 0 0 := by decide
  have hblk : blkOf (regOff GLB_RESET 0 0) = some .glb := by decide +kernel
  have hfind : findFam (famsOf .glb) (regOff GLB_RESET 0 0) = some (GLB_RESET, 0, 0) := by decide +kernel
  have hacc : GLB_RESET.rws = 0 ∧ GLB_RESET.rwl = 0 ∧ GLB_RESET ∉ counterFams := by decide
  have hidx : persistIdx (regOff GLB_RESET 0 0) = none := by decide +kernel
  have hfam : wordWrite (regOff GLB_RESET 0 0) v s = blockWrite GLB_RESET 0 0 v s := by
    simp [wordWrite, famWrite, hlow, hblk, hfind, hacc, hidx]
  rw [hfam]
  show (if GLB_RESET = GLB_RESET then glbReset v.toNat s else plainWrite GLB_RESET 0 0 v s) = _
  exact if_pos rfl

theorem hostReg_does {i : Instr} {off : Nat} {v : Word} {s u : State} (hi : exec i s = hostReg off v s) (hl : s.linked)
    (hu : wordWrite off v s = u) : DoesP i s u := by
  unfold DoesP
  rw [hi, hostReg_next _ _ hl, hu]

/-- A good STARTCAL is stored, and LOAD acts. -/
theorem bootctlWrite_loads {v : Word} (s : State) (hload : getBits v 0 1 = 1) (hcal : getBits v 1 2 ≠ 3) :
    bootctlWrite v s = fwLoad (persistWrite 0 v.toNat s) := by
  unfold bootctlWrite
  rw [if_neg hcal]
  exact if_pos hload

theorem glbReset_keyed {v k : Nat} (s : State) (hkey : v / 256 % 256 = 0x5A) (hk : v % 4 = k) (hgood : k ≠ 0 ∧ k ≠ 3) :
    glbReset v s = resetTrigger (k + 1) s := by
  unfold glbReset
  simp [hkey, hk, hgood]

theorem glbReset_wrongKey {v : Nat} (s : State) (hkey : v / 256 % 256 ≠ 0x5A) : glbReset v s = discard 0x24 false s :=
  if_pos (by simp [hkey])

/-- What the read of an image on BOOT_SPI sees while bank 0 has a level, and of one the host sends (R405). -/
theorem fwImageRead_does {ok : Bool} {h : List Byte} {s u : State} (hs : s.awake)
    (hu : fwImageRead ok (if s.ioOk 0 || s.boot.fromHost then h.map BitVec.toNat else List.replicate 16 0xFF) s = u) :
    DoesP (.fwImageRead ok h) s u :=
  rowP_does (f := fun t => fwImageRead ok
    (if t.ioOk 0 || t.boot.fromHost then h.map BitVec.toNat else List.replicate 16 0xFF) t) rfl hs hu

/-- Settles O53: each end of a read and of a verification takes the branch its header, signature and version name; a verification
always takes 3 ms (log 112). LOAD acts beside the other field (R424); GLB_RESET without its key is discarded and counted (R397). -/
theorem firmwareLoadsAndRuns : Obligations.FirmwareLoadsAndRuns := by
  refine ⟨fun s hs => ⟨fun h hl => ?_, fun h len sec hio hl hf h4 hmin hmax hsec hh => ?_, fun h hl hh => ?_, fun hi => ?_,
    fun hi hsec => ?_, fun hi hsec => ?_, fun err herr => fwRefuse_shows s herr⟩, fun s v hl => ⟨fun hm hload hcal => ?_,
    fun hst => ⟨_, fwLoad_waiting hst, get_put_same _ _ _ _ _ (by decide), rfl, rfl, rfl⟩, fun hk hkey => ?_, fun hk hkey => ?_,
    fun hkey => ⟨?_, ?_⟩⟩⟩
  · exact fwImageRead_does hs (fwImageRead_unread hl)
  · have hread : (if s.ioOk 0 || s.boot.fromHost then h.map BitVec.toNat else List.replicate 16 0xFF) = fwHeader len sec := by
      rw [hio, Bool.true_or, if_pos rfl, hh]
      rfl
    exact ⟨_, fwImageRead_does hs (hread ▸ fwImageRead_good hl hf h4 hmin hmax hsec), rfl, rfl, rfl, rfl⟩
  · refine fwImageRead_does hs (fwImageRead_noMagic hl ?_)
    split
    · exact hh
    · decide
  · exact rowP_does rfl hs (fwVerifyDone_bad hi)
  · exact rowP_does rfl hs (fwVerifyDone_older hi hsec)
  · obtain ⟨hrun, herr, hsrc⟩ := fwRuns_shows (verified s)
    exact ⟨_, rowP_does rfl hs (fwVerifyDone_good hi hsec), hrun, herr, hsrc, congrArg Boot.secMax (fwRuns_boot (verified s)),
      congrArg Boot.image (fwRuns_boot (verified s)), fwRuns_now _⟩
  · exact hostReg_does rfl hl ((wordWrite_bootctl v hm).trans (bootctlWrite_loads s hload hcal))
  · exact hostReg_does rfl hl ((wordWrite_reset v s).trans (glbReset_keyed s hkey hk (by decide)))
  · exact hostReg_does rfl hl ((wordWrite_reset v s).trans (glbReset_keyed s hkey hk (by decide)))
  · exact hostReg_does rfl hl ((wordWrite_reset v s).trans (glbReset_wrongKey s hkey))
  · exact hostReg_does rfl hl ((wordWrite_reset v s).trans (glbReset_wrongKey s hkey))

end Sys2Proof.Machine
end

section
/-!
PROOFS. Messages to the fault collector in sequence, and the end of the shadow that ends first (R367-R379, R427).
-/
namespace Sys2Proof.Machine
open Sys2Proof

/-! ### Messages (R369, R376, R379) -/

/-- The next SEQ of a block is kept. -/
def seqKept (block seq : Nat) (s : State) : State :=
  { s with flt := { s.flt with seqs := tabSet s.flt.seqs block (some seq) } }

/-- A message that is the block's first, or that follows the one before it, leaves no gap. -/
theorem faultMessage_inSequence {block seq : Nat} {s : State} (r : Report)
    (h : tabGet s.flt.seqs block = none ∨ ∃ q, tabGet s.flt.seqs block = some q ∧ seq = (q + 1) % 1024) :
    faultMessage block seq r s =
      if r.cls = 3 && !s.covered r.src then
        enterDugout r.src r.code (accept (areaOf r.src r.p0) r (seqKept block seq s))
      else accept (areaOf r.src r.p0) r (seqKept block seq s) := by
  unfold faultMessage
  rcases h with h | ⟨q, h, hq⟩
  · rw [h]
    dsimp only
    rw [if_pos rfl]
    rfl
  · rw [h]
    dsimp only
    rw [hq, Nat.add_sub_cancel_left, Nat.mod_self, if_pos rfl]
    rfl

theorem faultMessage_kept {block seq : Nat} {s : State} {r : Report}
    (h : tabGet s.flt.seqs block = none ∨ ∃ q, tabGet s.flt.seqs block = some q ∧ seq = (q + 1) % 1024)
    (hr : r.cls ≠ 3 ∨ s.covered r.src = true) :
    faultMessage block seq r s = accept (areaOf r.src r.p0) r (seqKept block seq s) := by
  rw [faultMessage_inSequence r h]
  refine if_neg ?_
  rcases hr with hr | hr <;> simp [hr]

theorem faultMessage_fatal {block seq : Nat} {s : State} {r : Report}
    (h : tabGet s.flt.seqs block = none ∨ ∃ q, tabGet s.flt.seqs block = some q ∧ seq = (q + 1) % 1024)
    (hcls : r.cls = 3) (hcov : s.covered r.src = false) : faultMessage block seq r s =
      enterDugout r.src r.code (accept (areaOf r.src r.p0) r (seqKept block seq s)) := by
  rw [faultMessage_inSequence r h]
  exact if_pos (by simp [hcls, hcov])

/-! ### The end of a shadow (R375, R377) -/

/-- The earliest end is the end of one of the shadows. -/
theorem foldl_min_till (l : List Shadow) (b : Nat) : l.foldl (fun a x => min a x.till) b = b ∨
    ∃ x ∈ l, l.foldl (fun a x => min a x.till) b = x.till := by
  induction l generalizing b with
  | nil => exact .inl rfl
  | cons w l ih =>
    rw [List.foldl_cons]
    rcases ih (min b w.till) with h | ⟨x, hx, h⟩
    · rw [h]
      rcases min_choice b w.till with hb | hw
      · exact .inl hb
      · exact .inr ⟨w, List.mem_cons_self, hw⟩
    · exact .inr ⟨x, List.mem_cons_of_mem _ hx, h⟩

/-- The shadows that have ended are removed. -/
def endedRemoved (s : State) : State :=
  { s with flt := { s.flt with shadows := s.flt.shadows.filter (fun x => s.now < x.till) } }

theorem shadowClose_first {s : State} {w : Shadow} {l : List Shadow} (h : s.flt.shadows = w :: l) :
    ∃ x ∈ s.flt.shadows, shadowClose s = endedRemoved (s.moveTo x.till) := by
  have hclose : shadowClose s = endedRemoved (s.moveTo (s.flt.shadows.foldl (fun a x => min a x.till) w.till)) := by
    unfold shadowClose
    rw [h]
    simp only [endedRemoved, moveTo_flt, h]
  rcases foldl_min_till s.flt.shadows w.till with hmin | ⟨x, hx, hmin⟩
  · exact ⟨w, h ▸ List.mem_cons_self, by rw [hclose, hmin]⟩
  · exact ⟨x, hx, by rw [hclose, hmin]⟩

/-- Settles O49: a message in sequence (R369) takes the branch of its class; the shadow that ends first names the moment, and what the
closed shadows covered is looked at again by the conditions that stand (R377, log 70). -/
theorem messagesAndShadows : Obligations.MessagesAndShadows := by
  refine ⟨fun s m hs hseq => ⟨fun hcls => ?_, fun hcls hcov => ?_, fun hcls hcov => ?_⟩, fun s w l hs hw => ?_⟩
  · exact row_does rfl hs (faultMessage_kept hseq (.inl fun h => hcls (Fin.ext h)))
  · exact row_does rfl hs (faultMessage_kept hseq (.inr hcov))
  · exact row_does rfl hs (faultMessage_fatal hseq (congrArg Fin.val hcls) hcov)
  · obtain ⟨x, hx, hclose⟩ := shadowClose_first hw
    refine ⟨shadowClose s, fun y hy => ?_, ?_, ⟨x, hx, ?_⟩, shadowClose_does hs⟩
    · rw [hclose]
      simp [endedRemoved, hy]
    · rw [hclose]
      exact le_max_left _ _
    · rw [hclose]
      rfl

end Sys2Proof.Machine
end

section
/-!
PROOFS. The PWM channels: the start of a period, the end of a blanking window, the pulse and the clock of PSYNC_IN, and the slew of
the rail frequency (R323-R330, R333).
-/
namespace Sys2Proof.Machine
open Sys2Proof

/-! ### Periods (R323) -/

/-- The moment, with the start, the length and the end of the running period of channel ch. -/
def periodOf (ch : Nat) (s : State) : Nat × Nat × Nat × Nat := (s.now, (s.pwmCh ch).start, (s.pwmCh ch).per, (s.pwmCh ch).due)

theorem periodOf_put (ch : Nat) (s : State) (f : Fld) (v i j : Nat) : periodOf ch (s.put f v i j) = periodOf ch s := (rfl)

/-- The form of a pulse says nothing of the period. -/
theorem periodOf_form (ch : Nat) (s : State) (k : Nat) :
    periodOf ch (s.modPwm ch (fun x => { x with form := k })) = periodOf ch s := by
  simp only [periodOf, State.pwmCh, State.modPwm, tabGet_tabMod_same]

/-- The period that starts, before the form of its pulse is chosen. -/
theorem periodOf_begun (ch per : Nat) (again : Bool) (s : State) :
    periodOf ch (s.modPwm ch (fun x =>
      { x with start := s.now, due := s.now + per * Config.pwmStep, per := per, trip := x.trip && again, held := false })) =
      (s.now, s.now, per, s.now + per * Config.pwmStep) := by
  simp only [periodOf, State.pwmCh, State.modPwm, tabGet_tabMod_same]

section
variable {ch : Nat} {s : State} (hb : 40 ≤ ch)
include hb

/-- The odd channel of a battery pair is its low side, and starts no period of its own. -/
theorem periodStart_odd (ho : ch % 2 = 1) : periodStart ch s = s := if_pos (by simp [hb, ho])

theorem periodStart_battery (he : ch % 2 = 0) : periodOf ch (periodStart ch s) =
    (max s.now (s.pwmCh ch).due, max s.now (s.pwmCh ch).due, s.chPeriod ch,
      max s.now (s.pwmCh ch).due + s.chPeriod ch * Config.pwmStep) := by
  have hrail : ¬ch < 40 := not_lt.2 hb
  unfold periodStart
  rw [if_neg (by simp [he])]
  simp only [hrail, decide_false, Bool.false_and, Bool.false_eq_true, if_false]
  split
  · rw [periodOf_put, periodOf_form, periodOf_begun, moveTo_now]
  · simp only [apply_ite (periodOf ch), periodOf_put, periodOf_form, ite_self]
    rw [periodOf_begun, moveTo_now]
end

/-! ### Blanking (R326) -/

theorem blankClose_due {k e : Nat} {s : State} (h : s.blankEnd k = some e) : blankClose k s =
    forAll (List.range 48) (fun ch t => if t.flag PWM_CHCFG_BLK_EN ch && t.get PWM_CHCFG_BLK ch = k then tripNow ch t else t)
      (s.moveTo e) := by
  unfold blankClose
  rw [h]

/-! ### PSYNC_IN (R330) -/

section
variable {s : State} {e : Nat}

theorem psyncEdge_first (gap duty : Nat) (h : s.pwm.edge = none) :
    psyncEdge gap duty s = { s with pwm := { s.pwm with edge := some s.now } } := by
  unfold psyncEdge
  rw [h]

/-- The period and the duty between two edges are measured. -/
def psyncMeasured (gap duty e : Nat) (s : State) : State :=
  let t := s.moveTo (e + gap)
  let per := min (2 ^ 20 - 1) ((t.now - e) / Config.pwmStep)
  ({ t with pwm := { t.pwm with edge := some t.now, pers := (per :: t.pwm.pers).take 16 } }.put PWM_PSYNC_PER per).put
    PWM_PSYNC_DUTY (min 4095 duty)

theorem psyncMeasured_shows (gap duty e : Nat) (s : State) : (psyncMeasured gap duty e s).now = max s.now (e + gap) ∧
    (psyncMeasured gap duty e s).pwm.edge = some (psyncMeasured gap duty e s).now ∧
    (psyncMeasured gap duty e s).get PWM_PSYNC_PER =
      min (2 ^ 20 - 1) (((psyncMeasured gap duty e s).now - e) / Config.pwmStep) ∧
    (psyncMeasured gap duty e s).get PWM_PSYNC_DUTY = min 4095 duty := by
  have hduty : min 4095 duty < 2 ^ 12 := lt_of_le_of_lt (min_le_left _ _) (by decide)
  have hnow : (psyncMeasured gap duty e s).now = max s.now (e + gap) := by simp only [psyncMeasured, put_now]; rfl
  refine ⟨hnow, ?_, ?_, ?_⟩
  · simp only [psyncMeasured, put_pwm, put_now]
  · rw [hnow]
    unfold psyncMeasured
    dsimp only
    rw [get_put_apart _ PWM_PSYNC_DUTY PWM_PSYNC_PER _ _ _ rfl (by decide) (by decide), get_put_same _ _ _ _ _ (by decide)]
    exact Nat.mod_eq_of_lt (lt_of_le_of_lt (min_le_left _ _) (by decide))
  · unfold psyncMeasured
    dsimp only
    rw [get_put_same _ _ _ _ _ (by decide)]
    exact Nat.mod_eq_of_lt hduty

theorem psyncMeasured_sel (gap duty e : Nat) (s : State) :
    (psyncMeasured gap duty e s).get PWM_GCFG_SYNC_SEL = s.get PWM_GCFG_SYNC_SEL := by
  unfold psyncMeasured
  dsimp only
  rw [get_put_base _ PWM_PSYNC_DUTY PWM_GCFG_SYNC_SEL _ _ _ rfl rfl (by decide),
    get_put_base _ PWM_PSYNC_PER PWM_GCFG_SYNC_SEL _ _ _ rfl rfl (by decide)]
  rfl

/-- With PSYNC_IN in no use, an edge is measured and nothing follows it. -/
theorem psyncEdge_unused (gap duty : Nat) (h : s.pwm.edge = some e) (hsel : s.get PWM_GCFG_SYNC_SEL = 0) :
    psyncEdge gap duty s = psyncMeasured gap duty e s := by
  have hsel' := (psyncMeasured_sel gap duty e s).trans hsel
  unfold psyncEdge
  split
  · next hnone => exact absurd (hnone.symm.trans h) nofun
  · next e' he =>
    obtain rfl : e' = e := Option.some.inj (he.symm.trans h)
    extract_lets +onlyGivenNames t per p u
    have hu : u = psyncMeasured gap duty e' s := rfl
    rw [← hu] at hsel' ⊢
    clear_value u
    rw [hsel']
    rfl

theorem syncTimeout_due (h : s.pwm.edge = some e) (hsel : s.get PWM_GCFG_SYNC_SEL = 1) (hp : s.pwm.pers ≠ []) :
    syncTimeout s = syncLost (s.moveTo (e + 2 * s.get PWM_PSYNC_PER * Config.pwmStep)) := by
  unfold syncTimeout
  rw [h]
  exact if_pos (by simp [hsel, hp])

theorem pulseLost_due (h : s.pwm.edge = some e) (hsel : s.get PWM_GCFG_SYNC_SEL = 2) (hok : s.flag PWM_GSTAT_PULSE_OK = true) :
    pulseLost s = forAll (List.range 512) (fun n t =>
        if t.get CTE_SLOTCFG_SP_SRC n = 2 && t.runOf n ≠ 0 then
          emit ev_SLOT_SP_LOST (341 + n / 128) (t.put CTE_SLOTSTAT_SP_LOST 1 n)
        else t) ((s.moveTo (e + 2 * Config.ms)).put PWM_GSTAT_PULSE_OK 0) := by
  unfold pulseLost
  rw [h]
  exact if_pos (by simp [hsel, hok])
end

/-! ### The rail frequency (R330) -/

/-- The frequency one step nearer to its goal. -/
def nextFreq (s : State) : Nat :=
  if s.pwm.freq < s.pwm.goal then min s.pwm.goal (s.pwm.freq + 800 * 2 ^ 20) else max s.pwm.goal (s.pwm.freq - 800 * 2 ^ 20)

theorem freqStep_slews {s : State} (h : s.pwm.freq ≠ s.pwm.goal) :
    (freqStep s).now = max s.now (s.pwm.stepAt + 50 * Config.us) ∧ (freqStep s).pwm.stepAt = (freqStep s).now ∧
    (freqStep s).pwm.freq = nextFreq s ∧ (freqStep s).get PWM_GSTAT_SLEWING = bit ((freqStep s).pwm.freq ≠ s.pwm.goal) := by
  unfold freqStep
  rw [if_neg h]
  dsimp only
  refine ⟨?_, ?_, ?_, ?_⟩
  · rw [put_now, put_now]; rfl
  · rw [put_pwm, put_pwm, put_now, put_now]
  · rw [put_pwm, put_pwm]; rfl
  · rw [get_put_same _ _ _ _ _ (by decide), put_pwm, put_pwm]
    exact Nat.mod_eq_of_lt (bit_lt_two _)

/-- Settles O46: each event takes the branch its conditions name, and nothing after it touches the fields the statement reads. -/
theorem pwmEvents : Obligations.PwmEvents := by
  refine fun s hs => ⟨fun ch hb ho => ?_, fun ch hb he => ?_, fun ch _ => ?_, fun k e h => ?_, fun gap duty hio h => ?_,
    fun gap duty e hio h hsel => ?_, fun e h hsel hp => ?_, fun h => ?_, fun e h hsel hok => ?_⟩
  · exact rowP_does rfl hs (periodStart_odd hb ho)
  · have hper := periodStart_battery (s := s) hb he
    simp only [periodOf, Prod.mk.injEq] at hper
    obtain ⟨hnow, hstart, hlen, hdue⟩ := hper
    exact ⟨_, rowP_does rfl hs rfl, hnow, hstart.trans hnow.symm, hlen, by rw [hdue, hnow]⟩
  · exact rowP_does rfl hs rfl
  · exact rowP_does rfl hs (blankClose_due h)
  · exact ⟨_, rowP_does rfl hs ((pinIn_ok _ hio).trans (psyncEdge_first gap duty h)), rfl⟩
  · exact ⟨_, rowP_does rfl hs ((pinIn_ok _ hio).trans (psyncEdge_unused gap duty h hsel)), psyncMeasured_shows gap duty e s⟩
  · exact rowP_does rfl hs (syncTimeout_due h hsel hp)
  · exact ⟨_, rowP_does rfl hs rfl, freqStep_slews h⟩
  · exact rowP_does rfl hs (pulseLost_due h hsel hok)

end Sys2Proof.Machine
end

section
/-!
PROOFS. The loop slots of the control engine: executions, the loss of feedback, coefficient-memory errors, the end of a test, the
sampler of ISHARE_IN, and what a write of CTE_SLOTCFG does to ENABLE (R306-R322).
-/
namespace Sys2Proof.Machine
open Sys2Proof

/-! ### Slots and their registers (R313) -/

theorem cslot_modCslot_same (s : State) (n : Nat) (f : CSlot → CSlot) : (s.modCslot n f).cslot n = f (s.cslot n) :=
  tabGet_tabMod_same _ _ _

theorem modCslot_get (s : State) (n : Nat) (g : CSlot → CSlot) (f : Fld) (i j : Nat) :
    (s.modCslot n g).get f i j = s.get f i j := get_congr f i j (rfl) (rfl)

theorem cslot_congr {s t : State} (n : Nat) (h : t.cte = s.cte) : t.cslot n = s.cslot n := by
  unfold State.cslot
  rw [h]

/-- The end of a test writes only registers below those of the slots (R320). -/
theorem testAbort_get (n : Nat) (s : State) {f : Fld} (i j : Nat) (hf : 0x221000 ≤ f.fam.base) :
    (testAbort n s).get f i j = s.get f i j := by
  have hput (t : State) (g : Fld) (v : Nat) (hg : regOff g.fam 0 0 < 0x221000) : (t.put g v).get f i j = t.get f i j :=
    get_put_ne _ _ _ _ _ _ _ _ (.inr (hg.trans_le (hf.trans (base_le_regOff _ _ _))).ne')
  unfold testAbort
  split
  · rw [hput _ _ _ (by decide), hput _ _ _ (by decide)]
  · rfl

theorem testAbort_cte (n : Nat) (s : State) : (testAbort n s).cte = s.cte := by
  unfold testAbort
  rw [apply_ite State.cte, put_cte, put_cte, ite_self]

theorem setRun_runOf {r : Nat} (n : Nat) (s : State) (hr : r < 4) : (setRun n r s).runOf n = r := by
  have hput : (s.put CTE_SLOTSTAT_RUN r n).runOf n = r :=
    (get_put_same _ _ _ _ _ (by decide)).trans (Nat.mod_eq_of_lt hr)
  unfold setRun
  dsimp only
  split
  · exact hput
  · exact (testAbort_get n _ n 0 (by decide)).trans hput

/-- RUN is a field of its own in CTE_SLOTSTAT. -/
theorem setRun_statFlag (n r : Nat) (s : State) {f : Fld} (hf : f.fam = CTE_SLOTSTAT) (hlo : 2 ≤ f.lo) :
    (setRun n r s).get f n = s.get f n := by
  have hput : (s.put CTE_SLOTSTAT_RUN r n).get f n = s.get f n :=
    get_put_apart _ CTE_SLOTSTAT_RUN f _ _ _ hf (by decide) (.inr hlo)
  unfold setRun
  dsimp only
  split
  · exact hput
  · exact (testAbort_get n _ n 0 (by rw [hf]; decide)).trans hput

theorem setRun_cte (n r : Nat) (s : State) : (setRun n r s).cte = s.cte := by
  unfold setRun
  dsimp only
  rw [apply_ite State.cte, testAbort_cte, put_cte, ite_self]

/-! ### Executions (R313) -/

theorem slotExecute_does {n : Fin 512} {s u : State} (hs : s.awake) (hu : rackAfterSlot n (slotExecute n s) = u) :
    DoesP (.slotExecute n) s u :=
  rowP_does (f := fun t => rackAfterSlot n (slotExecute n t)) rfl hs hu

theorem slotExecute_stops {n : Nat} {s : State} (h : s.slotMayRun n = false) : slotExecute n s = slotStop n s :=
  if_pos (by rw [h]; rfl)

/-! ### The loss of feedback (R318, R319) -/

/-- A slot that is no RAIL slot is held by the loss of its feedback. -/
def lossHeld (n : Nat) (s : State) : State :=
  (setRun n 3 (s.put CTE_SLOTSTAT_FB_LOST 1 n)).modCslot n (fun x => { x with lost := true, before := s.runOf n })

theorem lossHeld_shows (n : Nat) (s : State) : (lossHeld n s).runOf n = 3 ∧ ((lossHeld n s).cslot n).lost = true ∧
    ((lossHeld n s).cslot n).before = s.runOf n ∧ (lossHeld n s).get CTE_SLOTSTAT_FB_LOST n = 1 := by
  unfold lossHeld
  rw [cslot_modCslot_same, modCslot_get, setRun_statFlag _ _ _ rfl (by decide), get_put_same _ _ _ _ _ (by decide)]
  exact ⟨(modCslot_get _ _ _ _ _ _).trans (setRun_runOf n _ (by decide)), rfl, rfl, rfl⟩

section
variable {n : Nat} {s : State} (hrun : s.runOf n ≠ 0) (hlost : (s.cslot n).lost = false) (hsafe : (s.cslot n).safe = false)
include hrun hlost hsafe

theorem feedbackLost_holds (hrun3 : s.runOf n ≠ 3) (hkind : s.kindOf n ≠ 1) (hsame : s.fbSame n < 64) :
    ∃ t, feedbackLost n s = emit ev_SLOT_FB_LOST (341 + n / 128) (lossHeld n (s.moveTo t)) := by
  have hkind2 (t : Nat) : ((s.moveTo t).put CTE_SLOTSTAT_FB_LOST 1 n).kindOf n = s.kindOf n :=
    get_put_base _ CTE_SLOTSTAT_FB_LOST CTE_SLOTCFG_KIND _ _ _ rfl rfl (by decide)
  have hrun2 (t : Nat) : ((s.moveTo t).put CTE_SLOTSTAT_FB_LOST 1 n).runOf n = s.runOf n :=
    get_put_apart _ CTE_SLOTSTAT_FB_LOST CTE_SLOTSTAT_RUN _ _ _ rfl (by decide) (by decide)
  unfold feedbackLost
  simp only [hrun, hlost, hsafe, not_le.2 hsame, hkind2, hkind, hrun2, hrun3, decide_false, Bool.or_self, Bool.false_eq_true,
    if_false]
  exact ⟨_, rfl⟩

theorem feedbackLost_railFrozen (hkind : s.kindOf n = 1) (hsame : 64 ≤ s.fbSame n) :
    feedbackLost n s = railSafe n ((s.put CTE_SLOTSTAT_FROZEN 1 n).put CTE_SLOTSTAT_FB_LOST 1 n) := by
  have hkind2 : ((s.put CTE_SLOTSTAT_FROZEN 1 n).put CTE_SLOTSTAT_FB_LOST 1 n).kindOf n = 1 :=
    ((get_put_base _ CTE_SLOTSTAT_FB_LOST CTE_SLOTCFG_KIND _ _ _ rfl rfl (by decide)).trans
      (get_put_base _ CTE_SLOTSTAT_FROZEN CTE_SLOTCFG_KIND _ _ _ rfl rfl (by decide))).trans hkind
  unfold feedbackLost
  simp only [hrun, hlost, hsafe, hsame, hkind2, decide_false, decide_true, Bool.or_self, Bool.false_eq_true, if_false, if_true]
end

/-! ### A rail sheds (R319) -/

/-- The slot of rail r that waits to shed. -/
def State.shedSlot (s : State) (r : Nat) : Option Nat :=
  (List.range 64).find? (fun n => s.kindOf n = 1 && s.destOf n = r && (s.cslot n).shedAt.isSome)

/-- Slot n no longer waits to shed. -/
def shedDue (n e : Nat) (s : State) : State := (s.moveTo e).modCslot n (fun c => { c with shedAt := none })

theorem railFbLost_sheds {r n e : Nat} {s : State} (h : s.shedSlot r = some n) (he : (s.cslot n).shedAt = some e)
    (hcov : s.covered (336 + r) = false) :
    railFbLost r s = railShed r (emit ev_RAIL_FB_LOST (336 + r) (shedDue n e s) (.rail r)) := by
  unfold State.shedSlot at h
  unfold railFbLost
  rw [h]
  dsimp only
  rw [he]
  exact react_uncovered (s := shedDue n e s) _ _ _ _ _ _ _ (covered_later (s := s) rfl (le_max_left _ _) hcov)

theorem railShed_shows (r : Nat) (s : State) : (railShed r s).now = s.now ∧
    (railShed r s).get CTE_RAILCFG_PH_ON r = s.get CTE_RAILCFG_PH_MIN r ∧ (railShed r s).get CTE_RAILSTAT_FB_LOST r = 1 := by
  unfold railShed
  rw [get_put_base _ CTE_RAILSTAT_FB_LOST CTE_RAILCFG_PH_ON _ _ _ rfl rfl (by decide), get_put_same _ _ _ _ _ (by decide),
    get_put_same _ _ _ _ _ (by decide), put_now, put_now]
  exact ⟨rfl, Nat.mod_eq_of_lt (get_lt s CTE_RAILCFG_PH_MIN r 0), rfl⟩

/-! ### Coefficient-memory errors (R316, R319) -/

theorem emit_runOf (k : EvKind) (src : Nat) (s : State) (n : Nat) : (emit k src s).runOf n = s.runOf n := emit_get (by decide)

theorem cteEcc_stopped {n : Nat} {s : State} (h : s.runOf n = 0) : cteEcc n s = emit ev_CTE_ECC 346 s :=
  if_pos ((emit_runOf _ _ _ _).trans h)

theorem cteEcc_running {n : Nat} {s : State} (h : s.runOf n ≠ 0) : cteEcc n s = (let t := emit ev_CTE_ECC 346 s
    slotMissed n (t.modCslot n (fun c => { c with due := c.due + t.slotPeriod n }))) :=
  if_neg (by rwa [emit_runOf])

/-- A slot goes to manual at output `m`. -/
def toManual (n : Nat) (m : Int) (s : State) : State := (s.setMan n m).put CTE_SLOTCFG_MODE 0 n

theorem toManual_runOf (n : Nat) (m : Int) (s : State) : (toManual n m s).runOf n = s.runOf n :=
  (get_put_base _ CTE_SLOTCFG_MODE CTE_SLOTSTAT_RUN _ _ _ rfl rfl (by decide)).trans
    (get_put_base _ CTE_SLOTMAN_MANUAL CTE_SLOTSTAT_RUN _ _ _ rfl rfl (by decide))

theorem cteEccFatal_stopped {n : Nat} {s : State} (h : s.runOf n = 0) (hkind : s.kindOf n ≠ 1) (hcov : s.covered 346 = false) :
    cteEccFatal n s = toManual n (s.slotOut n) (emit ev_CTE_ECC_FATAL 346 s) := by
  have hkind2 : (emit ev_CTE_ECC_FATAL 346 s).kindOf n ≠ 1 := by
    rwa [State.kindOf, emit_get (by decide)]
  have hout : (emit ev_CTE_ECC_FATAL 346 s).slotOut n = s.slotOut n := congrArg (signedOf 32) (emit_get (by decide))
  have hrun : (toManual n (s.slotOut n) (emit ev_CTE_ECC_FATAL 346 s)).runOf n = 0 :=
    (toManual_runOf _ _ _).trans ((emit_runOf _ _ _ _).trans h)
  unfold toManual at hrun ⊢
  unfold cteEccFatal
  rw [react_uncovered _ _ _ _ _ _ _ hcov]
  simp only [hkind2, hout, hrun, if_false, if_true]

/-! ### Tests and the sampler (R308, R320) -/

theorem testDone_due {s : State} (hst : s.get CTE_TESTSTAT_STATE = 1) (hp : s.get CTE_TESTSTAT_POINTS = 4096) :
    testDone s = emit ev_TEST_DONE (341 + s.get CTE_TESTCFG_SLOT / 128) ((s.put CTE_TESTSTAT_STATE 2).put CTE_TESTCFG_GO 0) :=
  if_pos (by simp [hst, hp])

theorem testEnded_shows (k : EvKind) (src : Nat) (s : State) :
    (emit k src ((s.put CTE_TESTSTAT_STATE 2).put CTE_TESTCFG_GO 0)).get CTE_TESTSTAT_STATE = 2 ∧
    (emit k src ((s.put CTE_TESTSTAT_STATE 2).put CTE_TESTCFG_GO 0)).get CTE_TESTCFG_GO = 0 := by
  rw [emit_get (by decide), emit_get (by decide), get_put_base _ CTE_TESTCFG_GO CTE_TESTSTAT_STATE _ _ _ rfl rfl (by decide),
    get_put_same _ _ _ _ _ (by decide), get_put_same _ _ _ _ _ (by decide)]
  exact ⟨rfl, rfl⟩

theorem ishareSample_shows {raw : Nat} (d : Nat) (s : State) (hraw : raw < 2 ^ 16) :
    (ishareSample raw d s).get CTE_ISHARE_CODE = raw - d ∧
    (ishareSample raw d s).get CTE_ISHARE_TAG = (s.get CTE_ISHARE_TAG + 1) % 256 ∧
    (ishareSample raw d s).cte.ishAt = (ishareSample raw d s).now ∧
    (ishareSample raw d s).now = max s.now (s.cte.ishAt + 2 * Config.us) := by
  unfold ishareSample
  dsimp only
  refine ⟨?_, ?_, ?_, ?_⟩
  · rw [get_put_apart _ CTE_ISHARE_TAG CTE_ISHARE_CODE _ _ _ rfl (by decide) (by decide), get_put_same _ _ _ _ _ (by decide)]
    exact Nat.mod_eq_of_lt (lt_of_le_of_lt (Nat.sub_le _ _) hraw)
  · rw [get_put_same _ _ _ _ _ (by decide)]
    exact Nat.mod_mod _ _
  · rw [put_cte, put_cte, put_now, put_now]
  · rw [put_now, put_now]
    exact moveTo_now _ _

/-! ### Writes of CTE_SLOTCFG (R313, R321) -/

section
variable {n v : Nat} {s : State}

theorem slotCfgWrite_bad (h : s.slotCfgBad n v = true) : slotCfgWrite n v s = discard (regOff CTE_SLOTCFG n 0) false s :=
  if_pos h

variable (hgood : s.slotCfgBad n v = false) (hsafe : (s.cslot n).safe = false) (hon : v % 2 = 1)
include hgood hsafe hon

theorem slotCfgWrite_enabled (hwas : s.flag CTE_SLOTCFG_ENABLE n = true) :
    slotCfgWrite n v s = s.putWord CTE_SLOTCFG (BitVec.ofNat 32 (v % 2 ^ 26)) n := by
  have hsafe2 (w : Word) : ((s.putWord CTE_SLOTCFG w n).cslot n).safe = false := hsafe
  unfold slotCfgWrite
  rw [if_neg (ne_true_of_eq_false hgood)]
  simp only [hon, hwas, hsafe2, decide_true, Bool.not_true, Bool.and_false, Bool.not_false, Bool.false_eq_true, if_false, if_true]

/-- Slot n is enabled: its first execution is at the next frame, and the age of its tag counts from now. -/
def slotEnabled (n : Nat) (w : Word) (s : State) : State :=
  let t := s.putWord CTE_SLOTCFG w n
  t.modCslot n (fun c => { c with due := t.frameCeil n (t.now + 1), tagAt := t.now })

theorem slotCfgWrite_enables (hwas : s.flag CTE_SLOTCFG_ENABLE n = false) :
    slotCfgWrite n v s = slotEnabled n (BitVec.ofNat 32 (v % 2 ^ 26)) s := by
  unfold slotCfgWrite
  rw [if_neg (ne_true_of_eq_false hgood)]
  simp only [hon, hwas, decide_true, Bool.not_true, Bool.and_true, Bool.not_false, if_true]
  refine if_pos ?_
  rw [cslot_modCslot_same]
  exact congrArg not hsafe
end

theorem slotEnabled_shows {v : Nat} (n : Nat) (s : State) (hon : v % 2 = 1) :
    (slotEnabled n (BitVec.ofNat 32 (v % 2 ^ 26)) s).flag CTE_SLOTCFG_ENABLE n = true ∧
    ((slotEnabled n (BitVec.ofNat 32 (v % 2 ^ 26)) s).cslot n).tagAt = s.now := by
  unfold slotEnabled
  dsimp only
  rw [cslot_modCslot_same, State.flag, modCslot_get, State.get]
  refine ⟨?_, rfl⟩
  have hword : (s.putWord CTE_SLOTCFG (BitVec.ofNat 32 (v % 2 ^ 26)) n).word CTE_SLOTCFG n 0 = BitVec.ofNat 32 (v % 2 ^ 26) :=
    word_putWord_same _ _ _ _ _
  rw [show CTE_SLOTCFG_ENABLE.fam = CTE_SLOTCFG from rfl, hword, decide_eq_true_eq, getBits, BitVec.toNat_ofNat]
  show v % 2 ^ 26 % 2 ^ 32 / 2 ^ 0 % 2 ^ 1 = 1
  omega

/-- Settles O45: each event takes the branch its conditions name. A lost feedback of a slot that runs, at SAFE_DUTY or held, is told by
its first report (R319). -/
theorem controlEngineEvents : Obligations.ControlEngineEvents := by
  refine ⟨fun s hs => ⟨fun n _ => ?_, fun n h => ?_, fun n hrun hrun3 hkind hlost hsafe hsame => ?_,
    fun n hkind hrun hlost hsafe hsame => ?_, fun r n e hn he hcov => ?_, fun n h => ?_, fun n h => ?_, fun n h hkind hcov => ?_,
    fun hst hp => ?_, fun raw d => ?_⟩, fun s n v _ => ⟨slotCfgWrite_bad, fun hgood hsafe => ⟨fun hon hwas => ?_, fun hon hwas => ?_⟩⟩⟩
  · exact slotExecute_does hs rfl
  · exact slotExecute_does hs (congrArg (rackAfterSlot n.val) (slotExecute_stops h))
  · obtain ⟨t, ht⟩ := feedbackLost_holds hrun hlost hsafe hrun3 hkind hsame
    obtain ⟨hr, hl, hb, hf⟩ := lossHeld_shows n (s.moveTo t)
    refine ⟨_, rowP_does rfl hs ht, ?_, ?_, ?_, ?_⟩
    · rw [emit_runOf, hr]
    · rw [cslot_congr _ (emit_cte ..), hl]
    · rw [cslot_congr _ (emit_cte ..), hb]
      rfl
    · rw [State.flag, emit_get (by decide), hf]
      rfl
  · exact rowP_does rfl hs (feedbackLost_railFrozen hrun hlost hsafe hkind hsame)
  · obtain ⟨hnow, hon, hfb⟩ := railShed_shows r (emit ev_RAIL_FB_LOST (336 + r.val) (shedDue n e s) (.rail r.val))
    refine ⟨_, rowP_does rfl hs (railFbLost_sheds hn he hcov), ?_, ?_, hfb⟩
    · rw [hnow, emit_now]
      rfl
    · rw [hon, emit_get (by decide)]
      exact modCslot_get _ _ _ _ _ _
  · exact rowP_does rfl hs (cteEcc_stopped h)
  · exact rowP_does rfl hs (cteEcc_running h)
  · refine ⟨_, rowP_does rfl hs (cteEccFatal_stopped h hkind hcov), get_put_same _ _ _ _ _ (by decide), ?_⟩
    rw [toManual_runOf, emit_runOf, h]
  · exact ⟨_, rowP_does rfl hs (testDone_due hst hp), testEnded_shows _ _ _⟩
  · exact ⟨_, rowP_does rfl hs rfl, ishareSample_shows d.val s raw.isLt⟩
  · exact slotCfgWrite_enabled hgood hsafe hon hwas
  · rw [slotCfgWrite_enables hgood hsafe hon hwas]
    exact slotEnabled_shows n s hon

end Sys2Proof.Machine
end

section
/-!
PROOFS. The scan of the sensors, the throttle count, the ramp down of the rails, and the power domains (R352-R363, R393).
-/
namespace Sys2Proof.Machine
open Sys2Proof

/-! ### Throttling (R352, R357) -/

section
variable {s : State}

theorem thermalScan_uncorrected (codes : List Nat) (h : s.mea.corrected = false) : thermalScan codes s = s :=
  if_pos (by simp [h])

theorem throttle_off (h : s.get PWR_THSTAT_N = 0) : throttle s = s := if_pos h

theorem throttle_up {n : Nat} (hn : s.get PWR_THSTAT_N = n) (h0 : n ≠ 0) (h15 : n ≠ 15) (hhot : s.hotNow = true) :
    throttle s = (let t := s.moveTo (s.therm.stepAt.getD s.now + 10 * Config.ms)
      setThrottle (n + 1) { t with therm := { t.therm with stepAt := some t.now } }) := by
  unfold throttle
  rw [hn]
  exact (if_neg h0).trans ((if_pos hhot).trans (if_neg h15))

theorem throttle_down {n r : Nat} (hn : s.get PWR_THSTAT_N = n) (h0 : n ≠ 0) (hhot : s.hotNow = false)
    (hr : s.therm.relAt = some r) : throttle s = (let t := s.moveTo (r + 100 * Config.ms)
      setThrottle (n - 1) { t with therm := { t.therm with relAt := some t.now } }) := by
  unfold throttle
  rw [hn, hr]
  exact (if_neg h0).trans (if_neg (ne_true_of_eq_false hhot))

/-! ### The ramp down of the rails (R360, R393) -/

/-- In the thermal shutdown the rail at position k has ramped down, and the next one follows. -/
def railDown (k : Nat) (s : State) : State :=
  let t := s.moveTo (s.therm.downAt + Config.ms)
  { t with
    therm := { t.therm with down := some (k + 1), downAt := t.now }
    boot := { t.boot with good := t.boot.good.filter (fun x => x ≠ railOrder.reverse.getD k 0), rail := none } }

theorem railDownDone_shutdown {k : Nat} (hl : s.latch = true) (hk : s.therm.down = some k) (h1 : 1 ≤ k) (h4 : k < 4) :
    railDownDone s = railStop (railOrder.reverse.getD k 0) (railDown k s) := by
  unfold railDownDone
  rw [if_pos hl, hk]
  simp only [not_le.2 (h4.trans (Nat.lt_succ_self 4)), Nat.one_le_iff_ne_zero.1 h1, h4.ne, if_false]
  rfl

/-- After a failed rail-up or a reset the last rail that is good has ramped down. -/
def lastRailDown (e : Nat) (s : State) : State :=
  let t := s.moveTo e
  { t with boot := { t.boot with good := t.boot.good.dropLast, downAt := some (t.now + Config.ms) } }

theorem railDownDone_last {e r r' : Nat} {l : List Nat} (hl : s.latch = false) (he : s.boot.downAt = some e)
    (hg : s.boot.good = l ++ [r', r]) : railDownDone s = railStop r (lastRailDown e s) := by
  have hgood : s.boot.good = (l ++ [r']) ++ [r] := by rw [hg, List.append_assoc]; rfl
  have hlast : (s.moveTo e).boot.good.getLastD 0 = r := by
    rw [moveTo_boot, hgood, List.getLastD_concat]
  have hrest : (s.moveTo e).boot.good.dropLast = l ++ [r'] := by
    rw [moveTo_boot, hgood, List.dropLast_concat]
  unfold railDownDone
  rw [if_neg (ne_true_of_eq_false hl), he]
  simp only [hlast, railStop_boot, hrest, ne_eq, List.append_eq_nil_iff, List.cons_ne_nil, and_false, not_false_eq_true, if_true]
  rw [lastRailDown, ← hrest]
end

/-! ### Power domains (R361-R363) -/

theorem isBitmap_domOn : IsBitmap PWR_DOMSTAT_ON := ⟨rfl, rfl, by decide⟩

theorem isBitmap_domFail : IsBitmap PWR_DOMFAIL_FAIL := ⟨rfl, rfl, by decide⟩

theorem dom_modDom_same (s : State) (d : Nat) (f : Dom → Dom) : (s.modDom d f).dom d = f (s.dom d) := tabGet_tabMod_same _ _ _

theorem modDom_bitAt (s : State) (d : Nat) (g : Dom → Dom) (f : Fld) (x : Nat) : (s.modDom d g).bitAt f x = s.bitAt f x :=
  bitAt_congr (get_congr f _ _ rfl rfl)

theorem bitAt_domOn_putFail (s : State) (x : Nat) (b : Bool) :
    (s.putBit PWR_DOMFAIL_FAIL x b).bitAt PWR_DOMSTAT_ON x = s.bitAt PWR_DOMSTAT_ON x := by
  refine bitAt_congr (get_putWord_ne _ _ _ _ _ _ _ _ (.inr ?_))
  show 0x10410 + 4 * (x / 32) + 4 * 0 ≠ 0x10420 + 4 * (x / 32) + 4 * 0
  omega

/-- The clamps of a domain are released at the end of its ramp. -/
def domUp (d e : Nat) (s : State) : State :=
  ((s.moveTo e).modDom d (fun x => { x with ramp := none })).putBit PWR_DOMSTAT_ON d true

/-- A domain without power good is switched off, with its bit in PWR_DOMFAIL. -/
def domFailed (d : Nat) (s : State) : State :=
  ((s.putBit PWR_DOMSTAT_ON d false).putBit PWR_DOMFAIL_FAIL d true).modDom d (fun x => { x with ramp := none, off := none })

theorem domUp_shows (d e : Nat) (s : State) : (domUp d e s).now = max s.now e ∧ ((domUp d e s).dom d).ramp = none ∧
    (domUp d e s).domainOn d = true := by
  refine ⟨?_, ?_, bitAt_putBit_same isBitmap_domOn _ _ _⟩
  · rw [domUp, putBit_now]
    exact moveTo_now s e
  · unfold domUp State.dom
    rw [putBit_doms]
    exact congrArg Dom.ramp (dom_modDom_same (s.moveTo e) d _)

theorem domFailed_shows (d : Nat) (s : State) : (domFailed d s).domainOn d = false ∧
    (domFailed d s).bitAt PWR_DOMFAIL_FAIL d = true ∧ ((domFailed d s).dom d).off = none ∧ (domFailed d s).now = s.now := by
  have hdom : (domFailed d s).dom d = { s.dom d with ramp := none, off := none } := by
    unfold domFailed
    rw [dom_modDom_same]
    unfold State.dom
    rw [putBit_doms, putBit_doms]
  refine ⟨?_, ?_, by rw [hdom], ?_⟩
  · exact (modDom_bitAt _ _ _ _ _).trans ((bitAt_domOn_putFail _ _ _).trans (bitAt_putBit_same isBitmap_domOn _ _ _))
  · exact (modDom_bitAt _ _ _ _ _).trans (bitAt_putBit_same isBitmap_domFail _ _ _)
  · show ((s.putBit PWR_DOMSTAT_ON d false).putBit PWR_DOMFAIL_FAIL d true).now = s.now
    rw [putBit_now, putBit_now]

section
variable {d e : Nat} {s : State}

theorem domRampDone_due (h : (s.dom d).ramp = some e) : domRampDone d s = domEffectOn d (domUp d e s) := by
  unfold domRampDone
  rw [h]
  rfl

theorem domSwitchOff_due (h : (s.dom d).off = some e) : domSwitchOff d s =
    domEffectOff d ((s.moveTo e).modDom d (fun x => { x with off := none })) := by
  unfold domSwitchOff
  rw [h]

theorem domFail_on (hon : s.domainOn d = true) (hr : (s.dom d).ramp = none) :
    domFail d s = domReport d (domEffectOff d (domFailed d s)) := by
  unfold domFail
  rw [if_neg (by simp [hon]), hr]
  simp only [hon, if_true]
  rfl

theorem domFail_ramping (hoff : s.domainOn d = false) (hr : (s.dom d).ramp = some e) :
    domFail d s = domReport d (domFailed d (s.moveTo (e + 80 * Config.us))) := by
  unfold domFail
  rw [if_neg (by simp [hr]), hr]
  simp only [hoff, Bool.false_eq_true, if_false]
  rfl
end

/-- Settles O48: each event takes the branch its conditions name; a rail or a domain that has gone shows it before its effects follow. -/
theorem thermalAndDomainEvents : Obligations.ThermalAndDomainEvents := by
  refine ⟨fun s hs => ⟨fun codes _ _ => rowP_does rfl hs rfl, fun codes h => ?_, fun h => ?_, fun n hn h0 h15 hhot => ?_,
    fun n r hn h0 hhot hr => ?_, fun k hl hk h1 h4 => ?_, fun e r r' l hl he hg => ?_⟩, fun s d hs => ⟨fun e h => ?_, fun e h => ?_,
    fun hon hr => ?_, fun e hoff hr => ?_⟩⟩
  · exact rowP_does rfl hs (thermalScan_uncorrected codes h)
  · exact rowP_does rfl hs (throttle_off h)
  · exact ⟨_, rfl, rfl, rowP_does rfl hs (throttle_up hn h0 h15 hhot)⟩
  · exact ⟨_, rfl, rfl, rowP_does rfl hs (throttle_down hn h0 hhot hr)⟩
  · refine ⟨railDown k s, rfl, rfl, rfl, ?_, rowP_does rfl hs (railDownDone_shutdown hl hk h1 h4)⟩
    simp [railDown]
  · refine ⟨lastRailDown e s, rfl, ?_, rfl, rowP_does rfl hs (railDownDone_last hl he hg)⟩
    show s.boot.good.dropLast = _
    rw [hg, List.dropLast_append_of_ne_nil (List.cons_ne_nil _ _)]
    rfl
  · obtain ⟨hnow, hramp, hup⟩ := domUp_shows d e s
    exact ⟨_, hnow, hramp, hup, rowP_does rfl hs (domRampDone_due h)⟩
  · exact rowP_does rfl hs (domSwitchOff_due h)
  · obtain ⟨hdown, hfail, hclosed, hnow⟩ := domFailed_shows d s
    exact ⟨_, hdown, hfail, hclosed, hnow, rowP_does rfl hs (domFail_on hon hr)⟩
  · obtain ⟨hdown, hfail, -, hnow⟩ := domFailed_shows d (s.moveTo (e + 80 * Config.us))
    exact ⟨_, hdown, hfail, hnow.trans (moveTo_now _ _), rowP_does rfl hs (domFail_ramping hoff hr)⟩

end Sys2Proof.Machine
end

section
/-!
PROOFS. Rack power: the poll of the PMBus devices, alerts and stuck segments, hold-up and the return to AC, a string at end of
discharge, and the evaluation of the shed ladder (R334-R346, R358).
-/
namespace Sys2Proof.Machine
open Sys2Proof

/-! ### Polls (R335, R336) -/

/-- An answer as the poll takes it. -/
def pmTuple (a : PmAnswer) : Nat × Bool × Nat × List Nat := (a.device.val, a.ok, a.status.toNat, a.words)

/-- A poll is due: SEG_OK follows the segments. -/
def pollBegun (s : State) : State :=
  let t := s.moveTo (s.rps.pollAt + s.get RPS_CFG_POLL * Config.ms)
  segOk { t with rps := { t.rps with pollAt := t.now } }

/-- The devices a poll reads, those that have answered an alert first. -/
def pollOrder (s : State) : List Nat :=
  let all := (List.range 28).filter (fun i => s.pmKind i 1 || s.pmKind i 2)
  all.filter (fun i => (s.pm i).first) ++ all.filter (fun i => !(s.pm i).first)

/-- Device i is read: one on a segment that is not connected has not answered (log 170). -/
def pollStep (answers : List (Nat × Bool × Nat × List Nat)) (i : Nat) (s : State) : State :=
  match answers.find? (fun a => a.1 = i && a.2.1) with
  | some a => if s.segOn (s.get RPS_DEVCFG_SEG i) then pmAnswer i a.2.2.1 a.2.2.2 s else pmMiss i s
  | none => pmMiss i s

/-- The same, from the answers as the command carries them. -/
def pollOne (l : List PmAnswer) (i : Nat) (s : State) : State :=
  match l.find? (fun a => a.device.val = i && a.ok) with
  | some a => if s.segOn (s.get RPS_DEVCFG_SEG i) then pmAnswer i a.status.toNat a.words s else pmMiss i s
  | none => pmMiss i s

theorem pollStep_map (l : List PmAnswer) : pollStep (l.map pmTuple) = pollOne l := by
  funext i s
  have hfind : (l.map pmTuple).find? (fun a => a.1 = i && a.2.1) =
      (l.find? (fun a => a.device.val = i && a.ok)).map pmTuple := List.find?_map ..
  unfold pollStep pollOne
  rw [hfind]
  cases l.find? (fun a => a.device.val = i && a.ok) <;> rfl

/-- What a poll does that reads its devices by `step`, with the sharing check. -/
def pollWith (step : Nat → State → State) (s : State) : State :=
  imbalance (forAll (pollOrder (pollBegun s)) step (pollBegun s))

theorem pmbusPoll_eq (answers : List (Nat × Bool × Nat × List Nat)) (s : State) : pmbusPoll answers s =
    (let u := pollWith (pollStep answers) s
     if u.rps.enabling && u.get GLB_BOOTSTAT_STAGE = 3 then rackStart u else u) := rfl

section
variable {s : State} {l : List PmAnswer}

theorem pmbusPoll_reads (he : (pollWith (pollOne l) s).rps.enabling = false) :
    pmbusPoll (l.map pmTuple) s = pollWith (pollOne l) s := by
  rw [pmbusPoll_eq, pollStep_map]
  exact if_neg (by rw [he]; exact Bool.false_ne_true)

/-- A written EN starts the rack logic once the firmware runs (log 103). -/
theorem pmbusPoll_starts (he : (pollWith (pollOne l) s).rps.enabling = true)
    (hst : (pollWith (pollOne l) s).get GLB_BOOTSTAT_STAGE = 3) :
    pmbusPoll (l.map pmTuple) s = rackStart (pollWith (pollOne l) s) := by
  rw [pmbusPoll_eq, pollStep_map]
  exact if_pos (by rw [he, hst]; rfl)

theorem pmbusPoll_does {u : State} (hs : s.awake) (hio : s.ioOk 1 = true) (hu : pmbusPoll (l.map pmTuple) s = u) :
    DoesP (.pmbusPoll l) s u :=
  rowP_does (f := fun t => pmbusPoll (if t.ioOk 1 then l.map pmTuple else []) t) rfl hs
    ((congrArg (pmbusPoll · s) (if_pos hio)).trans hu)
end

/-! ### Alerts and segments (R337) -/

section
variable {g : Nat} {s : State}

/-- The devices of segment g whose address has answered an alert. -/
def State.alerted (s : State) (g a : Nat) : List Nat :=
  (List.range 28).filter (fun i => (s.pmKind i 1 || s.pmKind i 2) && s.get RPS_DEVCFG_SEG i = g && s.get RPS_DEVCFG_ADDR i = a)

theorem pmbAlert_answered {a : Nat} (hstuck : s.flag RPS_SEGCTL_ALERT_STUCK g = false) (hon : s.segOn g = true) :
    pmbAlert g (some a) s = forAll (s.alerted g a) (fun i t => t.modPm i (fun d => { d with first := true })) s :=
  if_neg (by simp [hstuck, hon])

theorem pm_modPm_same (s : State) (i : Nat) (f : PmDev → PmDev) : (s.modPm i f).pm i = f (s.pm i) := tabGet_tabMod_same _ _ _

theorem pm_modPm_ne (s : State) {i j : Nat} (f : PmDev → PmDev) (h : i ≠ j) : (s.modPm j f).pm i = s.pm i :=
  tabGet_tabMod_ne _ _ h

/-- An address that answers marks its devices. -/
theorem forAll_first {l : List Nat} {i : Nat} (s : State) (hi : i ∈ l) :
    ((forAll l (fun i t => t.modPm i (fun d => { d with first := true })) s).pm i).first = true := by
  have hmark (j : Nat) (t : State) : ((t.modPm j (fun d => { d with first := true })).pm j).first = true := by
    rw [pm_modPm_same]
  refine forAll_reach (fun t : State => (t.pm i).first = true) _ s hi (hmark i) fun j _ t ht => ?_
  by_cases hj : i = j
  · rw [hj]
    exact hmark j t
  · rw [pm_modPm_ne _ _ hj]
    exact ht

theorem pmbAlert_unanswered (hstuck : s.flag RPS_SEGCTL_ALERT_STUCK g = false) (hon : s.segOn g = true) :
    pmbAlert g none s = s :=
  if_neg (by simp [hstuck, hon])

theorem segStuck_freed (hon : s.segOn g = true) : segStuck g true s = emit ev_PMB_SEG_RECOVERED (360 + g) s :=
  if_neg (by simp [hon])

theorem segStuck_held (hon : s.segOn g = true) : segStuck g false s = segIsolate g s :=
  if_neg (by simp [hon])

theorem alertStuck_new (hstuck : s.flag RPS_SEGCTL_ALERT_STUCK g = false) :
    alertStuck g s = emit ev_PMB_ALERT_STUCK (360 + g) (s.put RPS_SEGCTL_ALERT_STUCK 1 g) :=
  if_neg (ne_true_of_eq_false hstuck)
end

/-! ### Hold-up and the return to AC (R340, R341) -/

/-- 200 µs after the take-over. -/
def slowChecked (t : Nat) (s : State) : State := { s.moveTo t with rps := { s.rps with slowAt := none } }

section
variable {s : State} {t : Nat}

theorem holdupSlow_due (h : s.rps.slowAt = some t) : holdupSlow s =
    if (slowChecked t s).sagBelow then emit ev_HOLDUP_SLOW 364 (slowChecked t s) else slowChecked t s := by
  unfold holdupSlow
  rw [h]
  rfl

theorem rackReturnAc_due (h : s.rps.retSince = some t) (hst : s.get RPS_STAT_STATE = 2 ∨ s.get RPS_STAT_STATE = 3) :
    rackReturnAc s = rackAc (s.moveTo (t + s.get RPS_CFG_RETURN_S * Config.sec)) := by
  unfold rackReturnAc
  rw [h]
  exact if_pos (by simpa using hst)
end

/-! ### Strings (R342) -/

theorem slotStop_now (n : Nat) (s : State) : (slotStop n s).now = s.now := by
  have hrun : (setRun n 0 s).now = s.now := by
    unfold setRun testAbort
    simp only [apply_ite State.now, put_now, ite_self]
  unfold slotStop
  split
  · rfl
  · exact hrun

/-- The slot of a string stops, and the string shows the end of discharge. -/
def stringStopped (k : Nat) (s : State) : State :=
  let n := s.get RPS_STRCFG_SLOT k
  (slotStop n (s.put CTE_SLOTCFG_ENABLE 0 n)).put RPS_STRSTAT_STATE 2 k

/-- A string at end of discharge is taken out, and its voltage counts no longer. -/
def stringOut (k : Nat) (s : State) : State :=
  let t := stringStopped k s
  { t with rps := { t.rps with eodSince := tabSet t.rps.eodSince k none } }

theorem stringEod_due {k t : Nat} {s : State} (h : tabGet s.rps.eodSince k = some t) (hst : s.get RPS_STRSTAT_STATE k = 1)
    (hcov : s.covered (367 + k) = false) :
    stringEod k s = stringOut k (emit ev_STRING_EOD (367 + k) (s.moveTo (t + Config.sec)) (.string k)) := by
  unfold stringEod
  rw [h]
  exact (if_neg (not_not.2 hst)).trans (react_uncovered (s := s.moveTo (t + Config.sec)) _ _ _ _ _ _ _
    (covered_later (s := s) rfl (le_max_left _ _) hcov))

theorem stringOut_shows (k : Nat) (s : State) : (stringOut k s).now = s.now ∧ (stringOut k s).get RPS_STRSTAT_STATE k = 2 ∧
    tabGet (stringOut k s).rps.eodSince k = none := by
  have hnow : (stringStopped k s).now = s.now := by
    unfold stringStopped
    rw [put_now, slotStop_now, put_now]
  have hst : (stringStopped k s).get RPS_STRSTAT_STATE k = 2 := get_put_same _ _ _ _ _ (by decide)
  unfold stringOut
  generalize stringStopped k s = t at hnow hst ⊢
  exact ⟨hnow, (get_congr _ _ _ rfl rfl).trans hst, tabGet_tabSet_same t.rps.eodSince k none⟩

/-! ### The shed ladder (R346, R358) -/

/-- An evaluation is due. -/
def shedDueAt (s : State) : State :=
  let t := s.moveTo (s.rps.shedAt + 10 * Config.ms)
  { t with rps := { t.rps with shedAt := t.now } }

theorem shedEvaluate_eq (s : State) : shedEvaluate s = (let t := shedDueAt s
    showCap (if t.get RPS_STAT_STATE ≠ 0 || t.thermCap.isSome || t.get RPS_STAT_RUNG ≠ 0 then shedLadder t else t)) := rfl

/-- Settles O47: each event takes the branch its conditions name. A poll counts a device on a segment that is not connected as
one that does not answer (log 170), and starts the rack logic once the firmware runs (log 103); HOLDUP_SLOW is R340, the end of
discharge R342, and the ladder works outside OFF (log 104) and under the thermal cap (R358). -/
theorem rackPowerEvents : Obligations.RackPowerEvents := by
  refine fun s hs => ⟨fun l hio => ⟨fun he => ?_, fun he hst => ?_⟩, fun g a hio hstuck hon => ?_, fun g h => ?_, fun g hio hon => ?_,
    fun g hio hon => ?_, fun g hio hstuck => ?_, fun t h => ?_, fun t h hst => ?_, fun k t h hst hcov => ?_, ?_⟩
  · exact pmbusPoll_does hs hio (pmbusPoll_reads he)
  · exact pmbusPoll_does hs hio (pmbusPoll_starts he hst)
  · refine ⟨_, rowP_does rfl hs ((pinIn_ok _ hio).trans (pmbAlert_answered hstuck hon)), fun i hi hkind hseg haddr =>
      forAll_first s ?_⟩
    rw [State.alerted, List.mem_filter]
    exact ⟨List.mem_range.2 hi, by simp only [hkind, hseg, haddr, decide_true, Bool.and_self]⟩
  · refine rowP_does rfl hs ?_
    rcases h with hio | ⟨hstuck, hon⟩
    · exact pinIn_bad _ hio
    · unfold pinIn
      rw [Option.map_none, pmbAlert_unanswered hstuck hon, ite_self]
  · exact rowP_does rfl hs ((pinIn_ok _ hio).trans (segStuck_freed hon))
  · exact rowP_does rfl hs ((pinIn_ok _ hio).trans (segStuck_held hon))
  · refine ⟨_, rowP_does rfl hs ((pinIn_ok _ hio).trans (alertStuck_new hstuck)), ?_⟩
    rw [State.flag, emit_get (by decide), get_put_same _ _ _ _ _ (by decide)]
    rfl
  · have hdue := holdupSlow_due h
    exact ⟨slowChecked t s, rfl, rfl, fun hb => rowP_does rfl hs (hdue.trans (if_pos hb)),
      fun hb => rowP_does rfl hs (hdue.trans (if_neg (ne_true_of_eq_false hb)))⟩
  · exact rowP_does rfl hs (rackReturnAc_due h hst)
  · obtain ⟨hnow, hout, heod⟩ := stringOut_shows k (emit ev_STRING_EOD (367 + k.val) (s.moveTo (t + Config.sec)) (.string k.val))
    refine ⟨_, rowP_does rfl hs (stringEod_due h hst hcov), ?_, hout, heod⟩
    rw [hnow, emit_now, moveTo_now]
  · exact ⟨shedDueAt s, rfl, rfl, rowP_does rfl hs (shedEvaluate_eq s)⟩

end Sys2Proof.Machine
end

section
/-!
PROOFS. Conversions, reference checks, filter channels and window comparators of the measurement chain (R280-R304).
-/
namespace Sys2Proof.Machine
open Sys2Proof

/-! ### Units (R280-R284) -/

theorem hk_modHk_same (s : State) (u : Nat) (f : HkUnit → HkUnit) : (s.modHk u f).hk u = f (s.hk u) := tabGet_tabMod_same _ _ _

theorem hk_congr {s t : State} (u : Nat) (h : t.mea = s.mea) : t.hk u = s.hk u := by
  unfold State.hk
  rw [h]

section
variable {u : Nat} {s : State}

/-- Unit u has converted once more: its next conversion is due 500 ns on. -/
def converted (u : Nat) (s : State) : State :=
  (s.moveTo (s.hk u).due).modHk u (fun h =>
    { h with due := max s.now (s.hk u).due + 500 * Config.ticksPerNs, n := h.n + 1 })

theorem converted_get (u : Nat) (s : State) (f : Fld) (i j : Nat) : (converted u s).get f i j = s.get f i j :=
  get_congr f i j rfl rfl

theorem converted_idx (u : Nat) (s : State) : ((converted u s).hk u).idx = (s.hk u).idx := by
  unfold converted
  rw [hk_modHk_same]
  rfl

theorem converted_tableLen (u : Nat) (s : State) : (converted u s).tableLen u = s.tableLen u :=
  congrArg (· + 1) (converted_get u s _ _ _)

theorem hkConversion_feeds (raw dither : Nat) (hok : s.unitOk u = true) (hcor : s.mea.corrected = true)
    (hown : s.flag MEA_STAT_TAKEOVER = false) (hen : s.flag MEA_UCFG_EN u = true) (hn : (s.hk u).n < 65536) :
    hkConversion u raw dither s = (let i := (s.hk u).idx % s.tableLen u
      feed (s.get MEA_SEQ_CH u i) (min 65535 (raw - dither)) raw
        ((converted u s).modHk u (fun h => { h with idx := (i + 1) % s.tableLen u }))) := by
  have hruns : (!s.unitOk u || !s.mea.corrected || decide (65536 ≤ (s.hk u).n)) = false := by simp [hok, hcor, hn]
  have hen' : (converted u s).flag MEA_UCFG_EN u = true := by
    unfold State.flag
    rw [converted_get]
    exact hen
  have hidx := converted_idx u s
  have hlen := converted_tableLen u s
  have hch := converted_get u s MEA_SEQ_CH u
  unfold converted at hen' hidx hlen hch ⊢
  unfold hkConversion
  simp only [hruns, hown, Bool.false_eq_true, if_false, moveTo_now, hen', hidx, hlen, hch, Bool.not_true]

/-- The check of unit u has left the count `bad` of failed checks, and its next conversion is due 1 µs on. -/
def refChecked (u bad : Nat) (s : State) : State :=
  s.modHk u (fun h => { h with bad := bad, n := 0, due := h.due + 1000 * Config.ticksPerNs })

theorem refChecked_hk (u bad : Nat) (s : State) : (refChecked u bad s).hk u =
    { s.hk u with bad := bad, n := 0, due := (s.hk u).due + 1000 * Config.ticksPerNs } := hk_modHk_same _ _ _

theorem refOk_iff (r : RefReadings) : refOk r = true ↔ 32702 ≤ r.ref.toNat ∧ r.ref.toNat ≤ 32834 ∧ r.ground.toNat ≤ 64 := by
  simp [refOk, and_assoc]

section
variable (hok : s.unitOk u = true) (hcor : s.mea.corrected = true) (hn : 65536 ≤ (s.hk u).n)
include hok hcor hn

theorem hkRefCheck_due (ok : Bool) : hkRefCheck u ok s = (let bad := if ok then 0 else (s.hk u).bad + 1
    if bad = 2 then react ev_HK_UNIT_FAIL (320 + u) .none (unitFail u) (refChecked u bad s) else refChecked u bad s) :=
  if_neg (by simp [hok, hcor, hn])

theorem hkRefCheck_passes : hkRefCheck u true s = refChecked u 0 s :=
  (hkRefCheck_due hok hcor hn true).trans (if_neg (Nat.zero_ne_add_one 1))

theorem hkRefCheck_second_failure (hbad : (s.hk u).bad = 1) (hcov : s.covered (320 + u) = false) :
    hkRefCheck u false s = unitFail u (emit ev_HK_UNIT_FAIL (320 + u) (refChecked u 2 s)) := by
  have hcov' : (refChecked u 2 s).covered (320 + u) = false := covered_later (s := s) rfl le_rfl hcov
  rw [hkRefCheck_due hok hcor hn, hbad]
  exact (if_pos rfl).trans (react_uncovered (s := refChecked u 2 s) _ _ _ _ _ _ _ hcov')

end

/-- The correction of R284 has ended at 2 ms with both units working. -/
def correctionEnded (s : State) : State :=
  let t := s.moveTo (s.mea.onAt + 2 * Config.ms)
  let w := { t with mea := { t.mea with corrected := true, waiting := (List.range 64).filter (fun c => t.cmpModeCfg c ≠ 0) } }
  ((w.modHk 0 (fun h => { h with due := w.now, n := 0 })).modHk 1 (fun h => { h with due := w.now, n := 0 })).put MEA_STAT_UNIT_OK 3

theorem correctionDone_both (hcor : s.mea.corrected = false) : correctionDone 3 s = nextCheck (correctionEnded s) := by
  have hnone : (List.range 2).filter (fun u => !bitOf 3 u) = [] := by decide
  unfold correctionDone
  rw [if_neg (ne_true_of_eq_false hcor), hnone]
  rfl

theorem correctionEnded_shows (s : State) : (correctionEnded s).mea.corrected = true ∧
    (correctionEnded s).get MEA_STAT_UNIT_OK = 3 ∧ (correctionEnded s).now = max s.now (s.mea.onAt + 2 * Config.ms) :=
  ⟨rfl, get_put_same _ MEA_STAT_UNIT_OK _ _ _ (by decide), rfl⟩

end

/-! ### Filter channels (R289, R291) -/

section
variable {ch : Nat} {s : State}

section
variable (hen : s.flag MEA_CHCFG_EN ch = true) (hma : s.chFir ch = false)
include hen hma

theorem chFallback_filters (hfir : s.flag MEA_CHFIR_FIR_OK ch = true) : chFallback ch s =
    emit ev_CH_FALLBACK (322 + ch / 4) (missSample ch (s.put MEA_CHSTAT_FALLBACK 1 ch)) .none 0 ch :=
  (if_neg (by simp [hen, hma])).trans (if_pos hfir)

theorem chFallback_stops (hfir : s.flag MEA_CHFIR_FIR_OK ch = false) (hcov : s.covered (322 + ch / 4) = false) :
    chFallback ch s = missSample ch ((emit ev_CH_STOPPED (322 + ch / 4) s .none 0 ch).put MEA_CHCFG_EN 0 ch) :=
  ((if_neg (by simp [hen, hma])).trans (if_neg (ne_true_of_eq_false hfir))).trans
    (react_uncovered (s := s) _ _ _ _ _ _ _ hcov)

end

theorem choutRead_stamp (ch : Nat) (s : State) : (choutRead ch s).get MEA_CHTS_V ch 0 = (s.chan ch).stamp % 2 ^ 32 ∧
    (choutRead ch s).get MEA_CHTS_V ch 1 = (s.chan ch).stamp / 2 ^ 32 % 2 ^ 32 := by
  have hhalves : regOff MEA_CHTS_V.fam ch 0 ≠ regOff MEA_CHTS_V.fam ch 1 := by
    unfold regOff
    exact (Nat.add_lt_add_left (by decide) _).ne
  unfold choutRead
  refine ⟨?_, get_put_same _ MEA_CHTS_V _ ch 1 (by decide)⟩
  rw [get_put_ne _ MEA_CHTS_V MEA_CHTS_V _ _ _ _ _ (.inr hhalves)]
  exact get_put_same _ MEA_CHTS_V _ ch 0 (by decide)

end

/-! ### A comparator changes its state (R292-R297) -/

section
variable {c st : Nat} {s : State}

/-- The moment of a change before `s`, in device time: the age of its sample and the response of the mode back (R296). -/
def State.changeStamp (s : State) (c age : Nat) : Nat := s.devTime - (age + cmpResponse (s.cmpMode c)) * 2 ^ 32 / Config.sec

/-- The change of comparator c to `st` stands in its registers: STATE and RAW, the count of changes, and its stamp. -/
def changeStored (c st age : Nat) (s : State) : State :=
  ((((s.put MEA_CMPSTAT_STATE st c).put MEA_CMPSTAT_RAW st c).put MEA_CMPSTAT_CHANGES
    ((s.get MEA_CMPSTAT_CHANGES c + 1) % 65536) c).put MEA_CMPTS_V (s.changeStamp c age) c 0).put MEA_CMPTS_V
    (s.changeStamp c age / 2 ^ 32) c 1

theorem get_changeStamp_apart (s : State) {g : Fld} (v v' c : Nat) (h1 : g.fam.s1 = MEA_CMPTS.s1)
    (h : g.fam.base + 4 = MEA_CMPTS.base) :
    ((s.put MEA_CMPTS_V v c 0).put MEA_CMPTS_V v' c 1).get g c 0 = s.get g c 0 := by
  have hoff : ∀ j, regOff g.fam c 0 ≠ regOff MEA_CMPTS c j := by
    intro j
    unfold regOff
    rw [h1]
    omega
  rw [get_put_ne _ MEA_CMPTS_V g _ _ _ _ _ (.inr (hoff 1)), get_put_ne _ MEA_CMPTS_V g _ _ _ _ _ (.inr (hoff 0))]

theorem changeStored_shows (c age : Nat) (s : State) (hst : st < 4) : (changeStored c st age s).get MEA_CMPSTAT_STATE c = st ∧
    (changeStored c st age s).get MEA_CMPSTAT_RAW c = st ∧
    (changeStored c st age s).get MEA_CMPSTAT_CHANGES c = (s.get MEA_CMPSTAT_CHANGES c + 1) % 65536 ∧
    (changeStored c st age s).get MEA_CMPTS_V c 0 = s.changeStamp c age % 2 ^ 32 := by
  have hhalves : regOff MEA_CMPTS_V.fam c 0 ≠ regOff MEA_CMPTS_V.fam c 1 := by
    unfold regOff
    exact (Nat.add_lt_add_left (by decide) _).ne
  unfold changeStored
  refine ⟨?_, ?_, ?_, ?_⟩
  · rw [get_changeStamp_apart _ _ _ _ rfl rfl, get_put_apart _ MEA_CMPSTAT_CHANGES MEA_CMPSTAT_STATE _ _ _ rfl (by decide) (by decide),
      get_put_apart _ MEA_CMPSTAT_RAW MEA_CMPSTAT_STATE _ _ _ rfl (by decide) (by decide),
      get_put_same _ MEA_CMPSTAT_STATE _ _ _ (by decide)]
    exact Nat.mod_eq_of_lt hst
  · rw [get_changeStamp_apart _ _ _ _ rfl rfl, get_put_apart _ MEA_CMPSTAT_CHANGES MEA_CMPSTAT_RAW _ _ _ rfl (by decide) (by decide),
      get_put_same _ MEA_CMPSTAT_RAW _ _ _ (by decide)]
    exact Nat.mod_eq_of_lt hst
  · rw [get_changeStamp_apart _ _ _ _ rfl rfl, get_put_same _ MEA_CMPSTAT_CHANGES _ _ _ (by decide)]
    exact Nat.mod_mod _ _
  · rw [get_put_ne _ MEA_CMPTS_V MEA_CMPTS_V _ _ _ _ _ (.inr hhalves)]
    exact get_put_same _ MEA_CMPTS_V _ c 0 (by decide)

theorem changeStored_evEn (c st age : Nat) (s : State) :
    (changeStored c st age s).flag MEA_CMPROUTE_EV_EN c = s.flag MEA_CMPROUTE_EV_EN c := by
  have hts : ∀ j, regOff MEA_CMPROUTE c 0 ≠ regOff MEA_CMPTS c j := by
    intro j
    unfold regOff
    have h1 : MEA_CMPROUTE.s1 = MEA_CMPTS.s1 := rfl
    have hb : MEA_CMPROUTE.base < MEA_CMPTS.base := by decide
    rw [h1]
    omega
  unfold changeStored State.flag
  rw [get_put_ne _ MEA_CMPTS_V MEA_CMPROUTE_EV_EN _ _ _ _ _ (.inr (hts 1)),
    get_put_ne _ MEA_CMPTS_V MEA_CMPROUTE_EV_EN _ _ _ _ _ (.inr (hts 0)),
    get_put_base _ MEA_CMPSTAT_CHANGES MEA_CMPROUTE_EV_EN _ _ _ rfl rfl (by decide),
    get_put_base _ MEA_CMPSTAT_RAW MEA_CMPROUTE_EV_EN _ _ _ rfl rfl (by decide),
    get_put_base _ MEA_CMPSTAT_STATE MEA_CMPROUTE_EV_EN _ _ _ rfl rfl (by decide)]

theorem changeStored_now (c st age : Nat) (s : State) : (changeStored c st age s).now = s.now := by
  simp only [changeStored, put_now]

/-- The comparator shows a change to `st`: it is on and in service, neither checked nor held, and stands in another state. -/
structure ChangeSeen (c st : Nat) (s : State) : Prop where
  unchecked : s.flag MEA_CMPSTAT_CHECKING c = false
  inService : s.cmpOut c = false
  on : s.cmpMode c ≠ 0
  free : tabGet s.mea.hold c ≤ s.now
  known : st ≠ 3
  other : s.get MEA_CMPSTAT_STATE c ≠ st

theorem cmpChange_triggers {age : Nat} (h : ChangeSeen c st s) (hev : s.flag MEA_CMPROUTE_EV_EN c = false)
    (hrack : (cmpTrigger c (s.now - (age + cmpResponse (s.cmpMode c))) (changeStored c st age s)).flag RPS_CFG_EN = false)
    (hawake : (cmpTrigger c (s.now - (age + cmpResponse (s.cmpMode c))) (changeStored c st age s)).rstate 16 ≠ 0) :
    cmpChange c st age s = cmpTrigger c (s.now - (age + cmpResponse (s.cmpMode c))) (changeStored c st age s) := by
  obtain ⟨hchk, hin, hon, hfree, hst, hne⟩ := h
  have hquiet : (changeStored c st age s).flag MEA_CMPROUTE_EV_EN c = false := (changeStored_evEn c st age s).trans hev
  unfold cmpChange
  refine (if_neg (by simp [hchk, hin, hon, hfree, hst, hne])).trans ?_
  extract_lets +onlyGivenNames back stamp s1 s2 s3 s4 s5
  have h3 : s3 = changeStored c st age s := if_neg (ne_true_of_eq_false hquiet)
  have h4 : s4 = cmpTrigger c (s.now - back) (changeStored c st age s) := by
    rw [← changeStored_now c st age s, ← h3]
  have h5 : s5 = s4 := if_neg (by rw [h4, hrack]; exact Bool.false_ne_true)
  rw [h5, h4]
  exact if_neg (by simp [hawake, back])

end

/-! ### Self-checks (R299-R301) -/

section
variable {s : State}

/-- The check `k` has ended with `res`, and shows in MEA_CHKSTAT. -/
def checkEnded (k : Check) (res : Nat) (s : State) : State :=
  (((holdCmp k.cmp { s.moveTo k.endAt with mea := { s.mea with check := none } }).put MEA_CMPSTAT_CHECKING 0 k.cmp).put
    MEA_CHKSTAT_CMP k.cmp).put MEA_CHKSTAT_RESULT res

/-- The end of a check that the host started also clears its GO. -/
def checkShown (k : Check) (res : Nat) (s : State) : State :=
  if k.go then (checkEnded k res s).put MEA_CHKCTL_GO 0 else checkEnded k res s

/-- A check that failed nothing; a full one of the host puts its comparator back into service. -/
def checkPassed (k : Check) (res : Nat) (s : State) : State :=
  let t := checkShown k res s
  if res = 1 && k.kind = 3 && k.go then
    { t with mea := { t.mea with out := t.mea.out.filter (fun x => x ≠ k.cmp) } }.put MEA_CMPSTAT_CHK_FAIL 0 k.cmp
  else t

theorem checkResult_passed {k : Check} {r : CheckReadings} (htie : s.tieOk k.cmp r = true) (hswap : swapOk r = true)
    (hread : s.readOk k.cmp r = true) : s.checkResult k r = if k.tie || k.swap || k.read then 1 else 5 := by
  simp [State.checkResult, htie, hswap, hread]

theorem checkDone_passed {k : Check} {r : CheckReadings} (hk : s.mea.check = some k)
    (hres : s.checkResult k r = 1 ∨ s.checkResult k r = 5) :
    checkDone r s = nextCheck (checkPassed k (s.checkResult k r) s) := by
  have hgood : ¬ ((2 ≤ s.checkResult k r && s.checkResult k r ≤ 4) = true) := by
    rcases hres with h | h <;> rw [h] <;> decide
  unfold checkDone
  rw [hk]
  exact congrArg nextCheck (if_neg hgood)

theorem regOff_cmpStat_ne (c : Nat) {f : RegFam} (hf : regOff f 0 0 < MEA_CMPSTAT.base) :
    regOff MEA_CMPSTAT c 0 ≠ regOff f 0 0 := (hf.trans_le (base_le_regOff _ _ _)).ne'

theorem checkEnded_shows (k : Check) {res : Nat} (s : State) (hres : res < 8) : (checkEnded k res s).now = max s.now k.endAt ∧
    (checkEnded k res s).mea.check = none ∧ (checkEnded k res s).get MEA_CMPSTAT_CHECKING k.cmp = 0 ∧
    (checkEnded k res s).get MEA_CHKSTAT_RESULT = res := by
  have hstat : regOff MEA_CMPSTAT k.cmp 0 ≠ regOff MEA_CHKSTAT 0 0 := regOff_cmpStat_ne _ (by decide)
  refine ⟨rfl, rfl, ?_, ?_⟩
  · unfold checkEnded
    rw [get_put_ne _ MEA_CHKSTAT_RESULT MEA_CMPSTAT_CHECKING _ _ _ _ _ (.inr hstat),
      get_put_ne _ MEA_CHKSTAT_CMP MEA_CMPSTAT_CHECKING _ _ _ _ _ (.inr hstat)]
    exact get_put_same _ MEA_CMPSTAT_CHECKING _ _ _ (by decide)
  · exact (get_put_same _ MEA_CHKSTAT_RESULT _ _ _ (by decide)).trans (Nat.mod_eq_of_lt hres)

theorem checkShown_shows (k : Check) {res : Nat} (s : State) (hres : res < 8) : (checkShown k res s).now = max s.now k.endAt ∧
    (checkShown k res s).mea.check = none ∧ (checkShown k res s).get MEA_CMPSTAT_CHECKING k.cmp = 0 ∧
    (checkShown k res s).get MEA_CHKSTAT_RESULT = res := by
  have hctl : regOff MEA_CMPSTAT k.cmp 0 ≠ regOff MEA_CHKCTL 0 0 := regOff_cmpStat_ne _ (by decide)
  have hended := checkEnded_shows k s hres
  unfold checkShown
  generalize checkEnded k res s = t at hended ⊢
  obtain ⟨hnow, hnone, hchk, hval⟩ := hended
  split
  · exact ⟨hnow, hnone, (get_put_ne t MEA_CHKCTL_GO MEA_CMPSTAT_CHECKING _ _ _ _ _ (.inr hctl)).trans hchk,
      (get_put_base t MEA_CHKCTL_GO MEA_CHKSTAT_RESULT _ 0 0 rfl rfl (by decide)).trans hval⟩
  · exact ⟨hnow, hnone, hchk, hval⟩

theorem checkPassed_shows (k : Check) {res : Nat} (s : State) (hres : res < 8) : (checkPassed k res s).now = max s.now k.endAt ∧
    (checkPassed k res s).mea.check = none ∧ (checkPassed k res s).get MEA_CMPSTAT_CHECKING k.cmp = 0 ∧
    (checkPassed k res s).get MEA_CHKSTAT_RESULT = res := by
  have hstat : regOff MEA_CHKSTAT 0 0 ≠ regOff MEA_CMPSTAT k.cmp 0 := (regOff_cmpStat_ne _ (by decide)).symm
  have hshown := checkShown_shows k s hres
  unfold checkPassed
  generalize checkShown k res s = t at hshown ⊢
  obtain ⟨hnow, hnone, hchk, hval⟩ := hshown
  split
  · exact ⟨hnow, hnone,
      ((get_put_apart _ MEA_CMPSTAT_CHK_FAIL MEA_CMPSTAT_CHECKING _ _ _ rfl (by decide) (by decide)).trans
        (get_congr (s := t) _ _ _ rfl rfl)).trans hchk,
      ((get_put_ne _ MEA_CMPSTAT_CHK_FAIL MEA_CHKSTAT_RESULT _ _ _ _ _ (.inr hstat)).trans
        (get_congr (s := t) _ _ _ rfl rfl)).trans hval⟩
  · exact ⟨hnow, hnone, hchk, hval⟩

/-- The time of the automatic check has come. -/
def autoDue (s : State) : State :=
  let t := s.moveTo (s.mea.autoAt + s.get MEA_CHKCTL_AUTO_S * Config.sec)
  { t with mea := { t.mea with autoAt := t.now } }

/-- The comparator the automatic check takes: the next one from where it stood whose mode is set. -/
def State.autoPick (s : State) : Option Nat :=
  ((List.range 64).map (fun i => (s.mea.autoNext + i) % 64)).find? (fun c => s.cmpModeCfg c ≠ 0)

theorem autoPick_none (h : ∀ c < 64, s.cmpModeCfg c = 0) : s.autoPick = none := by
  refine List.find?_eq_none.2 fun c hc => ?_
  obtain ⟨i, -, rfl⟩ := List.mem_map.1 hc
  simp [h _ (Nat.mod_lt _ (by decide))]

section
variable (hn : s.get MEA_CHKCTL_AUTO_S ≠ 0) (hk : s.mea.check = none) (hawake : s.rstate 16 ≠ 0)
include hn hk hawake

theorem autoCheck_idle (hpick : s.autoPick = none) : autoCheck s = autoDue s := by
  unfold State.autoPick at hpick
  unfold autoCheck
  refine (if_neg (by simp [hn, hk, hawake])).trans ?_
  simp only [hpick]
  rfl

theorem autoCheck_starts {c : Nat} (hpick : s.autoPick = some c) : autoCheck s =
    startCheck c 3 false { autoDue s with mea := { (autoDue s).mea with autoNext := (c + 1) % 64 } } := by
  unfold State.autoPick at hpick
  unfold autoCheck
  refine (if_neg (by simp [hn, hk, hawake])).trans ?_
  simp only [hpick]
  rfl

end

end

/-- Settles O44: each command is its operation's case under the hypotheses of its clause. That MEA_CMPSTAT.RAW takes the new state
together with STATE is the model's reading of R304 (log 100). -/
theorem measurementEvents : Obligations.MeasurementEvents := by
  unfold Obligations.MeasurementEvents
  refine ⟨fun s hs => ⟨?_, ?_, ?_, ?_, ?_, ?_, ?_, ?_, ?_, ?_, ?_⟩, ?_⟩
  · intro u raw dither hok hcor hown hen hn
    exact rowP_does (f := fun t => rackChannel (hkConversion u raw.toNat dither t)) rfl hs
      (congrArg rackChannel (hkConversion_feeds raw.toNat dither hok hcor hown hen hn))
  · intro u r hok hcor hn hlo hhi hgnd
    have hgood : refOk r = true := (refOk_iff r).2 ⟨hlo, hhi, hgnd⟩
    refine ⟨_, rowP_does (f := hkRefCheck u (refOk r)) rfl hs (hgood ▸ hkRefCheck_passes hok hcor hn), ?_⟩
    rw [refChecked_hk]
    exact ⟨rfl, rfl, rfl⟩
  · intro u r hok hcor hn hbad hcov hout
    have hpoor : refOk r = false := by
      rw [← Bool.not_eq_true, refOk_iff]
      omega
    refine ⟨_, ?_, rowP_does (f := hkRefCheck u (refOk r)) rfl hs (hpoor ▸ hkRefCheck_second_failure hok hcor hn hbad hcov)⟩
    rw [hk_congr _ (emit_mea ..), refChecked_hk]
  · intro hcor
    obtain ⟨hdone, hunits, hnow⟩ := correctionEnded_shows s
    exact ⟨_, hdone, hunits, hnow, rowP_does (f := correctionDone 3) rfl hs (correctionDone_both hcor)⟩
  · exact fun ch hen hma hfir => rowP_does rfl hs (chFallback_filters hen hma hfir)
  · exact fun ch hen hma hfir hcov => rowP_does rfl hs (chFallback_stops hen hma hfir hcov)
  · intro ch hl
    exact ⟨_, hostBell_does rfl hl rfl, choutRead_stamp ch s⟩
  · exact fun c st age _ _ _ _ _ _ => rowP_does (f := fun t => rackSag c (cmpChange c st age t)) rfl hs rfl
  · intro k l hk htie hswap hread
    have hres := checkResult_passed htie hswap hread
    have hends : s.checkResult k l = 1 ∨ s.checkResult k l = 5 := by
      rw [hres]
      exact (ite_eq_or_eq _ _ _)
    obtain ⟨hnow, hnone, hchk, hval⟩ := checkPassed_shows k s (res := s.checkResult k l) (by omega)
    exact ⟨_, hnow, hnone, hchk, hval.trans hres, rowP_does rfl hs (checkDone_passed hk hends)⟩
  · intro hn hk hawake hoff
    exact ⟨_, rowP_does rfl hs (autoCheck_idle hn hk hawake (autoPick_none hoff)), rfl, rfl⟩
  · intro c hn hk hawake hpick
    exact ⟨_, rfl, rfl, rfl, rowP_does rfl hs (autoCheck_starts hn hk hawake hpick)⟩
  · intro s c st age hchk hin hon hfree hst hne hev
    have hseen : ChangeSeen c st s := ⟨hchk, hin, hon, hfree, fun h => hst (Fin.ext h), hne⟩
    obtain ⟨hstate, hraw, hchanges, hstamp⟩ := changeStored_shows (st := st) c age s st.isLt
    exact ⟨changeStored c st age s, hstate, hraw, hchanges, hstamp, cmpChange_triggers hseen hev⟩

end Sys2Proof.Machine
end
